-- ==== Sys2Proof/Word.lean ====
section
/-! DEFINITION. The word types of the VT-840: bytes, 40-bit addresses, and the level of a wire. -/

namespace Sys2Proof

/-- One byte, as it crosses the ports and the management link. -/
abbrev Byte := BitVec 8

/-- A byte address (00_scope.md: "Addresses are byte addresses, 40 bits wide"). -/
abbrev Addr := BitVec 40

/-- A source number, 0–15 (00_scope.md, "Source number"). -/
abbrev Source := BitVec 4

/-- The level of a line or pin. -/
inductive Level
  | low
  | high
  deriving DecidableEq, Repr

end Sys2Proof
end

