-- ==== Sys2Proof/Machine/Bytes.lean ====
section
/-! DEFINITION. Little-endian fields of byte records (12: "Multi-byte fields are little-endian"), check sums, and
saturating counts. -/

namespace Sys2Proof.Machine

/-- The `n` bytes of the number `v`, least significant first. -/
def leBytes : Nat → Nat → List Byte
  | 0, _ => []
  | n + 1, v => BitVec.ofNat 8 v :: leBytes n (v / 256)

/-- The number that bytes hold, least significant first. -/
def leNat : List Byte → Nat
  | [] => 0
  | b :: bs => b.toNat + 256 * leNat bs

/-- The number in the `n` bytes of a record from byte `off`. -/
def leField (bs : List Byte) (off n : Nat) : Nat := leNat ((bs.drop off).take n)

/-- The byte at an offset of a record. -/
def byteAt (bs : List Byte) (off : Nat) : Byte := bs.getD off 0

/-- The signed number in the `n` bytes of a record from byte `off` (12: two's complement). -/
def leSigned (bs : List Byte) (off n : Nat) : Int := (BitVec.ofNat (8 * n) (leField bs off n)).toInt

/-- The four bytes of a signed 32-bit position. -/
def signedBytes (x : Int) : List Byte := leBytes 4 (BitVec.ofInt 32 x).toNat

/-- The 8-bit sum of bytes (R175, R176). -/
def byteSum : List Byte → Byte
  | [] => 0
  | b :: bs => b + byteSum bs

/-- The byte that brings the 8-bit sum of a record to 0 (R175, R176). -/
def checkByte (bs : List Byte) : Byte := 0 - byteSum bs

/-- The sum of 16-bit little-endian words, modulo 65536 (R118). -/
def wordSum : List Byte → BitVec 16
  | a :: b :: bs => BitVec.ofNat 16 (a.toNat + 256 * b.toNat) + wordSum bs
  | [a] => BitVec.ofNat 16 a.toNat
  | [] => 0

/-- A record of exactly `n` bytes: cut, or filled up with zeros (R190: unused positions are sent as 0). -/
def padTo (n : Nat) (bs : List Byte) : List Byte := (bs ++ List.replicate (n - bs.length) 0).take n

/-- `n` zero bytes. -/
def zeros (n : Nat) : List Byte := List.replicate n 0

/-- Yes or no, set or clear as a byte (R190). -/
def boolByte (b : Bool) : Byte := if b then 1 else 0

/-- Bits 0, 1, … of a number from a list of yes or no. -/
def bitsNat : List Bool → Nat
  | [] => 0
  | b :: bs => b.toNat + 2 * bitsNat bs

/-- A saturating count (00_scope.md, "Saturating counts"). -/
def satAdd (limit a b : Nat) : Nat := min limit (a + b)

/-- An unsigned division rounded up. -/
def ceilDiv (a b : Nat) : Nat := (a + b - 1) / b

end Sys2Proof.Machine
end

