-- ==== Sys2Proof/Config.lean ====
section
/-! DEFINITION. What the manual fixes once for the part (sizes and limits), and the free values: constants
without a body, for what the manual leaves open. -/

namespace Sys2Proof.Config

/-- A unit is an aligned 64-byte piece of address space (00_scope.md). -/
abbrev unitBytes : Nat := 64

/-- A segment is 256 KiB of the capture store (00_scope.md). -/
abbrev segmentBytes : Nat := 262144

/-- Segments of the capture store (R76). -/
abbrev segments : Nat := 4096

/-- A lane aperture and a review window are 16 MiB (R145). -/
abbrev apertureBytes : Nat := 16777216

/-- Slots of the Take Table (R23). -/
abbrev takeSlots : Nat := 1024

/-- Records of the Tube Register (R1). -/
abbrev tubeCount : Nat := 16384

/-- Transactions the in-flight list holds (R143). -/
abbrev inFlightLimit : Nat := 32

/-- Places of the pending notice queue (R161). -/
abbrev noticeQueueLimit : Nat := 16

/-- Slots of the notice ring (R149). -/
abbrev ringSlots : Nat := 1024

/-- Forwarded grants an internal requester waits through at most (R155). -/
abbrev forwardedGrantLimit : Nat := 4

/-- The value of the serial counter that means spent: one above the last serial (R25). -/
abbrev spentSerial : Nat := 4294967296

/-- FREE VALUE (log 9): how many WAIT bytes the part returns before a reply.
R176: "The number of WAIT bytes is not fixed by the part, and it may be zero." -/
opaque waitBytes : Nat → Nat

/-- FREE VALUE (log 11): the four bytes STATUS shows for the serial counter once it is spent; its value is then
beyond 32 bits and no rule states what is shown (R25, R181, R190). -/
opaque spentCounterShown : Nat → BitVec 32

/-- FREE VALUE (log 12): the byte on the link while chip select is low and the link waits for it to rise after a
power-on reset (R175 states no byte for that time). -/
opaque byteOutsideFrame : Nat → Byte

end Sys2Proof.Config
end

