-- ==== Sys2Proof/Syntax.lean ====
section
/-! DEFINITION. The commands of the VT-840: one constructor of `Instr` for each row of spec/opcode_table.json, with
the operands the owning rule gives. Operands of management requests are the fields of the request as they cross the link (R189, R190):
whether a field is in range is judged by the meaning. -/

namespace Sys2Proof

/-- A rig-port transaction is a read of some bytes, or a write with its data (R143). -/
inductive RigOp
  | read (size : Nat)
  | write (data : List Byte)
  deriving DecidableEq, Repr

/-- How many bytes the transaction covers. -/
def RigOp.size : RigOp → Nat
  | .read n => n
  | .write data => data.length

/-- A rig-port transaction: its address, its source number, and what it is (R143). -/
structure RigTxn where
  addr : Addr
  source : Source
  op : RigOp
  deriving DecidableEq, Repr

/-- What the memory controller answers for an issued read: the 64 bytes of the unit that holds the access, of which
the access takes its own, or an error (R144; log 6). -/
inductive ReadReturn
  | data (unit : Vector Byte 64)
  | error
  deriving DecidableEq, Repr

/-- The tables of the management link (R179, R189). -/
inductive TableSel
  | layout | global | laneConfig | laneStatus | take | tube | window | amendment | watch | lines | status
  deriving DecidableEq, Repr

/-- The tables that cannot be written (R179). -/
inductive ReadOnlyTable
  | laneStatus | take | status
  deriving DecidableEq, Repr

/-- The status of a reply (R177, R189). -/
inductive Status
  | done | refusedState | refusedLocked | badIndex | badValue | badCheck | badLayout | bound | unknownCommand
  deriving DecidableEq, Repr

/-- The layout table's five bases (R145), which are also the fields of the LAYOUT entry (R190). -/
structure Layout where
  lane : Addr
  review : Addr
  capture : Addr
  marker : Addr
  ring : Addr
  deriving DecidableEq, Repr

/-- The fields of a GLOBAL entry (R180, R190). -/
structure GlobalEntry where
  mask : BitVec 16
  lowMark : BitVec 16
  highMark : BitVec 16
  enables : BitVec 16
  plugs : BitVec 16
  divider : BitVec 16
  period : BitVec 16
  window : BitVec 16
  deriving DecidableEq, Repr

/-- The fields of a LANE_CONFIG entry (R46, R190). -/
structure LaneConfigEntry where
  dataSource : Byte
  markerSource : Byte
  channels : Byte
  detector : Byte
  threshold : BitVec 16
  release : BitVec 16
  landmarkSpacing : BitVec 16
  tolerance : BitVec 16
  sampleSpacing : Byte
  reservation : Byte
  idle : BitVec 16
  drain : BitVec 16
  admission : BitVec 16
  deriving DecidableEq, Repr

/-- The written fields of a TUBE entry (R15, R190); its other bytes are ignored on a write. -/
structure TubeEntry where
  presence : Byte
  plug : Byte
  expected : Byte
  deriving DecidableEq, Repr

/-- The written fields of a WINDOW entry (R129, R190). -/
structure WindowEntry where
  mode : Byte
  row : Byte
  column : Byte
  take : BitVec 16
  serial : BitVec 32
  deriving DecidableEq, Repr

/-- The key and the expected serial of an AMENDMENT entry (R138, R190). -/
structure KeyEntry where
  eighth : Byte
  take : BitVec 16
  unit : BitVec 32
  serial : BitVec 32
  deriving DecidableEq, Repr

/-- The written fields of a WATCH entry (R172, R190). -/
structure WatchEntry where
  mode : Byte
  dirFilter : Byte
  sourceKind : Byte
  source : Byte
  actions : Byte
  holdLane : Byte
  clear : Byte
  compare : Addr
  mask : Addr
  deriving DecidableEq, Repr

/-- The written fields of a LINES entry (R171, R190). -/
structure LinesEntry where
  direction : Byte
  level : Byte
  deriving DecidableEq, Repr

/-- The commands, one constructor for each row of the table, in its order. -/
inductive Instr
  /-- RIG_PORT_TRANSACTION (R143). -/
  | rigPortTransaction (t : RigTxn)
  /-- STORE_PORT_GRANT (R155): the store port can take an access. -/
  | storePortGrant
  /-- STORE_PORT_READ_RETURN (R144). -/
  | storePortReadReturn (r : ReadReturn)
  /-- CHIP_SELECT_FALL (R175). -/
  | chipSelectFall
  /-- CHIP_SELECT_RISE (R176), with the bytes the host has clocked out since the fall or since the request (log 8). -/
  | chipSelectRise (clocked : List Byte)
  /-- BAD_REQUEST (R175, R177), with the bytes of the request frame. -/
  | badRequest (frame : List Byte)
  /-- READ_ENTRY (R179), with the levels present on lines 0–11 as it is taken, bit i for line i, 1 for HIGH
  (read by LINES alone; log 14). -/
  | readEntry (table : TableSel) (index : BitVec 16) (levels : BitVec 12)
  /-- WRITE_ENTRY_LAYOUT (R145). -/
  | writeEntryLayout (index : BitVec 16) (e : Layout)
  /-- WRITE_ENTRY_GLOBAL (R180). -/
  | writeEntryGlobal (index : BitVec 16) (e : GlobalEntry)
  /-- WRITE_ENTRY_LANE_CONFIG (R47). -/
  | writeEntryLaneConfig (index : BitVec 16) (e : LaneConfigEntry)
  /-- WRITE_ENTRY_TUBE (R15). -/
  | writeEntryTube (index : BitVec 16) (e : TubeEntry)
  /-- WRITE_ENTRY_WINDOW (R129, R130). -/
  | writeEntryWindow (index : BitVec 16) (e : WindowEntry)
  /-- WRITE_KEY (R138). -/
  | writeKey (index : BitVec 16) (k : KeyEntry)
  /-- WRITE_VALUE (R138); byte k of the value is bits 8k to 8k + 7. -/
  | writeValue (index : BitVec 16) (value : BitVec 64)
  /-- WRITE_BOTH (R138). -/
  | writeBoth (index : BitVec 16) (k : KeyEntry) (value : BitVec 64)
  /-- DISABLE (R138). -/
  | disable (index : BitVec 16)
  /-- WRITE_ENTRY_WATCH (R172). -/
  | writeEntryWatch (index : BitVec 16) (e : WatchEntry)
  /-- WRITE_ENTRY_LINES (R171). -/
  | writeEntryLines (index : BitVec 16) (e : LinesEntry)
  /-- WRITE_ENTRY_READ_ONLY (R179). -/
  | writeEntryReadOnly (table : ReadOnlyTable) (index : BitVec 16)
  /-- ENGAGE (R151). -/
  | engage
  /-- BYPASS (R152). -/
  | bypass
  /-- ENABLE_LANE (R48). -/
  | enableLane (index : BitVec 16)
  /-- DISABLE_LANE (R50). -/
  | disableLane (index : BitVec 16)
  /-- ACCEPT_TAKE (R36–R38): take number and expected serial. -/
  | acceptTake (index : BitVec 16) (serial : BitVec 32)
  /-- REJECT_TAKE (R36, R40). -/
  | rejectTake (index : BitVec 16) (serial : BitVec 32)
  /-- RELEASE_TAKE (R36, R42, R43). -/
  | releaseTake (index : BitVec 16) (serial : BitVec 32)
  /-- LOAD_MAP (R18): memory base, first tube index, count. -/
  | loadMap (base : Addr) (first : BitVec 16) (count : BitVec 16)
  /-- ABORT_LOAD (R21). -/
  | abortLoad
  /-- LOCK_CAMPAIGN (R17). -/
  | lockCampaign
  /-- CLEAR_ATTENTION (R164). -/
  | clearAttention
  /-- CLEAR_HOLD (R170). -/
  | clearHold (index : BitVec 16)
  /-- POWER_ON_RESET (R182, R183): the end of the reset, with the strap inputs as sampled, the first strap in the low bit. -/
  | powerOnReset (straps : BitVec 2)
  /-- RIG_RESET (R184): the rig reset input becomes asserted, with the bytes the host has clocked out in the frame by
  then, none where none are written (log 8). -/
  | rigReset (clocked : List Byte := [])
  /-- SENSE_WINDOW_SAMPLE (R168) of one lane, with the level on its line. -/
  | senseWindowSample (lane : Fin 8) (level : Level)
  /-- DRIVE_PHASE_START (R167) of one lane. -/
  | drivePhaseStart (lane : Fin 8)
  /-- PERIOD_END (R169) of one lane. -/
  | periodEnd (lane : Fin 8)
  /-- IDLE_TIMER_EXPIRY (R66): the period end at which the lane's idle timer expires. -/
  | idleTimerExpiry (lane : Fin 8)
  /-- DRAIN_TIMER_EXPIRY (R67). -/
  | drainTimerExpiry (lane : Fin 8)
  /-- ADMISSION_TIMER_EXPIRY (R68). -/
  | admissionTimerExpiry (lane : Fin 8)
  /-- POWER_ON_RESET_ENTRY (R183): the part is put into power-on reset, with the bytes the host has clocked out in the
  frame by then, none where none are written (log 8). -/
  | powerOnResetEntry (clocked : List Byte := [])
  /-- RIG_RESET_RELEASE (R184). -/
  | rigResetRelease
  deriving DecidableEq, Repr

end Sys2Proof
end

