-- ==== Sys2Proof/WellFormed.lean ====
section
/-! DEFINITION. Which commands can reach the part: the checks that no operand type makes by itself. -/

namespace Sys2Proof

/-- A rig-port transaction is 1 to 64 bytes within one unit (R143). -/
def RigTxn.wf (t : RigTxn) : Bool :=
  decide (1 ≤ t.op.size) && decide (t.addr.toNat % Config.unitBytes + t.op.size ≤ Config.unitBytes)

/-- The payload length a request declares in its fifth and sixth bytes (R175, R189). -/
def declaredLength (frame : List Byte) : Nat := Machine.leField frame 4 2

/-- A request is complete when its check byte, which follows the declared payload, is its last byte (R175). -/
def completeFrame (frame : List Byte) : Bool := decide (frame.length = 7 + declaredLength frame)

/-- Well-formed commands. A command that is not well-formed is none that the interconnect or the host can present. -/
def Instr.wf : Instr → Bool
  | .rigPortTransaction t => t.wf
  | .storePortGrant => true
  | .storePortReadReturn _ => true
  | .chipSelectFall => true
  | .chipSelectRise _ => true
  | .badRequest frame => completeFrame frame
  | .readEntry _ _ _ => true
  | .writeEntryLayout _ _ => true
  | .writeEntryGlobal _ _ => true
  | .writeEntryLaneConfig _ _ => true
  | .writeEntryTube _ _ => true
  | .writeEntryWindow _ _ => true
  | .writeKey _ _ => true
  | .writeValue _ _ => true
  | .writeBoth _ _ _ => true
  | .disable _ => true
  | .writeEntryWatch _ _ => true
  | .writeEntryLines _ _ => true
  | .writeEntryReadOnly _ _ => true
  | .engage => true
  | .bypass => true
  | .enableLane _ => true
  | .disableLane _ => true
  | .acceptTake _ _ => true
  | .rejectTake _ _ => true
  | .releaseTake _ _ => true
  | .loadMap _ _ _ => true
  | .abortLoad => true
  | .lockCampaign => true
  | .clearAttention => true
  | .clearHold _ => true
  | .powerOnReset _ => true
  | .rigReset _ => true
  | .senseWindowSample _ _ => true
  | .drivePhaseStart _ => true
  | .periodEnd _ => true
  | .idleTimerExpiry _ => true
  | .drainTimerExpiry _ => true
  | .admissionTimerExpiry _ => true
  | .powerOnResetEntry _ => true
  | .rigResetRelease => true

end Sys2Proof
end

