-- ==== Sys2Proof/Decode.lean ====
section
/-! DEFINITION. The management link's requests as bytes (R189, R190): which command a complete request is, and the
bytes of a command's request. The opcode table gives no row any bits, so `decodeTableWord` answers none. -/

namespace Sys2Proof

open Machine

/-- The table a selector byte names (R189). -/
def tableOf (sel : Byte) : Option TableSel :=
  match sel.toNat with
  | 0x01 => some .layout
  | 0x02 => some .global
  | 0x03 => some .laneConfig
  | 0x04 => some .laneStatus
  | 0x05 => some .take
  | 0x06 => some .tube
  | 0x07 => some .window
  | 0x08 => some .amendment
  | 0x09 => some .watch
  | 0x0A => some .lines
  | 0x0B => some .status
  | _ => none

/-- The selector byte of a table (R189). -/
def TableSel.code : TableSel → Byte
  | .layout => 0x01
  | .global => 0x02
  | .laneConfig => 0x03
  | .laneStatus => 0x04
  | .take => 0x05
  | .tube => 0x06
  | .window => 0x07
  | .amendment => 0x08
  | .watch => 0x09
  | .lines => 0x0A
  | .status => 0x0B

/-- How many entries a table has (R179). -/
def TableSel.entries : TableSel → Nat
  | .layout => 1
  | .global => 1
  | .laneConfig => 8
  | .laneStatus => 8
  | .take => 1024
  | .tube => 16384
  | .window => 16
  | .amendment => 8
  | .watch => 4
  | .lines => 12
  | .status => 1

/-- The length of a table's entry (R190). -/
def TableSel.entryLength : TableSel → Nat
  | .layout => 25
  | .global => 16
  | .laneConfig => 20
  | .laneStatus => 56
  | .take => 364
  | .tube => 22
  | .window => 12
  | .amendment => 24
  | .watch => 40
  | .lines => 8
  | .status => 44

/-- The table a read-only selector stands for. -/
def ReadOnlyTable.sel : ReadOnlyTable → TableSel
  | .laneStatus => .laneStatus
  | .take => .take
  | .status => .status

/-- The payload length a command needs (R177 check 3, R190): none where the command byte, or for READ_ENTRY and
WRITE_ENTRY the selector byte, encodes nothing (R177 checks 1 and 2). -/
def neededLength (cmd sel : Byte) : Option Nat :=
  match cmd.toNat with
  | 0x01 => (tableOf sel).map fun _ => 0
  | 0x02 => (tableOf sel).map TableSel.entryLength
  | 0x10 => some 0
  | 0x11 => some 0
  | 0x12 => some 0
  | 0x13 => some 0
  | 0x20 => some 4
  | 0x21 => some 4
  | 0x22 => some 4
  | 0x30 => some 9
  | 0x31 => some 0
  | 0x32 => some 0
  | 0x40 => some 0
  | 0x41 => some 0
  | _ => none

/-- The index of a request (R189). -/
def frameIndex (frame : List Byte) : BitVec 16 := BitVec.ofNat 16 (leField frame 2 2)

/-- A WRITE_ENTRY to AMENDMENT whose operation byte encodes none of the four (R138 check 2; log 10). -/
def unknownAmendment (frame : List Byte) : Bool :=
  decide (byteAt frame 0 = 0x02) && decide (tableOf (byteAt frame 1) = some .amendment) &&
    !(decide (1 ≤ (byteAt frame 6).toNat) && decide ((byteAt frame 6).toNat ≤ 4))

/-- The status of a complete request that names no command with a row of its own, in the order of R175 and
R177; an unknown amendment operation follows R138 (log 10). None for a request of a row of its own. -/
def badReason (frame : List Byte) : Option Status :=
  if byteSum frame ≠ 0 then some .badCheck
  else if 1024 < declaredLength frame then some .badValue
  else match neededLength (byteAt frame 0) (byteAt frame 1) with
    | none => some .unknownCommand
    | some n =>
      if declaredLength frame ≠ n then some .badValue
      else if unknownAmendment frame then
        if 7 < (frameIndex frame).toNat then some .badIndex else some .badValue
      else none

/-- The bit vector in `n` bytes of a frame from byte `off`. -/
def bvField (w : Nat) (frame : List Byte) (off n : Nat) : BitVec w := BitVec.ofNat w (leField frame off n)

/-- The LAYOUT entry in a request; the payload begins at byte 6 (R189, R190). -/
def layoutOf (f : List Byte) : Layout :=
  { lane := bvField 40 f 6 5, review := bvField 40 f 11 5, capture := bvField 40 f 16 5,
    marker := bvField 40 f 21 5, ring := bvField 40 f 26 5 }

/-- The GLOBAL entry in a request (R190). -/
def globalOf (f : List Byte) : GlobalEntry :=
  { mask := bvField 16 f 6 2, lowMark := bvField 16 f 8 2, highMark := bvField 16 f 10 2,
    enables := bvField 16 f 12 2, plugs := bvField 16 f 14 2, divider := bvField 16 f 16 2,
    period := bvField 16 f 18 2, window := bvField 16 f 20 2 }

/-- The LANE_CONFIG entry in a request (R190). -/
def laneConfigOf (f : List Byte) : LaneConfigEntry :=
  { dataSource := byteAt f 6, markerSource := byteAt f 7, channels := byteAt f 8, detector := byteAt f 9,
    threshold := bvField 16 f 10 2, release := bvField 16 f 12 2, landmarkSpacing := bvField 16 f 14 2,
    tolerance := bvField 16 f 16 2, sampleSpacing := byteAt f 18, reservation := byteAt f 19,
    idle := bvField 16 f 20 2, drain := bvField 16 f 22 2, admission := bvField 16 f 24 2 }

/-- The written fields of the TUBE entry in a request (R190). -/
def tubeEntryOf (f : List Byte) : TubeEntry :=
  { presence := byteAt f 6, plug := byteAt f 7, expected := byteAt f 8 }

/-- The written fields of the WINDOW entry in a request (R190). -/
def windowEntryOf (f : List Byte) : WindowEntry :=
  { mode := byteAt f 6, row := byteAt f 7, column := byteAt f 8, take := bvField 16 f 10 2,
    serial := bvField 32 f 14 4 }

/-- The key and expected serial of the AMENDMENT entry in a request (R190). -/
def keyOf (f : List Byte) : KeyEntry :=
  { eighth := byteAt f 8, take := bvField 16 f 10 2, unit := bvField 32 f 14 4, serial := bvField 32 f 18 4 }

/-- The written fields of the WATCH entry in a request (R190). -/
def watchEntryOf (f : List Byte) : WatchEntry :=
  { mode := byteAt f 6, dirFilter := byteAt f 7, sourceKind := byteAt f 8, source := byteAt f 9,
    actions := byteAt f 10, holdLane := byteAt f 11, clear := byteAt f 12, compare := bvField 40 f 14 5,
    mask := bvField 40 f 22 5 }

/-- The written fields of the LINES entry in a request (R190). -/
def linesEntryOf (f : List Byte) : LinesEntry := { direction := byteAt f 6, level := byteAt f 7 }

/-- The amendment operation of a request (R138, R190). -/
def amendmentOf (f : List Byte) : Instr :=
  match (byteAt f 6).toNat with
  | 1 => .writeKey (frameIndex f) (keyOf f)
  | 2 => .writeValue (frameIndex f) (bvField 64 f 22 8)
  | 3 => .writeBoth (frameIndex f) (keyOf f) (bvField 64 f 22 8)
  | _ => .disable (frameIndex f)

/-- The WRITE_ENTRY command of a request that names a table (R179). -/
def writeOf (f : List Byte) : TableSel → Instr
  | .layout => .writeEntryLayout (frameIndex f) (layoutOf f)
  | .global => .writeEntryGlobal (frameIndex f) (globalOf f)
  | .laneConfig => .writeEntryLaneConfig (frameIndex f) (laneConfigOf f)
  | .laneStatus => .writeEntryReadOnly .laneStatus (frameIndex f)
  | .take => .writeEntryReadOnly .take (frameIndex f)
  | .tube => .writeEntryTube (frameIndex f) (tubeEntryOf f)
  | .window => .writeEntryWindow (frameIndex f) (windowEntryOf f)
  | .amendment => amendmentOf f
  | .watch => .writeEntryWatch (frameIndex f) (watchEntryOf f)
  | .lines => .writeEntryLines (frameIndex f) (linesEntryOf f)
  | .status => .writeEntryReadOnly .status (frameIndex f)

/-- The command of a request that `badReason` lets pass (R189). -/
def commandOf (levels : BitVec 12) (f : List Byte) : Option Instr :=
  match (byteAt f 0).toNat with
  | 0x01 => (tableOf (byteAt f 1)).map fun t => .readEntry t (frameIndex f) levels
  | 0x02 => (tableOf (byteAt f 1)).map (writeOf f)
  | 0x10 => some .engage
  | 0x11 => some .bypass
  | 0x12 => some (.enableLane (frameIndex f))
  | 0x13 => some (.disableLane (frameIndex f))
  | 0x20 => some (.acceptTake (frameIndex f) (bvField 32 f 6 4))
  | 0x21 => some (.rejectTake (frameIndex f) (bvField 32 f 6 4))
  | 0x22 => some (.releaseTake (frameIndex f) (bvField 32 f 6 4))
  | 0x30 => some (.loadMap (bvField 40 f 6 5) (bvField 16 f 11 2) (bvField 16 f 13 2))
  | 0x31 => some .abortLoad
  | 0x32 => some .lockCampaign
  | 0x40 => some .clearAttention
  | 0x41 => some (.clearHold (frameIndex f))
  | _ => none

/-- The command that a complete request is, with the levels present on the lines as it is taken. Bytes that are no
complete request give none. -/
def requestOf (levels : BitVec 12) (frame : List Byte) : Option Instr :=
  if completeFrame frame then
    match badReason frame with
    | some _ => some (.badRequest frame)
    | none => commandOf levels frame
  else none

/-- A request frame: command, selector, index, payload length, payload and the check byte (R189). -/
def frameOf (cmd sel : Byte) (index : BitVec 16) (payload : List Byte) : List Byte :=
  let body := cmd :: sel :: (leBytes 2 index.toNat ++ leBytes 2 payload.length ++ payload)
  body ++ [checkByte body]

/-- A WRITE_ENTRY frame. -/
def writeFrame (t : TableSel) (index : BitVec 16) (payload : List Byte) : List Byte := frameOf 0x02 t.code index payload

/-- The LAYOUT entry's bytes (R190). -/
def Layout.bytes (e : Layout) : List Byte :=
  leBytes 5 e.lane.toNat ++ leBytes 5 e.review.toNat ++ leBytes 5 e.capture.toNat ++ leBytes 5 e.marker.toNat ++
    leBytes 5 e.ring.toNat

/-- The GLOBAL entry's bytes (R190). -/
def GlobalEntry.bytes (e : GlobalEntry) : List Byte :=
  leBytes 2 e.mask.toNat ++ leBytes 2 e.lowMark.toNat ++ leBytes 2 e.highMark.toNat ++ leBytes 2 e.enables.toNat ++
    leBytes 2 e.plugs.toNat ++ leBytes 2 e.divider.toNat ++ leBytes 2 e.period.toNat ++ leBytes 2 e.window.toNat

/-- The LANE_CONFIG entry's bytes (R190). -/
def LaneConfigEntry.bytes (e : LaneConfigEntry) : List Byte :=
  [e.dataSource, e.markerSource, e.channels, e.detector] ++ leBytes 2 e.threshold.toNat ++ leBytes 2 e.release.toNat ++
    leBytes 2 e.landmarkSpacing.toNat ++ leBytes 2 e.tolerance.toNat ++ [e.sampleSpacing, e.reservation] ++
    leBytes 2 e.idle.toNat ++ leBytes 2 e.drain.toNat ++ leBytes 2 e.admission.toNat

/-- The TUBE entry of a write; the bytes a write ignores are sent as 0 (R190). -/
def TubeEntry.bytes (e : TubeEntry) : List Byte := [e.presence, e.plug, e.expected] ++ zeros 19

/-- The WINDOW entry of a write (R190). -/
def WindowEntry.bytes (e : WindowEntry) : List Byte :=
  [e.mode, e.row, e.column, 0] ++ leBytes 2 e.take.toNat ++ zeros 2 ++ leBytes 4 e.serial.toNat

/-- The AMENDMENT entry of a write with operation code `op` (R190). -/
def amendmentBytes (op : Byte) (k : KeyEntry) (value : BitVec 64) : List Byte :=
  [op, 0, k.eighth, 0] ++ leBytes 2 k.take.toNat ++ zeros 2 ++ leBytes 4 k.unit.toNat ++ leBytes 4 k.serial.toNat ++
    leBytes 8 value.toNat

/-- A key of zeros, sent by the operations that do not read the key positions (R190). -/
def zeroKey : KeyEntry := { eighth := 0, take := 0, unit := 0, serial := 0 }

/-- The WATCH entry of a write (R190). -/
def WatchEntry.bytes (e : WatchEntry) : List Byte :=
  [e.mode, e.dirFilter, e.sourceKind, e.source, e.actions, e.holdLane, e.clear, 0] ++ leBytes 5 e.compare.toNat ++
    zeros 3 ++ leBytes 5 e.mask.toNat ++ zeros 19

/-- The LINES entry of a write (R190). -/
def LinesEntry.bytes (e : LinesEntry) : List Byte := [e.direction, e.level] ++ zeros 6

/-- The bytes of a command's request on the management link (R189, R190), the index and selector of commands that do
not read them sent as 0; no bytes for a command that is no request. -/
def requestBytes : Instr → List Byte
  | .rigPortTransaction _ => []
  | .storePortGrant => []
  | .storePortReadReturn _ => []
  | .chipSelectFall => []
  | .chipSelectRise _ => []
  | .badRequest frame => frame
  | .readEntry t index _ => frameOf 0x01 t.code index []
  | .writeEntryLayout index e => writeFrame .layout index e.bytes
  | .writeEntryGlobal index e => writeFrame .global index e.bytes
  | .writeEntryLaneConfig index e => writeFrame .laneConfig index e.bytes
  | .writeEntryTube index e => writeFrame .tube index e.bytes
  | .writeEntryWindow index e => writeFrame .window index e.bytes
  | .writeKey index k => writeFrame .amendment index (amendmentBytes 1 k 0)
  | .writeValue index value => writeFrame .amendment index (amendmentBytes 2 zeroKey value)
  | .writeBoth index k value => writeFrame .amendment index (amendmentBytes 3 k value)
  | .disable index => writeFrame .amendment index (amendmentBytes 4 zeroKey 0)
  | .writeEntryWatch index e => writeFrame .watch index e.bytes
  | .writeEntryLines index e => writeFrame .lines index e.bytes
  | .writeEntryReadOnly t index => writeFrame t.sel index (zeros t.sel.entryLength)
  | .engage => frameOf 0x10 0 0 []
  | .bypass => frameOf 0x11 0 0 []
  | .enableLane index => frameOf 0x12 0 index []
  | .disableLane index => frameOf 0x13 0 index []
  | .acceptTake index serial => frameOf 0x20 0 index (leBytes 4 serial.toNat)
  | .rejectTake index serial => frameOf 0x21 0 index (leBytes 4 serial.toNat)
  | .releaseTake index serial => frameOf 0x22 0 index (leBytes 4 serial.toNat)
  | .loadMap base first count => frameOf 0x30 0 0 (leBytes 5 base.toNat ++ leBytes 2 first.toNat ++ leBytes 2 count.toNat)
  | .abortLoad => frameOf 0x31 0 0 []
  | .lockCampaign => frameOf 0x32 0 0 []
  | .clearAttention => frameOf 0x40 0 0 []
  | .clearHold index => frameOf 0x41 0 index []
  | .powerOnReset _ => []
  | .rigReset _ => []
  | .senseWindowSample _ _ => []
  | .drivePhaseStart _ => []
  | .periodEnd _ => []
  | .idleTimerExpiry _ => []
  | .drainTimerExpiry _ => []
  | .admissionTimerExpiry _ => []
  | .powerOnResetEntry _ => []
  | .rigResetRelease => []

/-- The command a word of the opcode table's bits spells: the table gives no row any bits, so none (log 8). -/
def decodeTableWord (_nbits _w : Nat) : Option Instr := none

end Sys2Proof
end

