-- ==== Sys2Proof/Machine/State.lean ====
section
/-! DEFINITION. The state of the VT-840: every piece of state the manual gives each block, the queue of commands
waiting, and the values after a power-on reset. Plain data throughout. -/

namespace Sys2Proof.Machine

/-! ## Names that several blocks use -/

/-- The two modes of the Path Decoder (R150). -/
inductive Mode
  | bypass | engaged
  deriving DecidableEq, Repr

/-- A tube position (00_scope.md, "Tube position"). -/
structure TubePos where
  row : Fin 128
  col : Fin 128
  deriving DecidableEq, Repr

/-- The direction of a pass (R23). -/
inductive Direction
  | push | pull
  deriving DecidableEq, Repr

/-- The take flags, in the order of their bits in R187 (R28). -/
inductive Flag
  | seq | gap | form | rewrite | foreign | reversal | undersampled | saturation | landmarkMismatch | truncated
  | short | stalled | abandoned | aborted
  deriving DecidableEq, Repr

/-- A set of take flags, one bit for each flag of R187. -/
abbrev Flags := BitVec 14

/-- Why a recording ended (R30). -/
inductive CloseCause
  | endMarker | homeSense | drainTimeout | idleTimeout | abandon | laneDisable | bypass | rigReset
  deriving DecidableEq, Repr

/-- Why a start was refused (R159). -/
inductive RefuseCause
  | notInMap | plugged | mapLoading | tubeBusy | tableFull | laneState | replaced | cancelled | admissionTimeout | disabled
  deriving DecidableEq, Repr

/-- Why a marker was invalid (R125). -/
inductive MarkerCause
  | badCheck | badKind | badField | foreign | laneDisabled | noTake | tubeMismatch | duplicateEnd | mapLoading | tubeInTest
  deriving DecidableEq, Repr

/-- How a map load ended (R20, R21). -/
inductive LoadCause
  | complete | aborted | badEntry
  deriving DecidableEq, Repr

/-! ## Tube Register (chapter 1) -/

/-- Whether the tube belongs to the map (R1). -/
inductive Presence
  | notInMap | inMap
  deriving DecidableEq, Repr

/-- Whether the tube is plugged (R1); `unplugged` is the manual's OPEN. -/
inductive Plug
  | unplugged | plugged
  deriving DecidableEq, Repr

/-- The tube's standing (R3). -/
inductive TubeStatus
  | untested | inTest | pending | accepted | retestDue
  deriving DecidableEq, Repr

/-- A tube record (R1). -/
structure Tube where
  presence : Presence
  plug : Plug
  expected : Nat
  status : TubeStatus
  claim : Option (Fin 8)
  history : List Nat
  accepted : Option Nat
  acceptMark : Bool
  pending : Nat
  attempts : Nat
  deriving DecidableEq, Repr

/-- A tube record after power-on reset (R2). -/
def Tube.reset : Tube :=
  { presence := .notInMap, plug := .unplugged, expected := 0, status := .untested, claim := none, history := [],
    accepted := none, acceptMark := false, pending := 0, attempts := 0 }

/-! ## Map Loader (chapter 1) -/

/-- The Map Loader's unit read: none outstanding, one whose data will be applied, or one to be discarded (R19, R21). -/
inductive LoaderRead
  | idle | live | discard
  deriving DecidableEq, Repr

/-- The Map Loader's progress (R18), the entries applied by this load (R21; log 22) and its unit read. -/
structure Loader where
  running : Bool
  base : Addr
  next : Nat
  remaining : Nat
  applied : Nat
  read : LoaderRead
  deriving DecidableEq, Repr

/-! ## Take Table (chapter 2) -/

/-- The seven states of a take (R23). -/
inductive TakeState
  | free | opened | closing | sealed | accepted | superseded | rejected
  deriving DecidableEq, Repr

/-- A take record (R23); its take number is its slot. -/
structure Take where
  serial : Nat
  state : TakeState
  lane : Fin 8
  tube : Option TubePos
  direction : Direction
  chain : List Nat
  remaining : Nat
  written : Nat
  blocks : Nat
  samples : Nat
  missing : Nat
  axialFirst : Option Int
  axialLast : Option Int
  landmarks : Nat
  landmarkList : List Int
  rewrites : Nat
  flags : Flags
  closeCause : Option CloseCause
  autoRejected : Bool
  bindings : Nat
  deriving DecidableEq, Repr

/-- A FREE slot (R23, R24). R23's list of what a FREE slot returns does not name axial first and axial last; that both are
absent is the model's choice (log 28). -/
def Take.free : Take :=
  { serial := 0, state := .free, lane := 0, tube := none, direction := .push, chain := [], remaining := 0, written := 0,
    blocks := 0, samples := 0, missing := 0, axialFirst := none, axialLast := none, landmarks := 0, landmarkList := [],
    rewrites := 0, flags := 0, closeCause := none, autoRejected := false, bindings := 0 }

/-! ## Lane Engines, Block Parsers and Landmark Detectors (chapters 3 and 5) -/

/-- A lane's configuration (R46). -/
structure LaneConfig where
  dataSource : Source
  markerSource : Source
  channels : Nat
  detector : Nat
  threshold : Nat
  release : Nat
  landmarkSpacing : Nat
  sampleSpacing : Nat
  tolerance : Nat
  reservation : Nat
  idle : Nat
  drain : Nat
  admission : Nat
  deriving DecidableEq, Repr

/-- The power-on configuration of lane n (R46). -/
def LaneConfig.reset (n : Fin 8) : LaneConfig :=
  { dataSource := BitVec.ofNat 4 n.val, markerSource := BitVec.ofNat 4 (8 + n.val), channels := 4, detector := 0,
    threshold := 8000, release := 6000, landmarkSpacing := 1000, sampleSpacing := 8, tolerance := 20, reservation := 8,
    idle := 20000, drain := 10000, admission := 0 }

/-- The block being taken (R96). -/
structure Block where
  seq : BitVec 16
  count : Nat
  first : Int
  last : Int
  remaining : Nat
  nextSample : Nat
  deriving DecidableEq, Repr

/-- The parser state; the current block is present exactly in IN_BLOCK (R96). -/
inductive Parser
  | atHeader
  | inBlock (b : Block)
  | hunt
  deriving DecidableEq, Repr

/-- The detector state (R96). -/
inductive Detector
  | below | above
  deriving DecidableEq, Repr

/-- The state of a lane's Block Parser and Landmark Detector (R96). -/
structure Track where
  parser : Parser
  expected : Option (BitVec 16)
  prevAxial : Option Int
  detector : Detector
  lastLandmark : Option Int
  deriving DecidableEq, Repr

/-- The starting values of parser and detector (R96). -/
def Track.start : Track :=
  { parser := .atHeader, expected := none, prevAxial := none, detector := .below, lastLandmark := none }

/-- The five lane states (R49). -/
inductive LaneState
  | disabled | armed | waiting | opened | closing
  deriving DecidableEq, Repr

/-- The home state of a lane, and a sample of its line (R49, R168). -/
inductive Home
  | away | home
  deriving DecidableEq, Repr

/-- A lane's configuration and dynamic state (R46, R49), with its parser and detector (R96). A timer is stopped, or
running with its count. -/
structure Lane where
  cfg : LaneConfig
  state : LaneState
  current : Option Nat
  held : Option (TubePos × Direction)
  nextOffset : Nat
  finalSeq : Option (BitVec 16)
  lastSeq : Option (BitVec 16)
  pauseAdmission : Bool
  pauseWatch : Bool
  home : Home
  stray : Bool
  idle : Option Nat
  drain : Option Nat
  admission : Option Nat
  track : Track
  deriving DecidableEq, Repr

/-- A lane just disabled, with its configuration (R49). -/
def Lane.disabled (cfg : LaneConfig) : Lane :=
  { cfg := cfg, state := .disabled, current := none, held := none, nextOffset := 0, finalSeq := none, lastSeq := none,
    pauseAdmission := false, pauseWatch := false, home := .away, stray := false, idle := none, drain := none,
    admission := none, track := Track.start }

/-! ## Segment Pool (chapter 4) -/

/-- The Segment Pool: the free list, its two totals, the admission queue and the pool-low latch (R76, R77, R82, R89). -/
structure Pool where
  freeList : List Nat
  freeCount : Nat
  reserved : Nat
  queue : List (Fin 8)
  lowMark : Nat
  highMark : Nat
  armed : Bool
  deriving DecidableEq, Repr

/-! ## Review Unit (chapter 7) -/

/-- A review window's binding (R128). -/
inductive Window
  | unbound
  | take (number : Nat)
  | follow (pos : TubePos)
  deriving DecidableEq, Repr

/-- An amendment slot (R137); byte k of its value is bits 8k to 8k + 7. -/
structure Amendment where
  take : Nat
  unit : Nat
  eighth : Nat
  value : BitVec 64
  enabled : Bool
  deriving DecidableEq, Repr

/-! ## Transaction path and arbiter (chapter 8) -/

/-- An access on the store port (R144). -/
inductive StoreAccess
  | read (addr : Addr) (size : Nat)
  | write (addr : Addr) (data : List Byte)
  deriving DecidableEq, Repr

/-- A response on the rig port (R143): a completed write, or a read with its data. -/
inductive RigResponse
  | writeDone
  | readData (data : List Byte)
  deriving DecidableEq, Repr

/-- The amendments laid over a read, fixed when it is taken: for each byte, the value byte laid over it if any (R135, R139). -/
abbrev Overlay := List (Option Byte)

/-- An entry of the in-flight list (R143): its outcome complete; waiting in the forwarded stream for its grant
(R156); or a read issued and waiting for its data. -/
inductive Flight
  | answered (r : RigResponse)
  | stream (a : StoreAccess) (overlay : Overlay)
  | awaiting (addr : Addr) (size : Nat) (overlay : Overlay)
  deriving DecidableEq, Repr

/-- Who asked for a read issued on the store port (R144). -/
inductive ReadOwner
  | rig | loader
  deriving DecidableEq, Repr

/-- The wait states of the Notice Writer and of the Map Loader: idle, or waiting with a count of forwarded grants (R155). -/
structure Arbiter where
  notice : Option Nat
  loader : Option Nat
  deriving DecidableEq, Repr

/-! ## Notice Writer (chapter 9) -/

/-- The kinds of notice (R158). -/
inductive NoticeKind
  | takeSealed | startRefused | startDeferred | poolLow | strayData | markerInvalid | watchHit | mapLoadDone
  deriving DecidableEq, Repr

/-- The cause of a notice (R159, R187). -/
inductive Cause
  | close (c : CloseCause)
  | refused (c : RefuseCause)
  | marker (c : MarkerCause)
  | watch (unit : Fin 4)
  | load (c : LoadCause)
  deriving DecidableEq, Repr

/-- What a notice reports (R158); the presence set says which of the optional fields is present. -/
structure Report where
  kind : NoticeKind
  lane : Option (Fin 8)
  take : Option Nat
  serial : Option Nat
  tube : Option TubePos
  source : Option Source
  cause : Option Cause
  flags : Flags
  value : Nat
  deriving DecidableEq, Repr

/-- A created notice: its running number and what it reports (R158, R160). -/
structure Notice where
  number : Nat
  report : Report
  deriving DecidableEq, Repr

/-- The Notice Writer (R160–R163); bit k − 1 of the enables stands for the kind of code k (R187). -/
structure NoticeWriter where
  queue : List Notice
  nextNumber : Nat
  writeIndex : Nat
  enables : BitVec 8
  attention : Bool
  deriving DecidableEq, Repr

/-! ## Lines, timebase and watch units (chapter 10) -/

/-- A line's direction under the general-line settings (R171). -/
inductive LineDirection
  | input | output
  deriving DecidableEq, Repr

/-- A line entry (R171). -/
structure LineEntry where
  direction : LineDirection
  level : Level
  deriving DecidableEq, Repr

/-- An event that marks a sense period (R166). -/
inductive LineEvent
  | sample | driveStart | periodEnd
  deriving DecidableEq, Repr

/-- What the Line Controller holds for a lane line: the previous sample (R168), whether it is driven low in the
running drive phase (R167), and the events that the clock has brought and that have not been taken yet (R166; log 4). -/
structure LaneLine where
  prev : Option Home
  driveLow : Bool
  due : List LineEvent
  deriving DecidableEq, Repr

/-- A lane line with nothing held. -/
def LaneLine.idle : LaneLine := { prev := none, driveLow := false, due := [] }

/-- The timebase settings (R165) and counts (R166): reference-clock cycles into the tick, ticks into the period. -/
structure Timebase where
  divider : Nat
  period : Nat
  window : Nat
  cycle : Nat
  tick : Nat
  deriving DecidableEq, Repr

/-- The mode of a watch unit (R172). -/
inductive WatchMode
  | off | matching | range
  deriving DecidableEq, Repr

/-- The direction filter of a watch unit (R172). -/
inductive DirFilter
  | read | write | both
  deriving DecidableEq, Repr

/-- The record of a watch unit's last hit (R172, R174); byte k of its data is bits 8k to 8k + 7. -/
structure Capture where
  addr : Addr
  source : Source
  isWrite : Bool
  data : BitVec 64
  deriving DecidableEq, Repr

/-- A watch unit (R172). -/
structure Watch where
  mode : WatchMode
  compare : Addr
  mask : Addr
  dirFilter : DirFilter
  source : Option Source
  notice : Bool
  hold : Bool
  oneShot : Bool
  holdLane : Fin 8
  hits : Nat
  capture : Option Capture
  deriving DecidableEq, Repr

/-- A watch unit after power-on reset (R172). -/
def Watch.reset : Watch :=
  { mode := .off, compare := 0, mask := 0, dirFilter := .both, source := none, notice := false, hold := false,
    oneShot := false, holdLane := 0, hits := 0, capture := none }

/-! ## Management Link (chapter 11) -/

/-- The phases of a management frame (R175). -/
inductive LinkPhase
  | idle | receiving | working | replying | trailing
  deriving DecidableEq, Repr

/-- The Management Link: the phase, and the WAIT bytes and reply bytes still to be sent (R175, R176). -/
structure Link where
  phase : LinkPhase
  waitLeft : Nat
  reply : List Byte
  deriving DecidableEq, Repr

/-- No frame in progress. -/
def Link.quiet : Link := { phase := .idle, waitLeft := 0, reply := [] }

/-- Levels of the pins that the part reads and that an event must remember: chip select is low, the rig reset input
is asserted, and the part is held in power-on reset (R175, R183, R184). -/
structure Pins where
  selectLow : Bool
  rigReset : Bool
  powerReset : Bool
  deriving DecidableEq, Repr

/-- What the last step put on the ports (log 7): rig-port responses in order, the access issued on the store port,
the bytes returned on the management link for those the host clocked, and whether the command was taken as an event (log 2). -/
structure Outputs where
  responses : List RigResponse
  access : Option StoreAccess
  linkBytes : List Byte
  taken : Bool
  deriving DecidableEq, Repr

/-- Nothing on the ports. -/
def Outputs.none : Outputs := { responses := [], access := .none, linkBytes := [], taken := false }

/-! ## The whole -/

/-- The state of the part. `tubes` and `takes` list, in rising order, the records that differ from `Tube.reset` and
`Take.free` (log 16). -/
structure State where
  mode : Mode
  layout : Layout
  strap : BitVec 2
  inFlight : List Flight
  issued : List ReadOwner
  arbiter : Arbiter
  lanes : Vector Lane 8
  takes : List (Nat × Take)
  serialCounter : Nat
  rejectMask : Flags
  tubes : List (Nat × Tube)
  locked : Bool
  plugSet : BitVec 16
  loader : Loader
  pool : Pool
  windows : Vector Window 16
  amendments : Vector Amendment 8
  notices : NoticeWriter
  lines : Vector LineEntry 12
  laneLines : Vector LaneLine 8
  timebase : Timebase
  watches : Vector Watch 4
  link : Link
  pins : Pins
  fresh : Nat
  out : Outputs
  pending : List Instr
  deriving DecidableEq, Repr

/-- Every reason a step could stop the part with a fault: there is none. The manual names no condition that stops the
part (R143: no error response; R144: store-port errors give void fill or are not reported; R177: a bad request is refused with a status). -/
inductive Fault
  deriving DecidableEq, Repr

/-- Why a step has no meaning for a command. -/
inductive Refusal
  /-- Raised by an arm of exec whose command has no meaning in the model. Safe. -/
  | notModelled (mnemonic : String)
  /-- Raised by RIG_PORT_TRANSACTION for operands that are no transaction: not 1 to 64 bytes within one unit (R143).
  The interconnect presents none. Safe (log 3). -/
  | malformedTransaction
  deriving DecidableEq, Repr

/-- The part right after a power-on reset (R183), with strap value 0, chip select high and the rig reset input
released (log 13: DESIGN CHOICE). -/
def State.reset : State :=
  { mode := .bypass
    layout := { lane := 0, review := 0, capture := 0, marker := 0, ring := 0 }
    strap := 0
    inFlight := []
    issued := []
    arbiter := { notice := none, loader := none }
    lanes := #v[Lane.disabled (LaneConfig.reset 0), Lane.disabled (LaneConfig.reset 1), Lane.disabled (LaneConfig.reset 2),
      Lane.disabled (LaneConfig.reset 3), Lane.disabled (LaneConfig.reset 4), Lane.disabled (LaneConfig.reset 5),
      Lane.disabled (LaneConfig.reset 6), Lane.disabled (LaneConfig.reset 7)]
    takes := []
    serialCounter := 1
    rejectMask := 0x3204
    tubes := []
    locked := false
    plugSet := 0
    loader := { running := false, base := 0, next := 0, remaining := 0, applied := 0, read := .idle }
    pool := { freeList := List.range Config.segments, freeCount := Config.segments, reserved := 0, queue := [], lowMark := 64,
              highMark := 128, armed := true }
    windows := Vector.replicate 16 .unbound
    amendments := Vector.replicate 8 { take := 0, unit := 0, eighth := 0, value := 0, enabled := false }
    notices := { queue := [], nextNumber := 1, writeIndex := 0, enables := 0xFF, attention := false }
    lines := Vector.replicate 12 { direction := .input, level := .low }
    laneLines := Vector.replicate 8 LaneLine.idle
    timebase := { divider := 25, period := 200, window := 4, cycle := 0, tick := 0 }
    watches := Vector.replicate 4 Watch.reset
    link := Link.quiet
    pins := { selectLow := false, rigReset := false, powerReset := false }
    fresh := 0
    out := Outputs.none
    pending := [] }

end Sys2Proof.Machine
end

