-- ==== Sys2Proof/Machine/Flags.lean ====
section
/-! DEFINITION. Sets of take flags and of notice kinds, and the codes of R187 and R190 for every named value. -/

namespace Sys2Proof.Machine

/-- The bit of a take flag (R187). -/
def Flag.index : Flag → Nat
  | .seq => 0
  | .gap => 1
  | .form => 2
  | .rewrite => 3
  | .foreign => 4
  | .reversal => 5
  | .undersampled => 6
  | .saturation => 7
  | .landmarkMismatch => 8
  | .truncated => 9
  | .short => 10
  | .stalled => 11
  | .abandoned => 12
  | .aborted => 13

/-- The set that holds one flag. -/
def Flag.set (f : Flag) : Flags := 1#14 <<< f.index

/-- A set of flags with a flag added; adding a flag already in the set leaves it as it is (R28). -/
def Flags.add (s : Flags) (f : Flag) : Flags := s ||| f.set

/-- A flag is added where its condition holds. -/
def Flags.addIf (s : Flags) (c : Bool) (f : Flag) : Flags := if c then Flags.add s f else s

/-- A flag is in the set. -/
def Flags.has (s : Flags) (f : Flag) : Bool := s.getLsbD f.index

/-- The flag that the Lane Engine adds for a close cause (R30). -/
def CloseCause.flag : CloseCause → Option Flag
  | .endMarker => none
  | .homeSense => none
  | .drainTimeout => some .short
  | .idleTimeout => some .stalled
  | .abandon => some .abandoned
  | .laneDisable => some .aborted
  | .bypass => some .aborted
  | .rigReset => some .aborted

/-- The lane is left DISABLED, not ARMED, after a seal with these causes (R30, R63). -/
def CloseCause.disables : CloseCause → Bool
  | .endMarker => false
  | .homeSense => false
  | .drainTimeout => false
  | .idleTimeout => false
  | .abandon => false
  | .laneDisable => true
  | .bypass => true
  | .rigReset => true

/-! ## Codes (R187, R190) -/

def CloseCause.code : CloseCause → Nat
  | .endMarker => 0x01
  | .homeSense => 0x02
  | .drainTimeout => 0x03
  | .idleTimeout => 0x04
  | .abandon => 0x05
  | .laneDisable => 0x06
  | .bypass => 0x07
  | .rigReset => 0x08

def RefuseCause.code : RefuseCause → Nat
  | .notInMap => 0x11
  | .plugged => 0x12
  | .mapLoading => 0x13
  | .tubeBusy => 0x14
  | .tableFull => 0x15
  | .laneState => 0x16
  | .replaced => 0x17
  | .cancelled => 0x18
  | .admissionTimeout => 0x19
  | .disabled => 0x1A

def MarkerCause.code : MarkerCause → Nat
  | .badCheck => 0x21
  | .badKind => 0x22
  | .badField => 0x23
  | .foreign => 0x25
  | .laneDisabled => 0x26
  | .noTake => 0x27
  | .tubeMismatch => 0x28
  | .duplicateEnd => 0x29
  | .mapLoading => 0x2A
  | .tubeInTest => 0x2B

def LoadCause.code : LoadCause → Nat
  | .complete => 0x41
  | .aborted => 0x42
  | .badEntry => 0x43

/-- The cause codes, shared by all kinds of notice (R187). -/
def Cause.code : Cause → Nat
  | .close c => c.code
  | .refused c => c.code
  | .marker c => c.code
  | .watch u => 0x31 + u.val
  | .load c => c.code

def NoticeKind.code : NoticeKind → Nat
  | .takeSealed => 1
  | .startRefused => 2
  | .startDeferred => 3
  | .poolLow => 4
  | .strayData => 5
  | .markerInvalid => 6
  | .watchHit => 7
  | .mapLoadDone => 8

/-- The kind is in the attention enables: bit k − 1 stands for the kind of code k (R163, R187). -/
def NoticeKind.enabled (k : NoticeKind) (enables : BitVec 8) : Bool := enables.getLsbD (k.code - 1)

def Direction.code : Direction → Nat
  | .push => 0
  | .pull => 1

def TakeState.code : TakeState → Nat
  | .free => 0
  | .opened => 1
  | .closing => 2
  | .sealed => 3
  | .accepted => 4
  | .superseded => 5
  | .rejected => 6

def LaneState.code : LaneState → Nat
  | .disabled => 0
  | .armed => 1
  | .waiting => 2
  | .opened => 3
  | .closing => 4

def TubeStatus.code : TubeStatus → Nat
  | .untested => 0
  | .inTest => 1
  | .pending => 2
  | .accepted => 3
  | .retestDue => 4

def Presence.code : Presence → Nat
  | .notInMap => 0
  | .inMap => 1

def Plug.code : Plug → Nat
  | .unplugged => 0
  | .plugged => 1

def Parser.code : Parser → Nat
  | .atHeader => 0
  | .inBlock _ => 1
  | .hunt => 2

def Detector.code : Detector → Nat
  | .below => 0
  | .above => 1

def Home.code : Home → Nat
  | .away => 0
  | .home => 1

/-- A previous sample: 0 absent, 1 AWAY, 2 HOME (R190). -/
def sampleCode : Option Home → Nat
  | none => 0
  | some .away => 1
  | some .home => 2

def WatchMode.code : WatchMode → Nat
  | .off => 0
  | .matching => 1
  | .range => 2

def DirFilter.code : DirFilter → Nat
  | .read => 0
  | .write => 1
  | .both => 2

def LineDirection.code : LineDirection → Nat
  | .input => 0
  | .output => 1

end Sys2Proof.Machine

namespace Sys2Proof

/-- A line's level as a code: 0 LOW, 1 HIGH (R190). -/
def Level.code : Level → Nat
  | .low => 0
  | .high => 1

/-- The status byte (R189). -/
def Status.code : Status → Nat
  | .done => 0x00
  | .refusedState => 0x01
  | .refusedLocked => 0x02
  | .badIndex => 0x03
  | .badValue => 0x04
  | .badCheck => 0x05
  | .badLayout => 0x06
  | .bound => 0x07
  | .unknownCommand => 0x08

end Sys2Proof
end

