-- ==== Sys2Proof/Machine/Sparse.lean ====
section
/-! DEFINITION. Sparse tables: a list of (index, record) pairs, sorted, that lists no record equal to the one an
unlisted index reads as (log 16). -/

namespace Sys2Proof.Machine

/-- The record at an index; `d` where none is listed. -/
def Sparse.get {α : Type} (d : α) : List (Nat × α) → Nat → α
  | [], _ => d
  | (k, v) :: t, i => if i = k then v else Sparse.get d t i

/-- The table with a record put at an index; a record equal to `d` is taken out. -/
def Sparse.set {α : Type} [DecidableEq α] (d : α) : List (Nat × α) → Nat → α → List (Nat × α)
  | [], i, v => if v = d then [] else [(i, v)]
  | (k, w) :: t, i, v =>
    if i < k then (if v = d then (k, w) :: t else (i, v) :: (k, w) :: t)
    else if i = k then (if v = d then t else (i, v) :: t)
    else (k, w) :: Sparse.set d t i v

/-- The table with a change made to every listed record. -/
def Sparse.mapAll {α : Type} [DecidableEq α] (d : α) (f : α → α) : List (Nat × α) → List (Nat × α)
  | [] => []
  | (k, v) :: t => if f v = d then Sparse.mapAll d f t else (k, f v) :: Sparse.mapAll d f t

/-- The canonical form: indices strictly rising from `lo` and below `limit`, no record equal to `d`. -/
def Sparse.wfFrom {α : Type} [DecidableEq α] (d : α) (limit : Nat) : Nat → List (Nat × α) → Bool
  | _, [] => true
  | lo, (k, v) :: t => decide (lo ≤ k) && decide (k < limit) && decide (v ≠ d) && Sparse.wfFrom d limit (k + 1) t

/-- The canonical form of a whole table. -/
def Sparse.wf {α : Type} [DecidableEq α] (d : α) (limit : Nat) (t : List (Nat × α)) : Bool := Sparse.wfFrom d limit 0 t

end Sys2Proof.Machine
end

