-- ==== Sys2Proof/Machine/Ops.lean ====
section
/-! DEFINITION. The named operations over State that the meanings share: reads and writes of records, creating a
notice, the pool-low latch, admission, opening, sealing and disabling. -/

namespace Sys2Proof.Machine

/-! ## Reading and writing records -/

/-- The take record of a slot (R23). -/
def State.takeAt (s : State) (k : Nat) : Take := Sparse.get Take.free s.takes k

/-- The take record of a slot is written. -/
def State.setTake (s : State) (k : Nat) (t : Take) : State := { s with takes := Sparse.set Take.free s.takes k t }

/-- The tube index of a position (R1). -/
def TubePos.index (p : TubePos) : Nat := p.row.val * 128 + p.col.val

/-- The tube record of an index (R1). -/
def State.tubeAt (s : State) (i : Nat) : Tube := Sparse.get Tube.reset s.tubes i

/-- The tube record of an index is written. -/
def State.setTube (s : State) (i : Nat) (t : Tube) : State := { s with tubes := Sparse.set Tube.reset s.tubes i t }

/-- Lane n (R46, R49). -/
def State.lane (s : State) (n : Fin 8) : Lane := s.lanes[n]

/-- Lane n is written. -/
def State.setLane (s : State) (n : Fin 8) (l : Lane) : State := { s with lanes := s.lanes.set n l }

/-- What the Line Controller holds for lane line n (R167, R168). -/
def State.laneLine (s : State) (n : Fin 8) : LaneLine := s.laneLines[n]

/-- Lane line n is written. -/
def State.setLaneLine (s : State) (n : Fin 8) (l : LaneLine) : State := { s with laneLines := s.laneLines.set n l }

/-- The eight lanes in ascending order. -/
def allLanes : List (Fin 8) := [0, 1, 2, 3, 4, 5, 6, 7]

/-- A lane is enabled in every state but DISABLED (R49). -/
def Lane.enabled (l : Lane) : Bool := decide (l.state ≠ .disabled)

/-- A lane records when it is OPEN or CLOSING (R49). -/
def Lane.recording (l : Lane) : Bool := decide (l.state = .opened) || decide (l.state = .closing)

/-! ## Taking a command as an event -/

/-- The state in which a command is taken as an event: nothing on the ports yet. -/
def State.takeEvent (s : State) : State := { s with out := { Outputs.none with taken := true } }

/-- A command that is no event of this state is not taken: nothing changes, and nothing is on the ports (log 2). -/
def State.notTaken (s : State) : State := { s with out := Outputs.none }

/-! ## Notices (R158–R161) -/

/-- A report of a kind with every field absent, none, empty or 0. -/
def Report.blank (k : NoticeKind) : Report :=
  { kind := k, lane := none, take := none, serial := none, tube := none, source := none, cause := none, flags := 0, value := 0 }

/-- START_REFUSED (R159). -/
def Report.startRefused (n : Fin 8) (p : TubePos) (c : RefuseCause) : Report :=
  { Report.blank .startRefused with lane := some n, tube := some p, cause := some (.refused c) }

/-- START_DEFERRED (R54, R159). -/
def Report.startDeferred (n : Fin 8) (p : TubePos) (unreserved : Nat) : Report :=
  { Report.blank .startDeferred with lane := some n, tube := some p, value := unreserved }

/-- POOL_LOW (R90, R159). -/
def Report.poolLow (unreserved : Nat) : Report := { Report.blank .poolLow with value := unreserved }

/-- TAKE_SEALED (R34, R159). -/
def Report.takeSealed (number : Nat) (t : Take) (cause : CloseCause) : Report :=
  { Report.blank .takeSealed with
    lane := some t.lane, take := some number, serial := some t.serial, tube := t.tube, cause := some (.close cause),
    flags := t.flags, value := t.autoRejected.toNat }

/-- STRAY_DATA (R71, R159). -/
def Report.strayData (n : Fin 8) (src : Source) : Report :=
  { Report.blank .strayData with lane := some n, source := some src }

/-- MARKER_INVALID (R125, R159). -/
def Report.markerInvalid (src : Source) (n : Option (Fin 8)) (c : MarkerCause) (unit : Nat) : Report :=
  { Report.blank .markerInvalid with lane := n, source := some src, cause := some (.marker c), value := unit }

/-- WATCH_HIT (R174, R159). -/
def Report.watchHit (u : Fin 4) (src : Source) (addr : Addr) : Report :=
  { Report.blank .watchHit with source := some src, cause := some (.watch u), value := addr.toNat / 64 }

/-- MAP_LOAD_DONE (R20, R21, R159). -/
def Report.mapLoadDone (c : LoadCause) (value : Nat) : Report :=
  { Report.blank .mapLoadDone with cause := some (.load c), value := value }

/-- A notice is created: it is given the next running number, and is queued, or discarded where 16 are queued (R160, R161). -/
def NoticeWriter.create (w : NoticeWriter) (r : Report) : NoticeWriter :=
  { w with
    queue := if w.queue.length < Config.noticeQueueLimit then w.queue ++ [{ number := w.nextNumber, report := r }] else w.queue
    nextNumber := if w.nextNumber = 4294967295 then 1 else w.nextNumber + 1 }

/-- The Notice Writer asks for the store port whenever its queue is not empty and it does not wait already (R162, R155). -/
def Arbiter.askNotice (a : Arbiter) (queue : List Notice) : Arbiter :=
  { a with notice := match a.notice with
      | some c => some c
      | none => if queue.isEmpty then none else some 0 }

/-- A block posts a notice (R160): it is created, and the Notice Writer asks for the store port (R162). -/
def State.post (s : State) (r : Report) : State :=
  { s with notices := s.notices.create r, arbiter := s.arbiter.askNotice (s.notices.create r).queue }

/-! ## The Segment Pool's totals and latch (R77, R89, R90) -/

/-- Unreserved: the free count less the sum of remaining reservations (R77). -/
def Pool.unreserved (p : Pool) : Nat := p.freeCount - p.reserved

/-- The latch test (R90); `quiet` under a rig reset, which creates no notice. -/
def State.latchTest (s : State) (quiet : Bool) : State :=
  if s.pool.armed then
    if s.pool.unreserved < s.pool.lowMark then
      let s' := { s with pool := { s.pool with armed := false } }
      if quiet then s' else s'.post (Report.poolLow s.pool.unreserved)
    else s
  else if s.pool.highMark ≤ s.pool.unreserved then { s with pool := { s.pool with armed := true } }
  else s

/-- The latch test after an event, made where the event changed unreserved (R77, R90). -/
def State.latchAfter (s : State) (before : Nat) (quiet : Bool) : State :=
  if s.pool.unreserved = before then s else s.latchTest quiet

/-! ## Tube updates (chapter 1) -/

/-- The status that R3 gives by recomputation. -/
def Tube.recompute (t : Tube) : Tube :=
  { t with status := if 0 < t.pending then .pending else if t.acceptMark then .accepted
      else if 0 < t.attempts then .retestDue else .untested }

/-- After a verdict or a release the status is recomputed unless the tube is IN_TEST (R3, R9–R11). -/
def Tube.settle (t : Tube) : Tube := if t.status = .inTest then t else t.recompute

/-- A take of the tube opens in slot k (R4, R8). -/
def Tube.opened (t : Tube) (k : Nat) : Tube :=
  { t with status := .inTest, attempts := satAdd 15 t.attempts 1, history := (k :: t.history).take 4 }

/-- The seal's update: the claim becomes absent, a SEALED take is counted, the status is recomputed (R5). -/
def Tube.sealed (t : Tube) (counted : Bool) : Tube :=
  { t with claim := none, pending := if counted then t.pending + 1 else t.pending }.recompute

/-- The claim of the tube at a position becomes absent (R7). -/
def State.clearClaim (s : State) (p : TubePos) : State :=
  s.setTube p.index { s.tubeAt p.index with claim := none }

/-! ## Opening a take (R26, R55) -/

/-- A start or restart of a timer: its count is 0; a timeout of 0 does not run (R65). -/
def startTimer (timeout : Nat) : Option Nat := if timeout = 0 then none else some 0

/-- A start that the Segment Pool has admitted: its lane, the slot the Take Table gave, its tube and direction (R83, R84). -/
structure Opening where
  lane : Fin 8
  slot : Nat
  pos : TubePos
  direction : Direction
  deriving DecidableEq, Repr

/-- The record of a take as it opens (R26). -/
def Take.atOpen (serial : Nat) (o : Opening) (reservation : Nat) : Take :=
  { Take.free with serial := serial, state := .opened, lane := o.lane, tube := some o.pos, direction := o.direction,
                   remaining := reservation }

/-- The lane as its take opens in slot k (R55). -/
def Lane.atOpen (l : Lane) (k : Nat) : Lane :=
  { l with state := .opened, current := some k, held := none, nextOffset := 0, finalSeq := none, lastSeq := none,
           pauseAdmission := false, admission := none, idle := startTimer l.cfg.idle, drain := none, stray := false,
           track := Track.start }

/-- A take opens: its record (R26), its serial (R25), its tube (R4) and its lane (R55). The reservation was counted
out at its admission (R78). -/
def State.openTake (s : State) (o : Opening) : State :=
  (({ s with serialCounter := s.serialCounter + 1 }.setTake o.slot
      (Take.atOpen s.serialCounter o (s.lane o.lane).cfg.reservation)).setTube o.pos.index
    ((s.tubeAt o.pos.index).opened o.slot)).setLane o.lane ((s.lane o.lane).atOpen o.slot)

/-! ## Admission (R83–R88) -/

/-- The Take Table's answer to a request for a slot: the lowest FREE slot, none where none is FREE or the serial
counter is spent (R25, R26). `given` are the slots given by this same check and not opened yet (R88). -/
def State.freeSlot (s : State) (given : List Nat) : Option Nat :=
  if Config.spentSerial ≤ s.serialCounter + given.length then none
  else (List.range Config.takeSlots).find? fun k => decide ((s.takeAt k).state = .free) && !given.contains k

/-- START_REFUSED is posted for lane n (R159). -/
def State.refuse (s : State) (n : Fin 8) (p : TubePos) (c : RefuseCause) : State := s.post (Report.startRefused n p c)

/-- A lane whose held start is refused or cancelled becomes ARMED (R60, R68, R86). -/
def Lane.standDown (l : Lane) : Lane :=
  { l with state := .armed, held := none, pauseAdmission := false, admission := none }

/-- The lane leaves the admission queue (R87). -/
def State.leaveQueue (s : State) (n : Fin 8) : State :=
  { s with pool := { s.pool with queue := s.pool.queue.filter (· ≠ n) } }

/-- The held start's tube loses its claim (R7). -/
def State.releaseHeld (s : State) (n : Fin 8) : State :=
  match (s.lane n).held with
  | some (p, _) => s.clearClaim p
  | none => s

/-- A WAITING lane loses its held start: it leaves the queue, its tube's claim is cleared and it becomes ARMED. -/
def State.dropHeld (s : State) (n : Fin 8) : State :=
  ((s.leaveQueue n).releaseHeld n).setLane n (s.lane n).standDown

/-- START_REFUSED for the lane's held start. -/
def State.postHeld (s : State) (n : Fin 8) (c : RefuseCause) : State :=
  match (s.lane n).held with
  | some (p, _) => s.refuse n p c
  | none => s

/-- A WAITING lane's held start is refused: the notice, then the departure (R60, R68, R86, R87). -/
def State.refuseHeld (s : State) (n : Fin 8) (c : RefuseCause) : State := (s.postHeld n c).dropHeld n

/-- The head h of the queue is admitted: it leaves the queue and its reservation is counted out (R78, R84). -/
def State.admitHead (s : State) (h : Fin 8) (rest : List (Fin 8)) : State :=
  { s with pool := { s.pool with queue := rest, reserved := s.pool.reserved + (s.lane h).cfg.reservation } }.latchTest false

/-- The decisions of an admission check (R84), along the queue from its head: the state after them, and the starts
admitted, whose takes are still to open. -/
def State.admitLoop : List (Fin 8) → List Opening → State → State × List Opening
  | [], os, s => (s, os)
  | h :: rest, os, s =>
    if s.pool.unreserved < (s.lane h).cfg.reservation then (s, os)
    else match s.freeSlot (os.map Opening.slot), (s.lane h).held with
      | some k, some (p, d) =>
        State.admitLoop rest (os ++ [{ lane := h, slot := k, pos := p, direction := d }]) (s.admitHead h rest)
      | _, _ => State.admitLoop rest os (s.refuseHeld h .tableFull)

/-- The decisions of an admission check from the queue as it stands. -/
def State.admitDecide (s : State) : State × List Opening := State.admitLoop s.pool.queue [] s

/-- The takes of admitted starts open, in the order of their admission. -/
def State.openAll (s : State) (os : List Opening) : State := os.foldl State.openTake s

/-- A whole admission check (R84, R85). -/
def State.admissionCheck (s : State) : State := s.admitDecide.1.openAll s.admitDecide.2

/-! ## Sealing a take (R30–R35, R63) -/

/-- The parser is in the middle of a block (R31, step 2). -/
def Parser.midBlock : Parser → Bool
  | .atHeader => false
  | .inBlock _ => true
  | .hunt => false

/-- The flags at the end of step 3 of seal processing (R30, R31): the cause's own flag, SHORT mid-block, and
LANDMARK_MISMATCH where the tube expects another count. -/
def Take.sealFlags (t : Take) (cause : CloseCause) (midBlock : Bool) (expected : Nat) : Flags :=
  let f := match cause.flag with
    | some g => Flags.add t.flags g
    | none => t.flags
  Flags.addIf (Flags.addIf f midBlock .short) (decide (expected ≠ 0 ∧ expected ≠ t.landmarks)) .landmarkMismatch

/-- The record after steps 1 to 4 of seal processing (R31). -/
def Take.closed (t : Take) (cause : CloseCause) (midBlock : Bool) (expected : Nat) : Take :=
  { t with flags := t.sealFlags cause midBlock expected, closeCause := some cause, remaining := 0 }

/-- Step 5 of seal processing: the auto-reject mask (R33). -/
def Take.judged (t : Take) (mask : Flags) : Take :=
  if t.flags &&& mask = 0 then { t with state := .sealed } else { t with state := .rejected, autoRejected := true }

/-- Step 4 of seal processing, the pool's side: the reservation returns and the latch test is made (R32, R77, R90). -/
def State.returnReservation (s : State) (r : Nat) (quiet : Bool) : State :=
  { s with pool := { s.pool with reserved := s.pool.reserved - r } }.latchAfter s.pool.unreserved quiet

/-- The expected landmarks of a take's tube (R13). -/
def State.expectedOf (s : State) (t : Take) : Nat :=
  match t.tube with
  | some p => (s.tubeAt p.index).expected
  | none => 0

/-- Step 6 of seal processing (R5). -/
def State.sealTube (s : State) (t : Take) : State :=
  match t.tube with
  | some p => s.setTube p.index ((s.tubeAt p.index).sealed (decide (t.state = .sealed)))
  | none => s

/-- The lane leaves its take when its seal is done (R63): ARMED, or DISABLED for the causes that disable it. -/
def Lane.leave (l : Lane) (cause : CloseCause) : Lane :=
  { l with state := if cause.disables then .disabled else .armed, current := none, finalSeq := none, lastSeq := none,
           nextOffset := 0, idle := none, drain := none, track := Track.start }

/-- The steps of seal processing up to the decisions of the admission check of step 4 (R31, R32, R88). -/
def State.sealBegin (s : State) (n : Fin 8) (k : Nat) (cause : CloseCause) (quiet : Bool) : State × List Opening :=
  ((s.setTake k ((s.takeAt k).closed cause (s.lane n).track.parser.midBlock (s.expectedOf (s.takeAt k)))).returnReservation
    (s.takeAt k).remaining quiet).admitDecide

/-- Steps 5 to 7 of seal processing (R31, R33, R5, R34); `quiet` under a rig reset, which posts no notice (R35). -/
def State.sealEnd (s : State) (k : Nat) (cause : CloseCause) (quiet : Bool) : State :=
  let t := (s.takeAt k).judged s.rejectMask
  let s' := (s.setTake k t).sealTube t
  if quiet then s' else s'.post (Report.takeSealed k t cause)

/-- The take of lane n is sealed: seal processing as one action (R31), then the openings that its admission check
decided (R88), then the lane leaves its take (R63). -/
def State.sealTake (s : State) (n : Fin 8) (cause : CloseCause) (quiet : Bool) : State :=
  match (s.lane n).current with
  | none => s
  | some k =>
    let b := s.sealBegin n k cause quiet
    let s' := (b.1.sealEnd k cause quiet).openAll b.2
    s'.setLane n ((s'.lane n).leave cause)

/-- A take's record is changed by its lane's blocks while it records. -/
def State.modTake (s : State) (k : Nat) (f : Take → Take) : State := s.setTake k (f (s.takeAt k))

/-- The take and its lane become CLOSING, with a final sequence or none (R58, R64). -/
def State.enterClosing (s : State) (n : Fin 8) (k : Nat) (final : Option (BitVec 16)) : State :=
  (s.modTake k fun t => { t with state := .closing }).setLane n
    { s.lane n with state := .closing, finalSeq := final, idle := none, drain := startTimer (s.lane n).cfg.drain }

/-! ## Disabling lanes (R50, R51) -/

/-- The lane takes the values of a disabled lane and lets go of its line (R49, R50, R167, R168). -/
def State.shutLane (s : State) (n : Fin 8) : State :=
  (s.setLane n (Lane.disabled (s.lane n).cfg)).setLaneLine n LaneLine.idle

/-- DISABLE_LANE's effect on lane n by its state (R50). A held start's START_REFUSED comes before a POOL_LOW of the check
that follows: the model's choice where R50 and R90 differ (log 29). -/
def State.disableLane (s : State) (n : Fin 8) : State :=
  match (s.lane n).state with
  | .disabled => s
  | .armed => s.shutLane n
  | .waiting => ((s.refuseHeld n .disabled).shutLane n).admissionCheck
  | .opened => (s.sealTake n .laneDisable false).shutLane n
  | .closing => (s.sealTake n .laneDisable false).shutLane n

/-- A WAITING lane leaves the queue at BYPASS or a rig reset (R51). -/
def State.dropWaiting (quiet : Bool) (s : State) (n : Fin 8) : State :=
  if (s.lane n).state = .waiting then (if quiet then s else s.postHeld n .disabled).dropHeld n else s

/-- A recording lane's take is sealed at BYPASS or a rig reset (R51). -/
def State.sealRecording (cause : CloseCause) (quiet : Bool) (s : State) (n : Fin 8) : State :=
  if (s.lane n).recording then s.sealTake n cause quiet else s

/-- The queue is emptied. -/
def State.emptyQueue (s : State) : State := { s with pool := { s.pool with queue := [] } }

/-- BYPASS and a rig reset disable every lane: the WAITING lanes leave the queue, then the takes are sealed, in
ascending lane number (R51). -/
def State.disableAll (s : State) (cause : CloseCause) (quiet : Bool) : State :=
  let s1 := (allLanes.foldl (State.dropWaiting quiet) s).emptyQueue
  let s2 := allLanes.foldl (State.sealRecording cause quiet) s1
  allLanes.foldl State.shutLane s2

end Sys2Proof.Machine
end

