-- ==== Sys2Proof/Machine/Operands.lean ====
section
/-! DEFINITION. The operand forms of the commands: the value checks of every table entry, and the typed values that a
good entry carries (R46, R138, R171, R172, R180, R188, R190). -/

namespace Sys2Proof.Machine

/-- Check 2 of a GLOBAL write (R180). -/
def globalInRange (e : GlobalEntry) : Bool :=
  decide (e.mask.toNat < 2 ^ 14) && decide (e.enables.toNat < 2 ^ 8) && decide (e.lowMark.toNat ≤ 4095) &&
    decide (e.lowMark.toNat ≤ e.highMark.toNat) && decide (e.highMark.toNat ≤ 4095) && decide (1 ≤ e.divider.toNat) &&
    decide (e.divider.toNat ≤ 1023) && decide (16 ≤ e.period.toNat) && decide (e.period.toNat ≤ 4095) &&
    decide (2 ≤ e.window.toNat) && decide (e.window.toNat < e.period.toNat)

/-- The three timebase settings of a GLOBAL write equal those held (R165). -/
def sameTimebase (tb : Timebase) (e : GlobalEntry) : Bool :=
  decide (e.divider.toNat = tb.divider) && decide (e.period.toNat = tb.period) && decide (e.window.toNat = tb.window)

/-- Check 3 of a LANE_CONFIG write: every field within its own range of R46. -/
def laneConfigInRange (e : LaneConfigEntry) : Bool :=
  decide (e.dataSource.toNat ≤ 15) && decide (e.markerSource.toNat ≤ 15) && decide (1 ≤ e.channels.toNat) &&
    decide (e.channels.toNat ≤ 16) && decide (e.detector.toNat ≤ 15) && decide (1 ≤ e.threshold.toNat) &&
    decide (1 ≤ e.release.toNat) && decide (1 ≤ e.sampleSpacing.toNat) && decide (1 ≤ e.reservation.toNat) &&
    decide (e.reservation.toNat ≤ 64)

/-- The configuration that a LANE_CONFIG entry carries. -/
def LaneConfig.ofEntry (e : LaneConfigEntry) : LaneConfig :=
  { dataSource := e.dataSource.setWidth 4, markerSource := e.markerSource.setWidth 4, channels := e.channels.toNat,
    detector := e.detector.toNat, threshold := e.threshold.toNat, release := e.release.toNat,
    landmarkSpacing := e.landmarkSpacing.toNat, sampleSpacing := e.sampleSpacing.toNat, tolerance := e.tolerance.toNat,
    reservation := e.reservation.toNat, idle := e.idle.toNat, drain := e.drain.toNat, admission := e.admission.toNat }

/-- The two constraints that join fields, checked at ENABLE_LANE (R47, R48). -/
def LaneConfig.consistent (c : LaneConfig) : Bool := decide (c.detector < c.channels) && decide (c.release < c.threshold)

/-- The presence of an encoding (R188). -/
def presenceOf (b : Byte) : Option Presence :=
  match b.toNat with
  | 0 => some .notInMap
  | 1 => some .inMap
  | _ => none

/-- The plug state of an encoding (R188). -/
def plugOf (b : Byte) : Option Plug :=
  match b.toNat with
  | 0 => some .unplugged
  | 1 => some .plugged
  | _ => none

/-- The three map fields of a tube set together (R15, R19): nothing else of the record changes. -/
def Tube.mapped (t : Tube) (p : Presence) (g : Plug) (expected : Nat) : Tube :=
  { t with presence := p, plug := g, expected := expected }

/-- The tube that map fields in range give, none where one is out of range (R15 check 5, R188). -/
def Tube.mapFields (t : Tube) (presence plug expected : Byte) : Option Tube :=
  match presenceOf presence, plugOf plug with
  | some p, some g => if expected.toNat ≤ 47 then some (t.mapped p g expected.toNat) else none
  | _, _ => none

/-- A tube position from bytes in range, 0–127 each. -/
def tubePosOf (row col : Byte) : Option TubePos :=
  if hr : row.toNat < 128 then
    if hc : col.toNat < 128 then some { row := ⟨row.toNat, hr⟩, col := ⟨col.toNat, hc⟩ } else none
  else none

/-- A lane number from a byte or an index, 0–7. -/
def laneOf (n : Nat) : Option (Fin 8) := if h : n < 8 then some ⟨n, h⟩ else none

/-- The window binding that the fields of a WINDOW entry name (R129, checks 2 and 3): none for BAD_VALUE. -/
def windowOf (e : WindowEntry) : Option Window :=
  match e.mode.toNat with
  | 0 => some .unbound
  | 1 => if e.take.toNat ≤ 1023 then some (.take e.take.toNat) else none
  | 2 => (tubePosOf e.row e.column).map Window.follow
  | _ => none

/-- Check 3 of an amendment write of a key (R138). -/
def keyInRange (k : KeyEntry) : Bool :=
  decide (k.take.toNat ≤ 1023) && decide (k.unit.toNat ≤ 262143) && decide (k.eighth.toNat ≤ 7)

/-- The watch mode of an encoding (R190). -/
def watchModeOf (b : Byte) : Option WatchMode :=
  match b.toNat with
  | 0 => some .off
  | 1 => some .matching
  | 2 => some .range
  | _ => none

/-- The direction filter of an encoding (R190). -/
def dirFilterOf (b : Byte) : Option DirFilter :=
  match b.toNat with
  | 0 => some .read
  | 1 => some .write
  | 2 => some .both
  | _ => none

/-- The source filter of a kind byte and a source byte, which is read only when the kind is SOURCE (R190). -/
def sourceFilterOf (kind source : Byte) : Option (Option Source) :=
  match kind.toNat with
  | 0 => some none
  | 1 => if source.toNat ≤ 15 then some (some (source.setWidth 4)) else none
  | _ => none

/-- The watch unit after a good WRITE_ENTRY (R172): every configuration field set, the count and capture cleared where
asked; none where a field is out of range. -/
def Watch.written (w : Watch) (e : WatchEntry) : Option Watch :=
  match watchModeOf e.mode, dirFilterOf e.dirFilter, sourceFilterOf e.sourceKind e.source, laneOf e.holdLane.toNat with
  | some mode, some dir, some src, some lane =>
    if e.actions.toNat ≤ 7 ∧ e.clear.toNat ≤ 1 then
      some { mode := mode, compare := e.compare, mask := e.mask, dirFilter := dir, source := src,
             notice := e.actions.getLsbD 0, hold := e.actions.getLsbD 1, oneShot := e.actions.getLsbD 2, holdLane := lane,
             hits := if e.clear.toNat = 1 then 0 else w.hits
             capture := if e.clear.toNat = 1 then none else w.capture }
    else none
  | _, _, _, _ => none

/-- The line entry of a good LINES write (R171), none for an encoding outside the values. -/
def lineEntryOf (e : LinesEntry) : Option LineEntry :=
  match e.direction.toNat, e.level.toNat with
  | 0, 0 => some { direction := .input, level := .low }
  | 0, 1 => some { direction := .input, level := .high }
  | 1, 0 => some { direction := .output, level := .low }
  | 1, 1 => some { direction := .output, level := .high }
  | _, _ => none

end Sys2Proof.Machine
end

