-- ==== Sys2Proof/Machine/Entries.lean ====
section
/-! DEFINITION. Records as bytes: a notice in the ring (R187), and the entries that READ_ENTRY returns (R190). -/

namespace Sys2Proof.Machine

/-! ## The notice (R187) -/

/-- The presence byte of a notice (R187). -/
def Report.presence (r : Report) : Byte :=
  BitVec.ofNat 8 (bitsNat [r.lane.isSome, r.take.isSome, r.serial.isSome, r.tube.isSome, r.source.isSome])

/-- The row of an optional position, 0 where absent. -/
def rowOf (p : Option TubePos) : Nat := (p.map fun q => q.row.val).getD 0

/-- The column of an optional position, 0 where absent. -/
def colOf (p : Option TubePos) : Nat := (p.map fun q => q.col.val).getD 0

/-- The 32 bytes of a notice (R187); the value uses bits 0–33. -/
def Notice.bytes (n : Notice) : List Byte :=
  let r := n.report
  leBytes 4 n.number ++ leBytes 1 r.kind.code ++ [r.presence] ++ leBytes 1 ((r.lane.map Fin.val).getD 0) ++
    leBytes 1 ((r.source.map BitVec.toNat).getD 0) ++ leBytes 2 (r.take.getD 0) ++ leBytes 1 (rowOf r.tube) ++
    leBytes 1 (colOf r.tube) ++ leBytes 4 (r.serial.getD 0) ++ leBytes 1 ((r.cause.map Cause.code).getD 0) ++ zeros 1 ++
    leBytes 2 r.flags.toNat ++ leBytes 8 (r.value % 2 ^ 34) ++ zeros 4

/-! ## Table entries (R190) -/

/-- The LAYOUT entry. -/
def State.layoutEntry (s : State) : List Byte := s.layout.bytes

/-- The GLOBAL entry. -/
def State.globalEntry (s : State) : List Byte :=
  leBytes 2 s.rejectMask.toNat ++ leBytes 2 s.pool.lowMark ++ leBytes 2 s.pool.highMark ++ leBytes 2 s.notices.enables.toNat ++
    leBytes 2 s.plugSet.toNat ++ leBytes 2 s.timebase.divider ++ leBytes 2 s.timebase.period ++ leBytes 2 s.timebase.window

/-- A LANE_CONFIG entry. -/
def LaneConfig.entry (c : LaneConfig) : List Byte :=
  leBytes 1 c.dataSource.toNat ++ leBytes 1 c.markerSource.toNat ++ leBytes 1 c.channels ++ leBytes 1 c.detector ++
    leBytes 2 c.threshold ++ leBytes 2 c.release ++ leBytes 2 c.landmarkSpacing ++ leBytes 2 c.tolerance ++
    leBytes 1 c.sampleSpacing ++ leBytes 1 c.reservation ++ leBytes 2 c.idle ++ leBytes 2 c.drain ++ leBytes 2 c.admission

/-- The current block, present in IN_BLOCK (R96). -/
def Parser.block : Parser → Option Block
  | .atHeader => none
  | .inBlock b => some b
  | .hunt => none

/-- A LANE_STATUS entry (R49, R96). -/
def Lane.entry (l : Lane) : List Byte :=
  let b := l.track.parser.block
  leBytes 1 l.state.code ++ leBytes 1 (bitsNat [l.pauseAdmission, l.pauseWatch]) ++ leBytes 1 l.home.code ++
    [boolByte l.stray] ++
    leBytes 1 (bitsNat [l.current.isSome, l.held.isSome, l.finalSeq.isSome, l.lastSeq.isSome, b.isSome,
      l.track.expected.isSome, l.track.prevAxial.isSome, l.track.lastLandmark.isSome]) ++
    leBytes 1 (bitsNat [l.idle.isSome, l.drain.isSome, l.admission.isSome]) ++ leBytes 2 (l.current.getD 0) ++
    leBytes 1 (rowOf (l.held.map Prod.fst)) ++ leBytes 1 (colOf (l.held.map Prod.fst)) ++
    leBytes 1 ((l.held.map fun h => h.2.code).getD 0) ++ leBytes 1 l.track.parser.code ++ leBytes 4 l.nextOffset ++
    leBytes 2 ((l.finalSeq.map BitVec.toNat).getD 0) ++ leBytes 2 ((l.lastSeq.map BitVec.toNat).getD 0) ++
    leBytes 2 (l.idle.getD 0) ++ leBytes 2 (l.drain.getD 0) ++ leBytes 2 (l.admission.getD 0) ++
    leBytes 1 l.track.detector.code ++ zeros 1 ++ leBytes 2 ((l.track.expected.map BitVec.toNat).getD 0) ++ zeros 2 ++
    signedBytes (l.track.prevAxial.getD 0) ++ signedBytes (l.track.lastLandmark.getD 0) ++
    leBytes 2 ((b.map fun b => b.seq.toNat).getD 0) ++ leBytes 2 ((b.map fun b => b.count).getD 0) ++
    signedBytes ((b.map fun b => b.first).getD 0) ++ signedBytes ((b.map fun b => b.last).getD 0) ++
    leBytes 1 ((b.map fun b => b.remaining).getD 0) ++ zeros 1 ++ leBytes 2 ((b.map fun b => b.nextSample).getD 0)

/-- A TAKE entry (R23). -/
def Take.entry (t : Take) : List Byte :=
  leBytes 4 t.serial ++ leBytes 1 t.state.code ++ leBytes 1 t.lane.val ++ leBytes 1 (rowOf t.tube) ++
    leBytes 1 (colOf t.tube) ++ leBytes 1 t.direction.code ++ [boolByte t.autoRejected] ++
    leBytes 1 ((t.closeCause.map CloseCause.code).getD 0) ++ leBytes 1 t.bindings ++
    leBytes 1 (bitsNat [t.tube.isSome, t.axialFirst.isSome, t.axialLast.isSome]) ++ leBytes 1 t.chain.length ++
    leBytes 1 t.remaining ++ leBytes 1 t.landmarkList.length ++ leBytes 4 t.written ++ leBytes 4 t.samples ++
    leBytes 2 t.blocks ++ leBytes 2 t.missing ++ leBytes 2 t.landmarks ++ leBytes 2 t.rewrites ++
    leBytes 2 t.flags.toNat ++ zeros 2 ++ signedBytes (t.axialFirst.getD 0) ++ signedBytes (t.axialLast.getD 0) ++
    padTo 128 (t.chain.flatMap (leBytes 2)) ++ padTo 192 (t.landmarkList.flatMap signedBytes)

/-- A TUBE entry (R1). -/
def Tube.entry (t : Tube) : List Byte :=
  leBytes 1 t.presence.code ++ leBytes 1 t.plug.code ++ leBytes 1 t.expected ++ leBytes 1 t.status.code ++
    leBytes 1 (bitsNat [t.claim.isSome, t.accepted.isSome]) ++ leBytes 1 ((t.claim.map Fin.val).getD 0) ++
    leBytes 2 (t.accepted.getD 0) ++ [boolByte t.acceptMark] ++ leBytes 1 t.attempts ++ leBytes 2 t.pending ++
    leBytes 1 t.history.length ++ zeros 1 ++ padTo 8 (t.history.flatMap (leBytes 2))

/-- The mode byte and the position bytes of a window (R190). -/
def Window.head : Window → List Byte
  | .unbound => [0, 0, 0]
  | .take _ => [1, 0, 0]
  | .follow p => 2 :: (leBytes 1 p.row.val ++ leBytes 1 p.col.val)

/-- A WINDOW entry (R128): the take shown is the bound one, or the one the window resolves to as the read is taken. -/
def State.windowEntry (s : State) (w : Window) : List Byte :=
  let shown := match w with
    | .unbound => none
    | .take k => some k
    | .follow p => (s.tubeAt p.index).accepted
  w.head ++ leBytes 1 ((shown.map fun k => (s.takeAt k).state.code).getD 0) ++ leBytes 2 (shown.getD 0) ++
    [boolByte shown.isSome] ++ zeros 1 ++ leBytes 4 ((shown.map fun k => (s.takeAt k).serial).getD 0)

/-- An AMENDMENT entry (R137). -/
def Amendment.entry (a : Amendment) : List Byte :=
  [0, boolByte a.enabled] ++ leBytes 1 a.eighth ++ zeros 1 ++ leBytes 2 a.take ++ zeros 2 ++ leBytes 4 a.unit ++ zeros 4 ++
    leBytes 8 a.value.toNat

/-- A WATCH entry (R172). -/
def Watch.entry (w : Watch) : List Byte :=
  leBytes 1 w.mode.code ++ leBytes 1 w.dirFilter.code ++ [boolByte w.source.isSome] ++
    leBytes 1 ((w.source.map BitVec.toNat).getD 0) ++ leBytes 1 (bitsNat [w.notice, w.hold, w.oneShot]) ++
    leBytes 1 w.holdLane.val ++ zeros 1 ++ [boolByte w.capture.isSome] ++ leBytes 5 w.compare.toNat ++ zeros 3 ++
    leBytes 5 w.mask.toNat ++ zeros 1 ++ leBytes 2 w.hits ++ leBytes 5 ((w.capture.map fun c => c.addr.toNat).getD 0) ++
    leBytes 1 ((w.capture.map fun c => c.source.toNat).getD 0) ++
    [boolByte ((w.capture.map fun c => c.isWrite).getD false)] ++ zeros 1 ++
    leBytes 8 ((w.capture.map fun c => c.data.toNat).getD 0)

/-- The owner and previous-sample bytes of line i, 0 for a general line (R171, R190). -/
def State.ownerBytes (s : State) (i : Nat) : List Byte :=
  match laneOf i with
  | some n => boolByte (s.lane n).enabled :: leBytes 1 (sampleCode (s.laneLine n).prev)
  | none => zeros 2

/-- A LINES entry (R171); the input level is the level present on the line. -/
def State.linesEntry (s : State) (i : Fin 12) (levels : BitVec 12) : List Byte :=
  leBytes 1 s.lines[i].direction.code ++ leBytes 1 s.lines[i].level.code ++ [boolByte (levels.getLsbD i.val)] ++
    s.ownerBytes i.val ++ zeros 3

/-- The serial counter is spent (R25). -/
def State.spent (s : State) : Bool := decide (Config.spentSerial ≤ s.serialCounter)

/-- The serial counter as STATUS shows it; a free value once it is spent (log 11). -/
def State.shownSerial (s : State) : Nat :=
  if s.spent then (Config.spentCounterShown s.fresh).toNat else s.serialCounter

/-- The mode's encoding (R190). -/
def Mode.isEngaged : Mode → Bool
  | .bypass => false
  | .engaged => true

/-- The STATUS entry (R181). -/
def State.statusEntry (s : State) : List Byte :=
  [boolByte s.mode.isEngaged] ++ leBytes 1 s.strap.toNat ++ [boolByte s.locked, boolByte s.pool.armed] ++
    leBytes 2 s.pool.freeCount ++ leBytes 2 s.pool.reserved ++ leBytes 2 s.pool.unreserved ++
    leBytes 1 s.pool.queue.length ++ [boolByte s.notices.attention] ++
    padTo 8 (s.pool.queue.map fun n => BitVec.ofNat 8 n.val) ++ leBytes 4 s.shownSerial ++
    [boolByte s.spent, boolByte s.loader.running] ++ leBytes 2 s.loader.next ++ leBytes 2 s.loader.remaining ++
    leBytes 1 s.notices.queue.length ++ zeros 1 ++ leBytes 5 s.loader.base.toNat ++ zeros 1 ++
    leBytes 2 s.notices.writeIndex ++ leBytes 4 s.notices.nextNumber

/-- An entry of an array of records, none for an index beyond it. -/
def entryOf {α : Type} {n : Nat} (v : Vector α n) (i : Nat) (f : α → List Byte) : Option (List Byte) := v[i]?.map f

/-- Entry `i` of a table (R179, R190): none for an index that names no entry. -/
def State.entry (s : State) (t : TableSel) (i : Nat) (levels : BitVec 12) : Option (List Byte) :=
  match t with
  | .layout => if i = 0 then some s.layoutEntry else none
  | .global => if i = 0 then some s.globalEntry else none
  | .laneConfig => entryOf s.lanes i fun l => l.cfg.entry
  | .laneStatus => entryOf s.lanes i Lane.entry
  | .take => if i < Config.takeSlots then some (s.takeAt i).entry else none
  | .tube => if i < Config.tubeCount then some (s.tubeAt i).entry else none
  | .window => entryOf s.windows i s.windowEntry
  | .amendment => entryOf s.amendments i Amendment.entry
  | .watch => entryOf s.watches i Watch.entry
  | .lines => if h : i < 12 then some (s.linesEntry ⟨i, h⟩ levels) else none
  | .status => if i = 0 then some s.statusEntry else none

end Sys2Proof.Machine
end

