-- ==== Sys2Proof/Machine/Link.lean ====
section
/-! DEFINITION. The Management Link (R175, R176): its phases, replies, and how a request is taken; the meanings of
CHIP_SELECT_FALL, CHIP_SELECT_RISE, BAD_REQUEST and READ_ENTRY. -/

namespace Sys2Proof.Machine

/-- The idle byte (R189). -/
def idleByte : Byte := 0xFF

/-- The WAIT byte (R189). -/
def waitByte : Byte := 0xA5

/-- A reply: status, payload length, payload, and the check byte that makes the sum 0 (R176, R189). -/
def replyBytes (status : Status) (payload : List Byte) : List Byte :=
  let body := BitVec.ofNat 8 status.code :: (leBytes 2 payload.length ++ payload)
  body ++ [checkByte body]

/-! ## Bytes clocked by the host -/

/-- One byte clocked by the host once the request has been taken (R176): the link after it, and the byte returned. -/
def Link.clockOne (l : Link) : Link × Byte :=
  match l.phase, l.waitLeft, l.reply with
  | .working, w + 1, _ => ({ l with waitLeft := w }, waitByte)
  | .working, 0, b :: bs => ({ l with phase := if bs.isEmpty then .trailing else .replying, reply := bs }, b)
  | .replying, _, b :: bs => ({ l with phase := if bs.isEmpty then .trailing else .replying, reply := bs }, b)
  | _, _, _ => (l, idleByte)

/-- `n` bytes clocked: the link after them, and the bytes returned. -/
def Link.clock : Link → Nat → Link × List Byte
  | l, 0 => (l, [])
  | l, n + 1 => ((Link.clock l.clockOne.1 n).1, l.clockOne.2 :: (Link.clock l.clockOne.1 n).2)

/-- How many of these request bytes are answered in RECEIVING: all, or those of the complete request they begin with (R175). -/
def receivingCount (bytes : List Byte) : Nat :=
  if 6 ≤ bytes.length then min bytes.length (7 + declaredLength bytes) else bytes.length

/-- What the host receives for bytes clocked in a frame whose request is never taken: the idle byte up to the end of
the request, then the WAIT byte (R175, R176). -/
def untakenBytes (bytes : List Byte) : List Byte :=
  List.replicate (receivingCount bytes) idleByte ++ List.replicate (bytes.length - receivingCount bytes) waitByte

/-- What the host receives for bytes it clocks, by phase: before a request is taken, those since the fall; then the WAIT
bytes, the reply and the idle byte in their order; with chip select low and no frame, free values (log 12). -/
def State.clockedBytes (s : State) (clocked : List Byte) : List Byte :=
  match s.link.phase with
  | .idle => (List.range clocked.length).map fun i => Config.byteOutsideFrame (s.fresh + i)
  | .receiving => untakenBytes clocked
  | .working => (s.link.clock clocked.length).2
  | .replying => (s.link.clock clocked.length).2
  | .trailing => (s.link.clock clocked.length).2

/-- The link once the host has clocked `n` bytes: after a request was taken it goes on through its WAIT bytes and its reply;
before that the request is one event (log 8). -/
def Link.advance (l : Link) (n : Nat) : Link :=
  match l.phase with
  | .idle => l
  | .receiving => l
  | .working => (l.clock n).1
  | .replying => (l.clock n).1
  | .trailing => (l.clock n).1

/-- The host clocks these bytes, which the part reads as no request, and receives as many (R175, R176). The link ignores the clock
while chip select is high, and in power-on reset (R175, R183). -/
def State.clockBytes (s : State) (bytes : List Byte) : State :=
  if s.pins.selectLow && !s.pins.powerReset then
    { s with
      link := s.link.advance bytes.length, fresh := s.fresh + bytes.length
      out := { s.out with linkBytes := s.clockedBytes bytes } }
  else s

/-! ## Requests taken -/

/-- The link can complete a request: chip select has fallen and no request of the frame has been taken (R175). -/
def State.listening (s : State) : Bool := !s.pins.powerReset && decide (s.link.phase = .receiving)

/-- The request c has been taken, and its reply is fixed (R175, R176): the idle byte has answered each request byte, the
frame is WORKING, and the number of WAIT bytes is a free value (log 9). -/
def State.reply (s : State) (c : Instr) (status : Status) (payload : List Byte) : State :=
  { s with
    link := { phase := .working, waitLeft := Config.waitBytes s.fresh, reply := replyBytes status payload }
    fresh := s.fresh + 1
    out := { s.out with linkBytes := List.replicate (requestBytes c).length idleByte } }

/-- Request bytes clocked out where the link is not RECEIVING are ignored as a request (R176): the link goes on with what
it was sending. -/
def State.ignoreRequest (s : State) (c : Instr) : State := s.notTaken.clockBytes (requestBytes c)

/-- A request is taken as one event where the link is RECEIVING: its whole effect, then the reply with no payload (R175, R176). -/
def State.request (s : State) (c : Instr) (act : State → State × Status) : Host.Outcome State Fault Refusal :=
  if s.listening then .next ((act s.takeEvent).1.reply c (act s.takeEvent).2 []) else .next (s.ignoreRequest c)

/-- A request refused with a status changes nothing. -/
def State.refused (s : State) (e : Status) : State × Status := (s, e)

/-- A request that passes its checks returns DONE. -/
def State.done (s : State) : State × Status := (s, .done)

/-! ## Chip select -/

/-- CHIP_SELECT_FALL (R175): in IDLE it starts RECEIVING. In power-on reset only the pin is remembered (R183). -/
def execChipSelectFall (s : State) : Host.Outcome State Fault Refusal :=
  if s.pins.selectLow then .next s.notTaken
  else if s.pins.powerReset then .next { s.notTaken with pins := { s.pins with selectLow := true } }
  else .next { s.takeEvent with
    pins := { s.pins with selectLow := true }
    link := if s.link.phase = .idle then { phase := .receiving, waitLeft := 0, reply := [] } else s.link }

/-- CHIP_SELECT_RISE (R175, R176): the frame ends, whatever its phase, and the link is IDLE. In power-on reset only the
pin is remembered (R183). -/
def execChipSelectRise (clocked : List Byte) (s : State) : Host.Outcome State Fault Refusal :=
  if !s.pins.selectLow then .next s.notTaken
  else if s.pins.powerReset then .next { s.notTaken with pins := { s.pins with selectLow := false } }
  else .next { s.takeEvent.clockBytes clocked with pins := { s.pins with selectLow := false }, link := Link.quiet }

/-! ## Requests that change nothing -/

/-- BAD_REQUEST (R175, R177): refused with the status that its bytes call for. Bytes that are no complete request, or
are the request of another row, are no such event (log 2). -/
def execBadRequest (frame : List Byte) (s : State) : Host.Outcome State Fault Refusal :=
  if completeFrame frame then
    match badReason frame with
    | some e => s.request (.badRequest frame) fun s => s.refused e
    | none => .next s.notTaken
  else .next s.notTaken

/-- What READ_ENTRY replies (R179): the entry as it stands, or BAD_INDEX. -/
def State.readReply (s : State) (t : TableSel) (i : Nat) (levels : BitVec 12) : Status × List Byte :=
  match s.entry t i levels with
  | some bytes => (.done, bytes)
  | none => (.badIndex, [])

/-- READ_ENTRY (R179): it changes nothing. -/
def execReadEntry (t : TableSel) (index : BitVec 16) (levels : BitVec 12) (s : State) :
    Host.Outcome State Fault Refusal :=
  if s.listening then
    .next (s.takeEvent.reply (.readEntry t index levels) (s.readReply t index.toNat levels).1
      (s.readReply t index.toNat levels).2)
  else .next (s.ignoreRequest (.readEntry t index levels))

end Sys2Proof.Machine
end

