-- ==== Sys2Proof/Machine/Tables.lean ====
section
/-! DEFINITION. WRITE_ENTRY to each table (chapter 11.4 and the owning rules), and the four amendment operations. -/

namespace Sys2Proof.Machine

/-- A list of checks, each with the status it gives when it fails: the first that fails (R177). -/
def firstFailing : List (Bool × Status) → Option Status
  | [] => none
  | (bad, e) :: rest => if bad then some e else firstFailing rest

/-- A request with its checks in order, then its effect with DONE (R177). -/
def State.checked (s : State) (checks : List (Bool × Status)) (effect : State → State) : State × Status :=
  match firstFailing checks with
  | some e => s.refused e
  | none => (effect s).done

/-- A request whose last checks read its fields into a value `v`, none where a field is out of its values: BAD_VALUE
after the checks before it. -/
def State.checkedValue {α : Type} (s : State) (checks : List (Bool × Status)) (v : Option α) (effect : α → State → State) :
    State × Status :=
  match firstFailing checks, v with
  | some e, _ => s.refused e
  | none, none => s.refused .badValue
  | none, some a => (effect a s).done

/-! ## LAYOUT, GLOBAL, LANE_CONFIG, TUBE -/

/-- The effect of a LAYOUT write (R145). -/
def State.setLayout (l : Layout) (s : State) : State := { s with layout := l }

/-- WRITE_ENTRY_LAYOUT (R145). Its third check cannot fail: a base of five bytes is below 2^40. -/
def execWriteEntryLayout (index : BitVec 16) (e : Layout) (s : State) : Host.Outcome State Fault Refusal :=
  s.request (.writeEntryLayout index e) fun s =>
    s.checked [(decide (index.toNat ≠ 0), .badIndex), (s.mode.isEngaged, .refusedState)] (State.setLayout e)

/-- Any lane is enabled. -/
def State.anyEnabled (s : State) : Bool := allLanes.any fun n => (s.lane n).enabled

/-- The timebase after a GLOBAL write: restarted where a setting changed (R165, R166). -/
def Timebase.written (tb : Timebase) (e : GlobalEntry) : Timebase :=
  if sameTimebase tb e then tb
  else { divider := e.divider.toNat, period := e.period.toNat, window := e.window.toNat, cycle := 0, tick := 0 }

/-- The fields of a GLOBAL write are set together (R180). -/
def State.setGlobal (e : GlobalEntry) (s : State) : State :=
  { s with
    rejectMask := e.mask.setWidth 14
    pool := { s.pool with lowMark := e.lowMark.toNat, highMark := e.highMark.toNat }
    notices := { s.notices with enables := e.enables.setWidth 8 }
    plugSet := e.plugs
    timebase := s.timebase.written e }

/-- The effect of a GLOBAL write (R180): its fields, then the latch test with the new marks (R90). -/
def State.writeGlobal (e : GlobalEntry) (s : State) : State := (s.setGlobal e).latchTest false

/-- WRITE_ENTRY_GLOBAL (R180). -/
def execWriteEntryGlobal (index : BitVec 16) (e : GlobalEntry) (s : State) : Host.Outcome State Fault Refusal :=
  s.request (.writeEntryGlobal index e) fun s =>
    s.checked [(decide (index.toNat ≠ 0), .badIndex), (!globalInRange e, .badValue),
      (s.locked && decide (e.plugs ≠ s.plugSet), .refusedLocked),
      (s.anyEnabled && !sameTimebase s.timebase e, .refusedState)] (State.writeGlobal e)

/-- WRITE_ENTRY_LANE_CONFIG (R47). -/
def execWriteEntryLaneConfig (index : BitVec 16) (e : LaneConfigEntry) (s : State) : Host.Outcome State Fault Refusal :=
  s.request (.writeEntryLaneConfig index e) fun s =>
    match laneOf index.toNat with
    | none => s.refused .badIndex
    | some n =>
      s.checked [((s.lane n).enabled, .refusedState), (!laneConfigInRange e, .badValue)] fun s =>
        s.setLane n { s.lane n with cfg := LaneConfig.ofEntry e }

/-- WRITE_ENTRY_TUBE (R15). -/
def execWriteEntryTube (index : BitVec 16) (e : TubeEntry) (s : State) : Host.Outcome State Fault Refusal :=
  s.request (.writeEntryTube index e) fun s =>
    s.checkedValue [(decide (Config.tubeCount ≤ index.toNat), .badIndex), (s.locked, .refusedLocked),
        (s.loader.running, .refusedState), ((s.tubeAt index.toNat).claim.isSome, .refusedState)]
      ((s.tubeAt index.toNat).mapFields e.presence e.plug e.expected) fun t s => s.setTube index.toNat t

/-! ## WINDOW -/

/-- The named take is FREE. -/
def State.isFree (s : State) (k : Nat) : Bool := decide ((s.takeAt k).state = .free)

/-- The expected serial is not 0 and differs from the serial held in the slot (R36, R129, R138). -/
def State.wrongSerial (s : State) (k : Nat) (serial : BitVec 32) : Bool :=
  decide (serial.toNat ≠ 0) && decide (serial.toNat ≠ (s.takeAt k).serial)

/-- Checks 4 and 5 of a WINDOW write (R129), made in TAKE mode. -/
def State.bindChecks (s : State) (serial : BitVec 32) : Window → List (Bool × Status)
  | .take k => [(s.isFree k, .refusedState), (s.wrongSerial k serial, .badValue)]
  | .unbound => []
  | .follow _ => []

/-- The fixed bindings of the take a binding names change (R130, steps 1 and 3). -/
def State.countBinding (s : State) (w : Window) (f : Nat → Nat) : State :=
  match w with
  | .take k => s.modTake k fun t => { t with bindings := f t.bindings }
  | .unbound => s
  | .follow _ => s

/-- A window's binding is replaced (R130). -/
def State.bindWindow (i : Fin 16) (new : Window) (s : State) : State :=
  let s1 := s.countBinding s.windows[i] (· - 1)
  ({ s1 with windows := s1.windows.set i new }).countBinding new (· + 1)

/-- WRITE_ENTRY_WINDOW (R129, R130). -/
def execWriteEntryWindow (index : BitVec 16) (e : WindowEntry) (s : State) : Host.Outcome State Fault Refusal :=
  s.request (.writeEntryWindow index e) fun s =>
    if h : index.toNat < 16 then
      match windowOf e with
      | none => s.refused .badValue
      | some w => s.checked (s.bindChecks e.serial w) (State.bindWindow ⟨index.toNat, h⟩ w)
    else s.refused .badIndex

/-! ## AMENDMENT (R138) -/

/-- Checks 3 to 5 of an amendment write of a key (R138). -/
def State.keyChecks (s : State) (k : KeyEntry) : List (Bool × Status) :=
  [(!keyInRange k, .badValue), (s.isFree k.take.toNat, .refusedState), (s.wrongSerial k.take.toNat k.serial, .badValue)]

/-- A slot with a key written and enabled (R138). -/
def Amendment.withKey (a : Amendment) (k : KeyEntry) : Amendment :=
  { a with take := k.take.toNat, unit := k.unit.toNat, eighth := k.eighth.toNat, enabled := true }

/-- A slot with its value written (R138). -/
def Amendment.withValue (a : Amendment) (v : BitVec 64) : Amendment := { a with value := v }

/-- A slot disabled; its key and value stay (R138, R141). -/
def Amendment.off (a : Amendment) : Amendment := { a with enabled := false }

/-- An amendment operation on slot `index`: check 1, then the operation's own checks, then its change (R138). -/
def State.amend (s : State) (index : BitVec 16) (checks : List (Bool × Status)) (f : Amendment → Amendment) :
    State × Status :=
  if h : index.toNat < 8 then
    s.checked checks fun s => { s with amendments := s.amendments.set index.toNat (f s.amendments[index.toNat]) }
  else s.refused .badIndex

/-- WRITE_KEY (R138). -/
def execWriteKey (index : BitVec 16) (k : KeyEntry) (s : State) : Host.Outcome State Fault Refusal :=
  s.request (.writeKey index k) fun s => s.amend index (s.keyChecks k) fun a => a.withKey k

/-- WRITE_VALUE (R138). -/
def execWriteValue (index : BitVec 16) (value : BitVec 64) (s : State) : Host.Outcome State Fault Refusal :=
  s.request (.writeValue index value) fun s => s.amend index [] fun a => a.withValue value

/-- WRITE_BOTH (R138). -/
def execWriteBoth (index : BitVec 16) (k : KeyEntry) (value : BitVec 64) (s : State) : Host.Outcome State Fault Refusal :=
  s.request (.writeBoth index k value) fun s => s.amend index (s.keyChecks k) fun a => (a.withKey k).withValue value

/-- DISABLE (R138). -/
def execDisable (index : BitVec 16) (s : State) : Host.Outcome State Fault Refusal :=
  s.request (.disable index) fun s => s.amend index [] Amendment.off

/-! ## WATCH, LINES, and the tables that cannot be written -/

/-- WRITE_ENTRY_WATCH (R172). -/
def execWriteEntryWatch (index : BitVec 16) (e : WatchEntry) (s : State) : Host.Outcome State Fault Refusal :=
  s.request (.writeEntryWatch index e) fun s =>
    if h : index.toNat < 4 then
      s.checkedValue [] (s.watches[index.toNat].written e) fun w s => { s with watches := s.watches.set index.toNat w }
    else s.refused .badIndex

/-- WRITE_ENTRY_LINES (R171): the entry alone; a lane line under the lane function keeps its drive. -/
def execWriteEntryLines (index : BitVec 16) (e : LinesEntry) (s : State) : Host.Outcome State Fault Refusal :=
  s.request (.writeEntryLines index e) fun s =>
    if h : index.toNat < 12 then
      s.checkedValue [] (lineEntryOf e) fun l s => { s with lines := s.lines.set index.toNat l }
    else s.refused .badIndex

/-- WRITE_ENTRY_READ_ONLY (R179): BAD_INDEX beyond the table, otherwise REFUSED_STATE. -/
def execWriteEntryReadOnly (t : ReadOnlyTable) (index : BitVec 16) (s : State) : Host.Outcome State Fault Refusal :=
  s.request (.writeEntryReadOnly t index) fun s =>
    s.refused (if t.sel.entries ≤ index.toNat then .badIndex else .refusedState)

end Sys2Proof.Machine
end

