-- ==== Sys2Proof/Machine/Commands.lean ====
section
/-! DEFINITION. The management commands of section 11.3: modes, lanes, verdicts and release, the map load, the campaign
lock, attention and holds. -/

namespace Sys2Proof.Machine

/-! ## Modes (R151, R152) -/

/-- A region of the layout: its base, size and alignment, which are the same (R145). -/
structure Region where
  base : Nat
  size : Nat
  deriving DecidableEq, Repr

/-- The five regions of a layout (R145). -/
def layoutRegions (l : Layout) : List Region :=
  [{ base := l.lane.toNat, size := 8 * Config.apertureBytes }, { base := l.review.toNat, size := 16 * Config.apertureBytes },
    { base := l.capture.toNat, size := Config.segments * Config.segmentBytes }, { base := l.marker.toNat, size := 65536 },
    { base := l.ring.toNat, size := 32768 }]

/-- Checks 1 and 2 of ENGAGE on one region (R151). -/
def Region.placed (r : Region) : Bool := decide (r.base % r.size = 0) && decide (r.base + r.size ≤ 2 ^ 40)

/-- Two regions share no byte (R151). -/
def Region.apart (r q : Region) : Bool := decide (r.base + r.size ≤ q.base) || decide (q.base + q.size ≤ r.base)

/-- No two regions of a list share a byte (R151). -/
def allApart : List Region → Bool
  | [] => true
  | r :: rs => rs.all r.apart && allApart rs

/-- The layout checks of ENGAGE (R151). -/
def layoutValid (l : Layout) : Bool := (layoutRegions l).all Region.placed && allApart (layoutRegions l)

/-- ENGAGE (R151). -/
def execEngage (s : State) : Host.Outcome State Fault Refusal :=
  s.request .engage fun s =>
    match s.mode with
    | .engaged => s.done
    | .bypass => s.checked [(!layoutValid s.layout, .badLayout)] fun s => { s with mode := .engaged }

/-- The effect of BYPASS in ENGAGED mode (R51, R152). -/
def State.leaveEngaged (s : State) : State := { s.disableAll .bypass false with mode := .bypass }

/-- BYPASS (R152). -/
def execBypass (s : State) : Host.Outcome State Fault Refusal :=
  s.request .bypass fun s =>
    match s.mode with
    | .bypass => s.done
    | .engaged => s.leaveEngaged.done

/-! ## Lanes (R48, R50, R170) -/

/-- Lane n becomes ARMED with fresh dynamic state, and its line goes to the lane function with no previous sample
(R48, R167, R168). -/
def State.armLane (n : Fin 8) (s : State) : State :=
  (s.setLane n { Lane.disabled (s.lane n).cfg with state := .armed }).setLaneLine n LaneLine.idle

/-- A command that names a lane: BAD_INDEX above 7. -/
def State.laneCommand (s : State) (index : BitVec 16) (act : Fin 8 → State × Status) : State × Status :=
  match laneOf index.toNat with
  | none => s.refused .badIndex
  | some n => act n

/-- ENABLE_LANE (R48). -/
def execEnableLane (index : BitVec 16) (s : State) : Host.Outcome State Fault Refusal :=
  s.request (.enableLane index) fun s =>
    s.laneCommand index fun n =>
      s.checked [(!s.mode.isEngaged, .refusedState), ((s.lane n).enabled, .refusedState),
        (!(s.lane n).cfg.consistent, .badValue)] (State.armLane n)

/-- DISABLE_LANE (R50). -/
def execDisableLane (index : BitVec 16) (s : State) : Host.Outcome State Fault Refusal :=
  s.request (.disableLane index) fun s => s.laneCommand index fun n => (s.disableLane n).done

/-- CLEAR_HOLD (R170). -/
def execClearHold (index : BitVec 16) (s : State) : Host.Outcome State Fault Refusal :=
  s.request (.clearHold index) fun s =>
    s.laneCommand index fun n => (s.setLane n { s.lane n with pauseWatch := false }).done

/-! ## Verdicts and release (R36–R45, R9–R11) -/

/-- The checks of R36: the take number, then the expected serial. -/
def State.takeChecks (s : State) (index : BitVec 16) (serial : BitVec 32) : List (Bool × Status) :=
  [(decide (Config.takeSlots ≤ index.toNat), .badIndex), (s.wrongSerial index.toNat serial, .badValue)]

/-- A change of the record of a take's tube. -/
def State.modTubeOf (s : State) (k : Nat) (f : Tube → Tube) : State :=
  match (s.takeAt k).tube with
  | some p => s.setTube p.index (f (s.tubeAt p.index))
  | none => s

/-- The tube's pending count falls by one where the take was SEALED (R9–R11). -/
def Tube.uncount (t : Tube) (st : TakeState) : Tube := { t with pending := if st = .sealed then t.pending - 1 else t.pending }

/-- The tube's update by ACCEPT_TAKE of take k, which was in state st (R9, steps 2 to 4). -/
def Tube.accept (t : Tube) (k : Nat) (st : TakeState) : Tube :=
  ({ t with accepted := some k, acceptMark := true }.uncount st).settle

/-- The tube's update by REJECT_TAKE (R10). -/
def Tube.reject (t : Tube) (k : Nat) (st : TakeState) : Tube :=
  let u := t.uncount st
  (if t.accepted = some k then { u with accepted := none, acceptMark := false } else u).settle

/-- The tube's update by RELEASE_TAKE (R11). -/
def Tube.release (t : Tube) (k : Nat) (st : TakeState) : Tube :=
  { t.uncount st with history := t.history.filter (· ≠ k), accepted := if t.accepted = some k then none else t.accepted }.settle

/-- The state of a take is set. -/
def State.setTakeState (s : State) (k : Nat) (st : TakeState) : State := s.modTake k fun t => { t with state := st }

/-- The accepted take of take k's tube, where it is another take (R9, step 1). -/
def State.rival (s : State) (k : Nat) : Option Nat :=
  ((s.takeAt k).tube.bind fun p => (s.tubeAt p.index).accepted).filter (· ≠ k)

/-- The tube's earlier accepted take becomes SUPERSEDED (R9, step 1; R39). -/
def State.supersede (s : State) (k : Nat) : State :=
  match s.rival k with
  | some u => s.setTakeState u .superseded
  | none => s

/-- The effect of ACCEPT_TAKE (R38, R9). -/
def State.accept (k : Nat) (s : State) : State :=
  ((s.supersede k).setTakeState k .accepted).modTubeOf k fun t => t.accept k (s.takeAt k).state

/-- The effect of REJECT_TAKE (R40, R10). -/
def State.reject (k : Nat) (s : State) : State :=
  (s.setTakeState k .rejected).modTubeOf k fun t => t.reject k (s.takeAt k).state

/-- What the state of a take lets a verdict do: change it, leave it with DONE, or refuse it (R37, R40). -/
inductive Verdict
  | taken | already | refused
  deriving DecidableEq, Repr

/-- ACCEPT_TAKE by the take's state (R37). -/
def acceptBy : TakeState → Verdict
  | .sealed => .taken
  | .superseded => .taken
  | .accepted => .already
  | .rejected => .refused
  | .free => .refused
  | .opened => .refused
  | .closing => .refused

/-- REJECT_TAKE by the take's state (R40). -/
def rejectBy : TakeState → Verdict
  | .sealed => .taken
  | .accepted => .taken
  | .superseded => .taken
  | .rejected => .already
  | .free => .refused
  | .opened => .refused
  | .closing => .refused

/-- A verdict after the checks of R36. -/
def State.verdict (s : State) (index : BitVec 16) (serial : BitVec 32) (v : Verdict) (effect : State → State) :
    State × Status :=
  s.checked (s.takeChecks index serial ++ [(decide (v = .refused), .refusedState)])
    fun s => if v = .taken then effect s else s

/-- ACCEPT_TAKE (R36–R38). -/
def execAcceptTake (index : BitVec 16) (serial : BitVec 32) (s : State) : Host.Outcome State Fault Refusal :=
  s.request (.acceptTake index serial) fun s =>
    s.verdict index serial (acceptBy (s.takeAt index.toNat).state) (State.accept index.toNat)

/-- REJECT_TAKE (R36, R40). -/
def execRejectTake (index : BitVec 16) (serial : BitVec 32) (s : State) : Host.Outcome State Fault Refusal :=
  s.request (.rejectTake index serial) fun s =>
    s.verdict index serial (rejectBy (s.takeAt index.toNat).state) (State.reject index.toNat)

/-- Every amendment slot whose key names take k is disabled (R43, step 2; R141). -/
def State.dropAmendments (s : State) (k : Nat) : State :=
  { s with amendments := s.amendments.map fun a => if a.take = k then a.off else a }

/-- Steps 3 and 4 of a release (R43): the chain goes to the free list's tail, and the slot becomes FREE; then the latch
test for the risen unreserved (R90). -/
def State.freeTake (s : State) (k : Nat) : State :=
  ({ s with pool := { s.pool with freeList := s.pool.freeList ++ (s.takeAt k).chain
                                  freeCount := s.pool.freeCount + (s.takeAt k).chain.length } }.setTake k Take.free).latchAfter
    s.pool.unreserved false

/-- The effect of RELEASE_TAKE (R43). -/
def State.release (k : Nat) (s : State) : State :=
  (((s.modTubeOf k fun t => t.release k (s.takeAt k).state).dropAmendments k).freeTake k).admissionCheck

/-- A take that is OPEN, CLOSING or FREE cannot be released (R42). -/
def releasable : TakeState → Bool
  | .sealed => true
  | .accepted => true
  | .superseded => true
  | .rejected => true
  | .free => false
  | .opened => false
  | .closing => false

/-- RELEASE_TAKE (R36, R42, R43). -/
def execReleaseTake (index : BitVec 16) (serial : BitVec 32) (s : State) : Host.Outcome State Fault Refusal :=
  s.request (.releaseTake index serial) fun s =>
    s.checked (s.takeChecks index serial ++ [(!releasable (s.takeAt index.toNat).state, .refusedState),
      (decide (0 < (s.takeAt index.toNat).bindings), .bound)]) (State.release index.toNat)

/-! ## The map load and the campaign lock (R17, R18, R21) -/

/-- The lane is WAITING, OPEN or CLOSING. -/
def Lane.busy (l : Lane) : Bool := decide (l.state = .waiting) || l.recording

/-- Check 4 of LOAD_MAP (R18). -/
def loadInRange (base : Addr) (first count : Nat) : Bool :=
  decide (1 ≤ count) && decide (count ≤ Config.tubeCount) && decide (first < Config.tubeCount) &&
    decide (first + count ≤ Config.tubeCount) && decide (base.toNat % Config.unitBytes = 0) &&
    decide (base.toNat + 8 * count ≤ 2 ^ 40)

/-- A load begins (R18); its first unit is asked for unless a discarded unit read is still to return (R21). -/
def State.startLoad (base : Addr) (first count : Nat) (s : State) : State :=
  { s with
    loader := { running := true, base := base, next := first, remaining := count, applied := 0, read := s.loader.read }
    arbiter := { s.arbiter with loader := if s.loader.read = .idle then some 0 else none } }

/-- LOAD_MAP (R18). -/
def execLoadMap (base : Addr) (first count : BitVec 16) (s : State) : Host.Outcome State Fault Refusal :=
  s.request (.loadMap base first count) fun s =>
    s.checked [(s.locked, .refusedLocked), (s.loader.running, .refusedState),
      (allLanes.any fun n => (s.lane n).busy, .refusedState), (!loadInRange base first.toNat count.toNat, .badValue)]
      (State.startLoad base first.toNat count.toNat)

/-- A running load stops: its waiting request is withdrawn, and a read already issued will be discarded (R21). -/
def State.stopLoad (s : State) : State :=
  { s with
    loader := { s.loader with running := false, read := if s.loader.read = .live then .discard else s.loader.read }
    arbiter := { s.arbiter with loader := none } }

/-- The effect of ABORT_LOAD (R21). -/
def State.abortLoad (s : State) : State := s.stopLoad.post (Report.mapLoadDone .aborted s.loader.applied)

/-- ABORT_LOAD (R21). -/
def execAbortLoad (s : State) : Host.Outcome State Fault Refusal :=
  s.request .abortLoad fun s => s.checked [(!s.loader.running, .refusedState)] State.abortLoad

/-- LOCK_CAMPAIGN (R17). -/
def execLockCampaign (s : State) : Host.Outcome State Fault Refusal :=
  s.request .lockCampaign fun s =>
    s.checked [(s.loader.running, .refusedState)] fun s => { s with locked := true }

/-! ## Attention (R164) -/

/-- CLEAR_ATTENTION (R164). -/
def execClearAttention (s : State) : Host.Outcome State Fault Refusal :=
  s.request .clearAttention fun s => ({ s with notices := { s.notices with attention := false } }).done

end Sys2Proof.Machine
end

