-- ==== Sys2Proof/Machine/Parser.lean ====
section
/-! DEFINITION. The Block Parser and Landmark Detector (chapter 5): one unit of a take, as its in-order write is taken. -/

namespace Sys2Proof.Machine

/-- The header fields of a sample block (R185). -/
structure Header where
  sync : Nat
  seq : BitVec 16
  count : Nat
  channels : Nat
  saturated : Bool
  first : Int
  last : Int
  deriving DecidableEq, Repr

/-- The first 16 bytes of a unit read as a header (R185). -/
def headerOf (bs : List Byte) : Header :=
  { sync := leField bs 0 2, seq := BitVec.ofNat 16 (leField bs 2 2), count := leField bs 4 2,
    channels := (byteAt bs 6).toNat, saturated := (byteAt bs 7).getLsbD 0, first := leSigned bs 8 4, last := leSigned bs 12 4 }

/-- A valid header for a lane of C channels (R98). -/
def Header.valid (h : Header) (c : Nat) : Bool :=
  decide (h.sync = 0xC3E7) && decide (h.channels = c) && decide (1 ≤ h.count) && decide (h.count * c ≤ 1020)

/-- The units a block occupies (R95). -/
def blockUnits (count channels : Nat) : Nat := ceilDiv (16 + count * channels * 4) 64

/-- The byte of a block at which sample i's detector pair lies (R107). -/
def pairByte (cfg : LaneConfig) (i : Nat) : Nat := 16 + (i * cfg.channels + cfg.detector) * 4

/-- The position of sample i (R108), the division truncated toward zero. -/
def samplePosition (b : Block) (i : Nat) : Int :=
  if b.count = 1 then b.first else b.first + ((b.last - b.first) * (i : Int)).tdiv ((b.count : Int) - 1)

/-- The magnitude |X| + |Y| of a detector pair that begins at a byte of the unit (R109). -/
def magnitude (bs : List Byte) (off : Nat) : Nat := (leSigned bs off 2).natAbs + (leSigned bs (off + 2) 2).natAbs

/-- What the parser and detector work on in one unit: their own state and the current take's record. -/
structure Work where
  track : Track
  take : Take
  deriving DecidableEq, Repr

/-- A crossing at position x is far enough from the last landmark to count (R110). -/
def Track.farEnough (t : Track) (cfg : LaneConfig) (x : Int) : Bool :=
  match t.lastLandmark with
  | none => true
  | some l => decide (cfg.landmarkSpacing ≤ (x - l).natAbs)

/-- A crossing is counted as a landmark at x (R112). -/
def Work.landmark (w : Work) (x : Int) : Work :=
  { track := { w.track with lastLandmark := some x }
    take := { w.take with
      landmarks := satAdd 65535 w.take.landmarks 1
      landmarkList := if w.take.landmarkList.length < 48 then w.take.landmarkList ++ [x] else w.take.landmarkList } }

/-- One sample is handed to the detector (R110, R111). -/
def Work.detect (w : Work) (cfg : LaneConfig) (mag : Nat) (x : Int) : Work :=
  match w.track.detector with
  | .below =>
    if cfg.threshold ≤ mag then
      let w' := if w.track.farEnough cfg x then w.landmark x else w
      { w' with track := { w'.track with detector := .above } }
    else w
  | .above => if mag ≤ cfg.release then { w with track := { w.track with detector := .below } } else w

/-- The samples, from next sample index onward, whose detector pairs lie in unit u of the block, in order (R107). -/
def samplesIn (cfg : LaneConfig) (b : Block) (u : Nat) : List Nat :=
  (List.range b.count).filter fun i => decide (b.nextSample ≤ i) && decide (pairByte cfg i / 64 = u)

/-- The samples of the current block that lie in this unit are examined (R107): the work after them, and the block
with its next sample index. -/
def Work.examine (w : Work) (cfg : LaneConfig) (b : Block) (u : Nat) (bs : List Byte) : Work × Block :=
  let is := samplesIn cfg b u
  (is.foldl (fun w i => w.detect cfg (magnitude bs (pairByte cfg i % 64)) (samplePosition b i)) w,
    { b with nextSample := match is.getLast? with
        | some i => i + 1
        | none => b.nextSample })

/-- Sequence accounting (R102). -/
def Work.accountSeq (w : Work) (q : BitVec 16) : Work :=
  let track := { w.track with expected := some (q + 1) }
  match w.track.expected with
  | none => { w with track := track }
  | some e =>
    if q = e then { w with track := track }
    else { track := track
           take := { w.take with flags := Flags.add w.take.flags .seq
                                 missing := satAdd 65535 w.take.missing (q - e).toNat } }

/-- The axial position moves against the direction by more than the tolerance from a to b (R104). -/
def against (d : Direction) (tolerance : Nat) (a b : Int) : Bool :=
  match d with
  | .push => decide (b < a - tolerance)
  | .pull => decide (b > a + tolerance)

/-- The direction checks (R104), which read the previous axial as it stands. -/
def reversed (t : Track) (d : Direction) (tolerance : Nat) (h : Header) : Bool :=
  (match t.prevAxial with
    | some p => against d tolerance p h.first
    | none => false) || against d tolerance h.first h.last

/-- The spacing check (R105). -/
def undersampled (sampleSpacing : Nat) (h : Header) : Bool :=
  decide (2 ≤ h.count) && decide (sampleSpacing * (h.count - 1) < (h.last - h.first).natAbs)

/-- The flags after steps 2 to 4 of accepting a header (R103–R105). -/
def headerFlags (t : Track) (d : Direction) (cfg : LaneConfig) (h : Header) (f : Flags) : Flags :=
  Flags.addIf (Flags.addIf (Flags.addIf f h.saturated .saturation) (reversed t d cfg.tolerance h) .reversal)
    (undersampled cfg.sampleSpacing h) .undersampled

/-- Steps 2 to 4 of accepting a header (R103–R105). -/
def Work.addHeaderFlags (w : Work) (cfg : LaneConfig) (h : Header) : Work :=
  { w with take := { w.take with flags := headerFlags w.track w.take.direction cfg h w.take.flags } }

/-- Step 5: the axial record (R106). -/
def Work.axialRecord (w : Work) (h : Header) : Work :=
  { track := { w.track with prevAxial := some h.last }
    take := { w.take with axialFirst := some (w.take.axialFirst.getD h.first), axialLast := some h.last } }

/-- A block is taken up to its units remaining: it completes at 0, and its sequence is reported (R113); otherwise the
parser stays in it. -/
def Work.finish (w : Work) (b : Block) : Work × Option (BitVec 16) :=
  if b.remaining = 0 then
    ({ track := { w.track with parser := .atHeader }
       take := { w.take with blocks := satAdd 65535 w.take.blocks 1, samples := satAdd 4294967295 w.take.samples b.count } },
      some b.seq)
  else ({ w with track := { w.track with parser := .inBlock b } }, none)

/-- The parser accepts a header (R101, steps 1 to 8). -/
def Work.acceptHeader (w : Work) (cfg : LaneConfig) (h : Header) (bs : List Byte) : Work × Option (BitVec 16) :=
  let w1 := ((w.accountSeq h.seq).addHeaderFlags cfg h).axialRecord h
  let b : Block := { seq := h.seq, count := h.count, first := h.first, last := h.last,
                     remaining := blockUnits h.count cfg.channels - 1, nextSample := 0 }
  let e := w1.examine cfg b 0 bs
  e.1.finish e.2

/-- The parser takes one unit (R99, R100, R107): the work after it, and the sequence of the block it completed, if any. -/
def Work.takeUnit (w : Work) (cfg : LaneConfig) (bs : List Byte) : Work × Option (BitVec 16) :=
  match w.track.parser with
  | .inBlock b =>
    let e := w.examine cfg b (blockUnits b.count cfg.channels - b.remaining) bs
    e.1.finish { e.2 with remaining := b.remaining - 1 }
  | .atHeader =>
    if (headerOf bs).valid cfg.channels then w.acceptHeader cfg (headerOf bs) bs
    else ({ track := { w.track with parser := .hunt }, take := { w.take with flags := Flags.add w.take.flags .form } }, none)
  | .hunt => if (headerOf bs).valid cfg.channels then w.acceptHeader cfg (headerOf bs) bs else (w, none)

end Sys2Proof.Machine
end

