-- ==== Sys2Proof/Machine/LaneEngine.lean ====
section
/-! DEFINITION. The Lane Engines: lane writes (R69–R75) with their allocations (R79, R80), starts, ends and abandons
(R52–R61), home sense (R64) and the timers (R65–R68). -/

namespace Sys2Proof.Machine

/-! ## Capture translation and allocation -/

/-- The capture-store address of offset o of a take with this chain (R91). -/
def State.storeAddress (s : State) (chain : List Nat) (o : Nat) : Addr :=
  BitVec.ofNat 40 (s.layout.capture.toNat + chain.getD (o / Config.segmentBytes) 0 * Config.segmentBytes +
    o % Config.segmentBytes)

/-- The head segment of the free list goes to the chain of take k (R79): `own` where it is drawn from the take's reservation. -/
def State.giveSegment (s : State) (k seg : Nat) (rest : List Nat) (own : Bool) : State :=
  { s with pool := { s.pool with freeList := rest, freeCount := s.pool.freeCount - 1
                                 reserved := if own then s.pool.reserved - 1 else s.pool.reserved } }.modTake k fun t =>
    { t with chain := t.chain ++ [seg], remaining := if own then t.remaining - 1 else t.remaining }

/-- A segment for take k (R79): from its reservation, else from the unreserved share with the latch test (R77), else none. -/
def State.allocate (s : State) (k : Nat) : Option State :=
  match s.pool.freeList with
  | [] => none
  | seg :: rest =>
    if 0 < (s.takeAt k).remaining then some (s.giveSegment k seg rest true)
    else if 0 < s.pool.unreserved then some ((s.giveSegment k seg rest false).latchTest false)
    else none

/-! ## Lane writes -/

/-- A flag is added to the flags of take k (R28). -/
def State.flagTake (s : State) (k : Nat) (f : Flag) : State :=
  s.modTake k fun t => { t with flags := Flags.add t.flags f }

/-- A taken lane write restarts the idle timer in OPEN and the drain timer in CLOSING (R65, R69). -/
def Lane.touch (l : Lane) : Lane :=
  match l.state with
  | .opened => { l with idle := startTimer l.cfg.idle }
  | .closing => { l with drain := startTimer l.cfg.drain }
  | .disabled => l
  | .armed => l
  | .waiting => l

/-- A stray lane write: the first since the enable or the last opening posts STRAY_DATA (R71). -/
def State.strayWrite (s : State) (n : Fin 8) (src : Source) : State :=
  if (s.lane n).stray then s
  else (s.setLane n { s.lane n with stray := true }).post (Report.strayData n src)

/-- The Block Parser reports a completed block's sequence (R62): in CLOSING with that final sequence the take is sealed. -/
def State.blockCompleted (s : State) (n : Fin 8) (q : BitVec 16) : State :=
  let s' := s.setLane n { s.lane n with lastSeq := some q }
  if (s.lane n).state = .closing ∧ (s.lane n).finalSeq = some q then s'.sealTake n .endMarker false else s'

/-- The segment for an in-order write at the next offset: one is asked for where the offset's segment index equals
the chain length (R73 step 1). -/
def State.segmentFor (s : State) (k off : Nat) : Option State :=
  if off / Config.segmentBytes = (s.takeAt k).chain.length then s.allocate k else some s

/-- What the lane's parser makes of one unit of take k. -/
def State.parseUnit (s : State) (n : Fin 8) (k : Nat) (data : List Byte) : Work × Option (BitVec 16) :=
  ({ track := (s.lane n).track, take := s.takeAt k } : Work).takeUnit (s.lane n).cfg data

/-- Steps 3 and 4 of an in-order write: the unit is parsed, the next offset and the written length increase by 64 (R73). -/
def State.recordUnit (s : State) (n : Fin 8) (k : Nat) (w : Work) : State :=
  (s.setTake k { w.take with written := w.take.written + 64 }).setLane n
    { s.lane n with track := w.track, nextOffset := (s.lane n).nextOffset + 64 }

/-- An in-order lane write (R73): the state after it, and the access forwarded. -/
def State.inOrderWrite (s : State) (n : Fin 8) (k off : Nat) (data : List Byte) : State × Option StoreAccess :=
  match s.segmentFor k off with
  | none => (s.flagTake k .truncated, none)
  | some s1 =>
    let w := s1.parseUnit n k data
    let s2 := s1.recordUnit n k w.1
    (match w.2 with
      | some q => s2.blockCompleted n q
      | none => s2,
     some (.write (s1.storeAddress (s1.takeAt k).chain off) data))

/-- A rewrite below the next offset (R74). -/
def State.rewriteUnit (s : State) (k off : Nat) (data : List Byte) : State × Option StoreAccess :=
  (s.modTake k fun t => { t with flags := Flags.add t.flags .rewrite, rewrites := satAdd 65535 t.rewrites 1 },
   some (.write (s.storeAddress (s.takeAt k).chain off) data))

/-- A whole write of the data source to a lane that records take k: checks 4 to 7 of R69, with the timer's restart. -/
def State.takenWrite (s : State) (n : Fin 8) (k off : Nat) (data : List Byte) : State × Option StoreAccess :=
  let s' := s.setLane n (s.lane n).touch
  if Flags.has (s.takeAt k).flags .truncated then (s', none)
  else if off = (s.lane n).nextOffset then s'.inOrderWrite n k off data
  else if off < (s.lane n).nextOffset then s'.rewriteUnit k off data
  else (s'.flagTake k .gap, none)

/-- A lane write (R69): the state after it, and the translated write where it is forwarded. -/
def State.laneWrite (s : State) (n : Fin 8) (src : Source) (off : Nat) (data : List Byte) : State × Option StoreAccess :=
  if (s.lane n).state = .disabled then (s, none)
  else match (if (s.lane n).recording then (s.lane n).current else none) with
    | none => (s.strayWrite n src, none)
    | some k =>
      if src ≠ (s.lane n).cfg.dataSource then (s.flagTake k .foreign, none)
      else if data.length ≠ Config.unitBytes then (s.flagTake k .form, none)
      else s.takenWrite n k off data

/-! ## Starts -/

/-- The start checks of R53, with R56's difference that a claim of the lane's own passes: the cause of the first that fails. -/
def State.startCheck (s : State) (n : Fin 8) (p : TubePos) : Option RefuseCause :=
  let t := s.tubeAt p.index
  if t.presence = .notInMap then some .notInMap
  else if t.plug = .plugged then some .plugged
  else if s.loader.running then some .mapLoading
  else match t.claim with
    | some m => if m = n then none else some .tubeBusy
    | none => none

/-- The Tube Register grants lane n the claim on a tube (R6). -/
def State.claimTube (s : State) (n : Fin 8) (p : TubePos) : State :=
  s.setTube p.index { s.tubeAt p.index with claim := some n }

/-- A start is deferred (R54, R83): the lane joins the queue's tail and becomes WAITING. -/
def State.deferStart (s : State) (n : Fin 8) (p : TubePos) (d : Direction) : State :=
  let s1 := { s with pool := { s.pool with queue := s.pool.queue ++ [n] } }
  (s1.setLane n { s.lane n with state := .waiting, held := some (p, d), pauseAdmission := true
                                admission := startTimer (s.lane n).cfg.admission }).post
    (Report.startDeferred n p s.pool.unreserved)

/-- The reservation of lane n is counted out for a start admitted at once (R78), with the latch test (R90). -/
def State.countOut (s : State) (n : Fin 8) : State :=
  { s with pool := { s.pool with reserved := s.pool.reserved + (s.lane n).cfg.reservation } }.latchTest false

/-- A start that has claimed its tube asks for admission (R54, R83). -/
def State.requestAdmission (s : State) (n : Fin 8) (p : TubePos) (d : Direction) : State :=
  if s.pool.queue = [] ∧ (s.lane n).cfg.reservation ≤ s.pool.unreserved then
    match s.freeSlot [] with
    | some k => (s.countOut n).openTake { lane := n, slot := k, pos := p, direction := d }
    | none => (s.refuse n p .tableFull).clearClaim p
  else s.deferStart n p d

/-- The held start of a WAITING lane is replaced by one that passed its checks (R56). -/
def State.replaceHeld (s : State) (n : Fin 8) (p : TubePos) (d : Direction) : State :=
  let s1 := (s.claimTube n p).postHeld n .replaced
  let s2 := match (s.lane n).held with
    | some (q, _) => if q = p then s1 else s1.clearClaim q
    | none => s1
  s2.setLane n { s.lane n with held := some (p, d) }

/-- A TUBE_START handed to Lane Engine n (R52): the state after it, and the cause where the marker is invalid. -/
def State.tubeStart (s : State) (n : Fin 8) (p : TubePos) (d : Direction) : State × Option MarkerCause :=
  match (s.lane n).state with
  | .disabled => (s, some .laneDisabled)
  | .armed =>
    match s.startCheck n p with
    | some c => (s.refuse n p c, none)
    | none => ((s.claimTube n p).requestAdmission n p d, none)
  | .waiting =>
    match s.startCheck n p with
    | some c => (s.refuse n p c, none)
    | none => (s.replaceHeld n p d, none)
  | .opened => (s.refuse n p .laneState, none)
  | .closing => (s.refuse n p .laneState, none)

/-! ## Ends and abandons -/

/-- The held start of a WAITING lane is cancelled (R60). Its START_REFUSED comes before a POOL_LOW of the check that
follows: the model's choice where R60 and R90 differ (log 29). -/
def State.cancelHeld (s : State) (n : Fin 8) : State := (s.refuseHeld n .cancelled).admissionCheck

/-- The tube a lane works: its held start's in WAITING, its take's in OPEN and CLOSING (R58). -/
def State.laneTube (s : State) (n : Fin 8) : Option TubePos :=
  match (s.lane n).state with
  | .waiting => (s.lane n).held.map Prod.fst
  | .opened => (s.lane n).current.bind fun k => (s.takeAt k).tube
  | .closing => (s.lane n).current.bind fun k => (s.takeAt k).tube
  | .disabled => none
  | .armed => none

/-- A TUBE_END that passes the tube check in OPEN (R58). -/
def State.endOpen (s : State) (n : Fin 8) (f : BitVec 16) : State :=
  if (s.lane n).lastSeq = some f then s.sealTake n .endMarker false
  else match (s.lane n).current with
    | some k => s.enterClosing n k (some f)
    | none => s

/-- A TUBE_END that passes the tube check in CLOSING (R59). -/
def State.endClosing (s : State) (n : Fin 8) (f : BitVec 16) : State × Option MarkerCause :=
  match (s.lane n).finalSeq with
  | some _ => (s, some .duplicateEnd)
  | none =>
    if (s.lane n).lastSeq = some f then (s.sealTake n .endMarker false, none)
    else (s.setLane n { s.lane n with finalSeq := some f, drain := startTimer (s.lane n).cfg.drain }, none)

/-- A TUBE_END handed to Lane Engine n (R58–R60). -/
def State.tubeEnd (s : State) (n : Fin 8) (p : TubePos) (f : BitVec 16) : State × Option MarkerCause :=
  match (s.lane n).state with
  | .disabled => (s, some .laneDisabled)
  | .armed => (s, some .noTake)
  | .waiting => if s.laneTube n = some p then (s.cancelHeld n, none) else (s, some .tubeMismatch)
  | .opened => if s.laneTube n = some p then (s.endOpen n f, none) else (s, some .tubeMismatch)
  | .closing => if s.laneTube n = some p then s.endClosing n f else (s, some .tubeMismatch)

/-- An ABANDON handed to Lane Engine n (R61). -/
def State.abandon (s : State) (n : Fin 8) : State × Option MarkerCause :=
  match (s.lane n).state with
  | .disabled => (s, some .laneDisabled)
  | .armed => (s, some .noTake)
  | .waiting => (s.cancelHeld n, none)
  | .opened => (s.sealTake n .abandon false, none)
  | .closing => (s.sealTake n .abandon false, none)

/-! ## Home sense and timers -/

/-- The home-sensed event of lane n (R64). -/
def State.homeSensed (s : State) (n : Fin 8) : State :=
  match (s.lane n).state, (s.lane n).current with
  | .opened, some k => s.enterClosing n k none
  | _, _ => s

/-- One timer at a period end: its new state, and whether it expires (R65). -/
def advanceTimer (timeout : Nat) : Option Nat → Option Nat × Bool
  | none => (none, false)
  | some c => if timeout ≤ c + 1 then (none, true) else (some (c + 1), false)

/-- The lane's timers after a period end (R65, R169). -/
def Lane.advance (l : Lane) : Lane :=
  { l with idle := (advanceTimer l.cfg.idle l.idle).1, drain := (advanceTimer l.cfg.drain l.drain).1
           admission := (advanceTimer l.cfg.admission l.admission).1 }

/-- At the next period end of an OPEN lane its idle timer expires (R66). -/
def Lane.idleExpires (l : Lane) : Bool := decide (l.state = .opened) && (advanceTimer l.cfg.idle l.idle).2

/-- At the next period end of a CLOSING lane its drain timer expires (R67). -/
def Lane.drainExpires (l : Lane) : Bool := decide (l.state = .closing) && (advanceTimer l.cfg.drain l.drain).2

/-- At the next period end of a WAITING lane its admission timer expires (R68). -/
def Lane.admissionExpires (l : Lane) : Bool :=
  decide (l.state = .waiting) && (advanceTimer l.cfg.admission l.admission).2

/-- The close cause of a drain timer's expiry: DRAIN_TIMEOUT where a final sequence is set, else HOME_SENSE (R67). -/
def Lane.drainCause (l : Lane) : CloseCause := if l.finalSeq.isSome then .drainTimeout else .homeSense

/-- A period end of lane n, with the expiry it causes, as one event of the lane (R169, R65–R68). An expired held start's
START_REFUSED comes before a POOL_LOW of the check that follows: the model's choice where R68 and R90 differ (log 29). -/
def State.lanePeriodEnd (s : State) (n : Fin 8) : State :=
  let s' := s.setLane n (s.lane n).advance
  if (s.lane n).idleExpires then s'.sealTake n .idleTimeout false
  else if (s.lane n).drainExpires then s'.sealTake n (s.lane n).drainCause false
  else if (s.lane n).admissionExpires then (s'.refuseHeld n .admissionTimeout).admissionCheck
  else s'

end Sys2Proof.Machine
end

