-- ==== Sys2Proof/Machine/Lines.lean ====
section
/-! DEFINITION. The Line Controller and Timebase (chapter 10): samples, drive phases and period ends of a lane, and one
cycle of the reference clock. -/

namespace Sys2Proof.Machine

/-! ## The reference clock (R165, R166) -/

/-- The timebase after one reference-clock cycle, and the events of the sense period that come with it (R165, R166). -/
def Timebase.afterCycle (tb : Timebase) : Timebase × List LineEvent :=
  if tb.cycle + 1 < tb.divider then ({ tb with cycle := tb.cycle + 1 }, [])
  else if tb.tick + 1 < tb.period then
    ({ tb with cycle := 0, tick := tb.tick + 1 }, if tb.tick + 1 = tb.window then [.sample, .driveStart] else [])
  else ({ tb with cycle := 0, tick := 0 }, [.periodEnd])

/-- The timebase at the next instant that marks the period, and the events that come there (R166): the end of the sense window
where it stands before that, else the end of the period. -/
def Timebase.toEvent (tb : Timebase) : Timebase × List LineEvent :=
  if tb.tick < tb.window then ({ tb with cycle := 0, tick := tb.window }, [.sample, .driveStart])
  else ({ tb with cycle := 0, tick := 0 }, [.periodEnd])

/-- Events of the sense period come to every enabled lane (R166). -/
def State.bringDue (s : State) (es : List LineEvent) : State :=
  { s with laneLines := Vector.ofFn fun n =>
      if (s.lane n).enabled then { s.laneLine n with due := (s.laneLine n).due ++ es } else s.laneLine n }

/-- One cycle of the reference clock: what a step does on an empty queue (log 1). It runs from power-on reset (R166), and
stands while the part is held in one. -/
def State.clockCycle (s : State) : State :=
  if s.pins.powerReset then s.notTaken
  else { s.notTaken with timebase := s.timebase.afterCycle.1 }.bringDue s.timebase.afterCycle.2

/-- The clock runs on to the next instant that marks the period (R166): as many cycles as are left to it. -/
def State.runClock (s : State) : State := { s with timebase := s.timebase.toEvent.1 }.bringDue s.timebase.toEvent.2

/-- The state in which a time event presented for lane n finds the lane: as it stands where an event that has come waits
there; else the clock has run on to the next instant that brings the lane one (R166; log 4). -/
def State.timely (s : State) (n : Fin 8) : State := if (s.laneLine n).due.isEmpty then s.runClock else s

/-! ## Time events of a lane -/

/-- A time event e of lane n comes (R166, R183): the lane is enabled, and e is the first of the events that the clock has
brought the lane and that it has not taken (log 4). -/
def State.comes (s : State) (n : Fin 8) (e : LineEvent) : Bool :=
  !s.pins.powerReset && (s.lane n).enabled && decide (((s.timely n).laneLine n).due.head? = some e)

/-- The event that has come first to lane n is the one taken: it leaves the list. -/
def State.takeDue (s : State) (n : Fin 8) : State :=
  s.setLaneLine n { s.laneLine n with due := (s.laneLine n).due.tail }

/-- A time event that comes to lane n is taken (log 4). -/
def State.takeTimeEvent (s : State) (n : Fin 8) : State := ((s.timely n).takeEvent).takeDue n

/-- A sample: a low line is HOME, a high line AWAY (R168). -/
def sampleOf : Level → Home
  | .low => .home
  | .high => .away

/-- The home state after a sample (R168): it changes where the sample equals the previous one. -/
def homeAfter (h : Home) (prev : Option Home) (sample : Home) : Home := if prev = some sample then sample else h

/-- A sample of lane n's line (R168), with the home-sensed event it may raise (R64). -/
def State.sampleLane (s : State) (n : Fin 8) (level : Level) : State :=
  let h := homeAfter (s.lane n).home (s.laneLine n).prev (sampleOf level)
  let s' := (s.setLane n { s.lane n with home := h }).setLaneLine n { s.laneLine n with prev := some (sampleOf level) }
  if (s.lane n).home = .away ∧ h = .home then s'.homeSensed n else s'

/-- SENSE_WINDOW_SAMPLE (R168) of lane n. -/
def execSenseWindowSample (n : Fin 8) (level : Level) (s : State) : Host.Outcome State Fault Refusal :=
  if s.comes n .sample then .next ((s.takeTimeEvent n).sampleLane n level) else .next s.notTaken

/-- The lane has a pause reason (R170). -/
def Lane.paused (l : Lane) : Bool := l.pauseAdmission || l.pauseWatch

/-- The drive of lane n's line for the drive phase that starts (R167). -/
def State.chooseDrive (s : State) (n : Fin 8) : State :=
  s.setLaneLine n { s.laneLine n with driveLow := (s.lane n).paused }

/-- DRIVE_PHASE_START (R167) of lane n. -/
def execDrivePhaseStart (n : Fin 8) (s : State) : Host.Outcome State Fault Refusal :=
  if s.comes n .driveStart then .next ((s.takeTimeEvent n).chooseDrive n) else .next s.notTaken

/-- The drive chosen for lane n's line ends with its phase (R167). -/
def State.driverOff (s : State) (n : Fin 8) : State := s.setLaneLine n { s.laneLine n with driveLow := false }

/-- A period end of lane n with all that it causes (R167, R169). -/
def State.endPeriod (s : State) (n : Fin 8) : State := (s.driverOff n).lanePeriodEnd n

/-- PERIOD_END (R169) of lane n, with the expiry it may cause (log 5). -/
def execPeriodEnd (n : Fin 8) (s : State) : Host.Outcome State Fault Refusal :=
  if s.comes n .periodEnd then .next ((s.takeTimeEvent n).endPeriod n) else .next s.notTaken

/-- IDLE_TIMER_EXPIRY (R66): the period end of lane n at which its idle timer expires (log 5). -/
def execIdleTimerExpiry (n : Fin 8) (s : State) : Host.Outcome State Fault Refusal :=
  if s.comes n .periodEnd ∧ (s.lane n).idleExpires then .next ((s.takeTimeEvent n).endPeriod n) else .next s.notTaken

/-- DRAIN_TIMER_EXPIRY (R67): the period end of lane n at which its drain timer expires (log 5). -/
def execDrainTimerExpiry (n : Fin 8) (s : State) : Host.Outcome State Fault Refusal :=
  if s.comes n .periodEnd ∧ (s.lane n).drainExpires then .next ((s.takeTimeEvent n).endPeriod n) else .next s.notTaken

/-- ADMISSION_TIMER_EXPIRY (R68): the period end of lane n at which its admission timer expires (log 5). -/
def execAdmissionTimerExpiry (n : Fin 8) (s : State) : Host.Outcome State Fault Refusal :=
  if s.comes n .periodEnd ∧ (s.lane n).admissionExpires then .next ((s.takeTimeEvent n).endPeriod n) else .next s.notTaken

/-! ## What stands on the lines (R167, R171, R183) -/

/-- The lane function drives lane n's line low (R167): in a drive phase, with the drive chosen at its start, once the lane
has taken every event that has come (log 4). -/
def State.drivenLow (s : State) (n : Fin 8) : Bool :=
  (s.laneLine n).driveLow && decide (s.timebase.window ≤ s.timebase.tick) && (s.laneLine n).due.isEmpty

/-- The part's driver on line i: none where it is off. -/
def State.lineDriver (s : State) (i : Fin 12) : Option Level :=
  if s.pins.powerReset then none
  else match laneOf i.val with
    | some n =>
      if (s.lane n).enabled then (if s.drivenLow n then some .low else none)
      else if s.lines[i].direction = .output then some s.lines[i].level else none
    | none => if s.lines[i].direction = .output then some s.lines[i].level else none

/-- The attention line is asserted (R163, R183). -/
def State.attentionLine (s : State) : Bool := s.notices.attention && !s.pins.powerReset

end Sys2Proof.Machine
end

