-- ==== Sys2Proof/Machine/Marker.lean ====
section
/-! DEFINITION. The Marker Decoder (chapter 6, R186): checks, authority and dispatch of one full-unit marker write. -/

namespace Sys2Proof.Machine

/-- A marker whose check word, kind and fields are good, with the fields its kind uses (R119, R120). -/
inductive Marker
  | tubeStart (lane : Fin 8) (pos : TubePos) (direction : Direction)
  | tubeEnd (lane : Fin 8) (pos : TubePos) (final : BitVec 16)
  | abandon (lane : Fin 8)
  | plug (pos : TubePos)
  | unplug (pos : TubePos)
  deriving DecidableEq, Repr

/-- The direction byte of a TUBE_START (R186). -/
def directionOf (b : Byte) : Option Direction :=
  match b.toNat with
  | 0 => some .push
  | 1 => some .pull
  | _ => none

/-- The fields of a marker of kind `kind`, where it is one of the five and every field it uses is in range (R119,
R120, R186); otherwise the cause. -/
def markerFields (kind : Byte) (bs : List Byte) : Except MarkerCause Marker :=
  let lane := laneOf (byteAt bs 1).toNat
  let pos := tubePosOf (byteAt bs 2) (byteAt bs 3)
  match kind.toNat with
  | 1 =>
    match lane, pos, directionOf (byteAt bs 4) with
    | some n, some p, some d => .ok (.tubeStart n p d)
    | _, _, _ => .error .badField
  | 2 =>
    match lane, pos with
    | some n, some p => .ok (.tubeEnd n p (BitVec.ofNat 16 (leField bs 6 2)))
    | _, _ => .error .badField
  | 3 =>
    match lane with
    | some n => .ok (.abandon n)
    | none => .error .badField
  | 4 =>
    match pos with
    | some p => .ok (.plug p)
    | none => .error .badField
  | 5 =>
    match pos with
    | some p => .ok (.unplug p)
    | none => .error .badField
  | _ => .error .badKind

/-- The Marker Decoder's reading of 64 bytes: check word, then kind, then fields (R118–R120). -/
def decodeMarker (bs : List Byte) : Except MarkerCause Marker :=
  if wordSum bs ≠ 0 then .error .badCheck else markerFields (byteAt bs 0) bs

/-- A plug-kind marker at the Tube Register (R14, R124). -/
def State.plugMarker (s : State) (p : TubePos) (g : Plug) : State × Option MarkerCause :=
  if s.loader.running then (s, some .mapLoading)
  else if (s.tubeAt p.index).claim ≠ none then (s, some .tubeInTest)
  else (s.setTube p.index { s.tubeAt p.index with plug := g }, none)

/-- A lane-kind marker after its authority check (R121, R123): handed on where the source is the lane's marker source. -/
def State.laneMarker (s : State) (src : Source) (n : Fin 8) (act : State × Option MarkerCause) :
    State × Option MarkerCause :=
  if src ≠ (s.lane n).cfg.markerSource then (s, some .foreign) else act

/-- A plug-kind marker after its authority check (R122, R124). -/
def State.plugAuthority (s : State) (src : Source) (act : State × Option MarkerCause) : State × Option MarkerCause :=
  if s.plugSet.getLsbD src.toNat then act else (s, some .foreign)

/-- Authority and dispatch of a good marker (R121–R124). -/
def State.dispatchMarker (s : State) (src : Source) : Marker → State × Option MarkerCause
  | .tubeStart n p d => s.laneMarker src n (s.tubeStart n p d)
  | .tubeEnd n p f => s.laneMarker src n (s.tubeEnd n p f)
  | .abandon n => s.laneMarker src n (s.abandon n)
  | .plug p => s.plugAuthority src (s.plugMarker p .plugged)
  | .unplug p => s.plugAuthority src (s.plugMarker p .unplugged)

/-- The lane a MARKER_INVALID names: that of a lane kind that passed check word, kind and fields (R125). -/
def Marker.lane : Marker → Option (Fin 8)
  | .tubeStart n _ _ => some n
  | .tubeEnd n _ _ => some n
  | .abandon n => some n
  | .plug _ => none
  | .unplug _ => none

/-- The decode of a full-unit write of `bs` to unit `unit` of the marker window (R116–R125). -/
def State.markerWrite (s : State) (src : Source) (unit : Nat) (bs : List Byte) : State :=
  match decodeMarker bs with
  | .error c => s.post (Report.markerInvalid src none c unit)
  | .ok m =>
    match s.dispatchMarker src m with
    | (s', none) => s'
    | (s', some c) => s'.post (Report.markerInvalid src m.lane c unit)

end Sys2Proof.Machine
end

