-- ==== Sys2Proof/Machine/Review.lean ====
section
/-! DEFINITION. Reads of takes: through a lane aperture (R93), through a review window (R132, R133), and the amendments
laid over them (R139, R140). -/

namespace Sys2Proof.Machine

/-- Void fill: bytes 0xFF (00_scope.md, "Fills"). -/
def voidFill (size : Nat) : List Byte := List.replicate size 0xFF

/-- Blank fill: bytes 0x00 (00_scope.md, "Fills"). -/
def blankFill (size : Nat) : List Byte := List.replicate size 0x00

/-- The value byte laid over byte j of a unit of take k: that of the lowest-numbered enabled slot that covers it (R139, R140). -/
def amendedByte (slots : List Amendment) (k unit j : Nat) : Option Byte :=
  (slots.find? fun a => a.enabled && decide (a.take = k) && decide (a.unit = unit) && decide (a.eighth = j / 8)).map
    fun a => a.value.extractLsb' (8 * (j % 8)) 8

/-- The overlay of a read of `size` bytes at offset o of take k, fixed when the read is taken (R135, R139). -/
def State.overlay (s : State) (k o size : Nat) : Overlay :=
  (List.range size).map fun i => amendedByte s.amendments.toList k (o / 64) (o % 64 + i)

/-- The stored bytes with an overlay laid over them (R139). -/
def applyOverlay : Overlay → List Byte → List Byte
  | some b :: os, _ :: bs => b :: applyOverlay os bs
  | none :: os, b :: bs => b :: applyOverlay os bs
  | [], bs => bs
  | _ :: _, [] => []

/-- A read of take k at offset o (R93, R133): translated below the written length, with the take's amendments; blank fill beyond. -/
def State.readTake (s : State) (k o size : Nat) : Flight :=
  if o - o % 64 < (s.takeAt k).written then
    .stream (.read (s.storeAddress (s.takeAt k).chain o) size) (s.overlay k o size)
  else .answered (.readData (blankFill size))

/-- A read in lane n's aperture (R93). -/
def State.laneRead (s : State) (n : Fin 8) (o size : Nat) : Flight :=
  match (if (s.lane n).recording then (s.lane n).current else none) with
  | some k => s.readTake k o size
  | none => .answered (.readData (voidFill size))

/-- The take a window resolves to (R132). -/
def State.resolve (s : State) : Window → Option Nat
  | .unbound => none
  | .take k => some k
  | .follow p => (s.tubeAt p.index).accepted

/-- A read through a review window (R133). -/
def State.reviewRead (s : State) (w : Fin 16) (o size : Nat) : Flight :=
  match s.resolve s.windows[w] with
  | none => .answered (.readData (voidFill size))
  | some k =>
    if (s.takeAt k).state = .free ∨ (s.takeAt k).state = .rejected then .answered (.readData (voidFill size))
    else s.readTake k o size

end Sys2Proof.Machine
end

