-- ==== Sys2Proof/Machine/Watch.lean ====
section
/-! DEFINITION. The Watch Units: comparison and filters (R173) and the actions of a hit (R174). -/

namespace Sys2Proof.Machine

/-- A transaction is a write. -/
def isWriteOp : RigOp → Bool
  | .read _ => false
  | .write _ => true

/-- The transaction passes a unit's filters (R173). -/
def Watch.passes (w : Watch) (t : RigTxn) : Bool :=
  (match w.dirFilter with
    | .read => !isWriteOp t.op
    | .write => isWriteOp t.op
    | .both => true) &&
  (match w.source with
    | none => true
    | some src => decide (src = t.source))

/-- A unit in MATCH agrees with the address in every bit set in its mask (R173). -/
def Watch.matches (w : Watch) (a : Addr) : Bool := decide (w.mode = .matching) && decide (a &&& w.mask = w.compare &&& w.mask)

/-- The hits of a pair of units, the even and the odd one (R173). -/
def pairHits (even odd : Watch) (t : RigTxn) : Bool × Bool :=
  if even.mode = .range then
    (decide (even.compare ≤ t.addr) && decide (t.addr ≤ odd.compare) && even.passes t, false)
  else (even.matches t.addr && even.passes t, odd.matches t.addr && odd.passes t)

/-- The units that a transaction hits, in ascending number (R173). -/
def State.watchHits (s : State) (t : RigTxn) : List (Fin 4) :=
  let a := pairHits s.watches[0] s.watches[1] t
  let b := pairHits s.watches[2] s.watches[3] t
  (if a.1 then [0] else []) ++ (if a.2 then [1] else []) ++ (if b.1 then [2] else []) ++ (if b.2 then [3] else [])

/-- The eight data bytes of a capture: the first eight written, filled up with 0x00; 0x00 for a read (R174). -/
def captureData (op : RigOp) : BitVec 64 :=
  match op with
  | .read _ => 0
  | .write data => BitVec.ofNat 64 (leNat (data.take 8))

/-- Steps 1, 2 and 5 of a hit on a unit (R174). -/
def Watch.hit (w : Watch) (t : RigTxn) : Watch :=
  { w with hits := satAdd 65535 w.hits 1
           capture := some { addr := t.addr, source := t.source, isWrite := isWriteOp t.op, data := captureData t.op }
           mode := if w.oneShot then .off else w.mode }

/-- WATCH is added to the pause reasons of an enabled lane (R170, R174 step 4). -/
def State.holdLane (s : State) (n : Fin 8) : State :=
  if (s.lane n).enabled then s.setLane n { s.lane n with pauseWatch := true } else s

/-- Unit u acts on a hit (R174): count and capture, notice, hold, one shot. -/
def State.watchAct (t : RigTxn) (s : State) (u : Fin 4) : State :=
  let w := s.watches[u]
  let s1 := { s with watches := s.watches.set u (w.hit t) }
  let s2 := if w.notice then s1.post (Report.watchHit u t.source t.addr) else s1
  if w.hold then s2.holdLane w.holdLane else s2

/-- Every unit hit by the transaction acts, in ascending number (R173, R174). -/
def State.watch (s : State) (t : RigTxn) : State := (s.watchHits t).foldl (State.watchAct t) s

end Sys2Proof.Machine
end

