-- ==== Sys2Proof/Machine/Path.lean ====
section
/-! DEFINITION. The transaction path (chapter 8), the Notice Writer's ring writes (R162) and the Map Loader's reads
(R19–R21): the meanings of RIG_PORT_TRANSACTION, STORE_PORT_GRANT and STORE_PORT_READ_RETURN. -/

namespace Sys2Proof.Machine

/-! ## Classification (R146) -/

/-- The address classes, with what each is handed on with (R145, R146). -/
inductive AddrClass
  | lane (n : Fin 8) (offset : Nat)
  | review (w : Fin 16) (offset : Nat)
  | capture
  | marker (unit : Nat)
  | ring
  | other
  deriving DecidableEq, Repr

/-- The address lies in the region of `size` bytes at `base`. -/
def inRegion (a base : Addr) (size : Nat) : Bool :=
  decide (base.toNat ≤ a.toNat) && decide (a.toNat < base.toNat + size)

/-- The class of an address in ENGAGED mode (R146). -/
def classify (l : Layout) (a : Addr) : AddrClass :=
  if inRegion a l.lane (8 * Config.apertureBytes) then
    .lane (Fin.ofNat 8 ((a.toNat - l.lane.toNat) / Config.apertureBytes)) ((a.toNat - l.lane.toNat) % Config.apertureBytes)
  else if inRegion a l.review (16 * Config.apertureBytes) then
    .review (Fin.ofNat 16 ((a.toNat - l.review.toNat) / Config.apertureBytes)) ((a.toNat - l.review.toNat) % Config.apertureBytes)
  else if inRegion a l.capture (Config.segments * Config.segmentBytes) then .capture
  else if inRegion a l.marker 65536 then .marker ((a.toNat - l.marker.toNat) / Config.unitBytes)
  else if inRegion a l.ring 32768 then .ring
  else .other

/-! ## Taking a rig-port transaction -/

/-- A transaction forwarded unchanged at its own address (R147); a read has no overlay. -/
def forwarded (t : RigTxn) : Flight :=
  match t.op with
  | .read size => .stream (.read t.addr size) (List.replicate size none)
  | .write data => .stream (.write t.addr data) []

/-- A write that is dropped, answered as completed (R143). -/
def dropped : Flight := .answered .writeDone

/-- A lane write's place in the in-flight list: translated, or dropped (R92). -/
def laneFlight : Option StoreAccess → Flight
  | some a => .stream a []
  | none => dropped

/-- Step 4 of R143 for a transaction of a class in ENGAGED mode: the state after the owning block has acted, and the
outcome fixed. -/
def State.actOn (s : State) (t : RigTxn) : AddrClass → State × Flight
  | .lane n off =>
    match t.op with
    | .write data => ((s.laneWrite n t.source off data).1, laneFlight (s.laneWrite n t.source off data).2)
    | .read size => (s, s.laneRead n off size)
  | .review w off =>
    match t.op with
    | .write _ => (s, dropped)
    | .read size => (s, s.reviewRead w off size)
  | .capture =>
    match t.op with
    | .write _ => (s, dropped)
    | .read size => (s, .answered (.readData (voidFill size)))
  | .marker unit =>
    match t.op with
    | .write data => (if data.length = Config.unitBytes then s.markerWrite t.source unit data else s, forwarded t)
    | .read _ => (s, forwarded t)
  | .ring =>
    match t.op with
    | .write _ => (s, dropped)
    | .read _ => (s, forwarded t)
  | .other => (s, forwarded t)

/-- Steps 3 and 4 of R143 by the mode (R146, R150). -/
def State.route (s : State) (t : RigTxn) : State × Flight :=
  match s.mode with
  | .bypass => (s, forwarded t)
  | .engaged => s.actOn t (classify s.layout t.addr)

/-- The responses that can be given: the complete entries at the head of the in-flight list, and the list without them (R143). -/
def drainFlights : List Flight → List RigResponse × List Flight
  | .answered r :: t => (r :: (drainFlights t).1, (drainFlights t).2)
  | .stream a o :: t => ([], .stream a o :: t)
  | .awaiting a n o :: t => ([], .awaiting a n o :: t)
  | [] => ([], [])

/-- Complete transactions at the head are answered in order and leave the list (R143). -/
def State.respond (s : State) : State :=
  { s with inFlight := (drainFlights s.inFlight).2
           out := { s.out with responses := (drainFlights s.inFlight).1 } }

/-- A transaction joins the tail of the in-flight list (R143). -/
def State.join (s : State) (f : Flight) : State := { s with inFlight := s.inFlight ++ [f] }

/-- A rig-port transaction as one event (R143): watched, classified, acted on, and answered where its turn has come. -/
def State.rigTransaction (s : State) (t : RigTxn) : State :=
  let r := (s.watch t).route t
  (r.1.join r.2).respond

/-- RIG_PORT_TRANSACTION (R143). While 32 transactions are in flight the rig port takes none (log 15). -/
def execRigPortTransaction (t : RigTxn) (s : State) : Host.Outcome State Fault Refusal :=
  if !t.wf then .refused .malformedTransaction
  else if s.pins.powerReset ∨ Config.inFlightLimit ≤ s.inFlight.length then .next s.notTaken
  else .next (s.takeEvent.rigTransaction t)

/-! ## Grants (R155) -/

/-- The requester that a grant goes to. -/
inductive Grant
  | notice | loader | forwarded
  deriving DecidableEq, Repr

/-- An entry of the forwarded stream. -/
def Flight.ready : Flight → Bool
  | .answered _ => false
  | .stream _ _ => true
  | .awaiting _ _ _ => false

/-- The forwarded stream has a transaction ready (R156). -/
def State.streamReady (s : State) : Bool := s.inFlight.any Flight.ready

/-- A wait state whose count is 4 (R155). -/
def atLimit : Option Nat → Bool
  | some c => decide (Config.forwardedGrantLimit ≤ c)
  | none => false

/-- The Store Port Arbiter's choice (R155). -/
def State.arbitrate (s : State) : Option Grant :=
  if atLimit s.arbiter.notice then some .notice
  else if atLimit s.arbiter.loader then some .loader
  else if s.streamReady then some .forwarded
  else if s.arbiter.notice.isSome then some .notice
  else if s.arbiter.loader.isSome then some .loader
  else none

/-- The first entry of the forwarded stream is granted (R156): the access issued, and the in-flight list with a write
complete and a read waiting for its data. -/
def grantStream : List Flight → Option StoreAccess × List Flight
  | [] => (none, [])
  | .stream (.write a data) _ :: t => (some (.write a data), .answered .writeDone :: t)
  | .stream (.read a n) o :: t => (some (.read a n), .awaiting a n o :: t)
  | .answered r :: t => ((grantStream t).1, .answered r :: (grantStream t).2)
  | .awaiting a n o :: t => ((grantStream t).1, .awaiting a n o :: (grantStream t).2)

/-- The count of each waiting requester rises by one at a forwarded grant (R155). -/
def Arbiter.forwardedGrant (a : Arbiter) : Arbiter :=
  { notice := a.notice.map (· + 1), loader := a.loader.map (· + 1) }

/-- An issued read joins the reads whose data has not returned (R144). -/
def issueBy (o : ReadOwner) : Option StoreAccess → List ReadOwner
  | some (.read _ _) => [o]
  | some (.write _ _) => []
  | none => []

/-- A grant to the forwarded stream (R155, R156). -/
def State.grantForwarded (s : State) : State :=
  let g := grantStream s.inFlight
  { s with inFlight := g.2, issued := s.issued ++ issueBy .rig g.1, arbiter := s.arbiter.forwardedGrant,
           out := { s.out with access := g.1 } }.respond

/-- The ring slot's address: the notice ring base rounded down to a multiple of 32 KiB, plus 32 bytes a slot (R149). -/
def ringAddress (base : Addr) (slot : Nat) : Addr := BitVec.ofNat 40 (base.toNat / 32768 * 32768 + 32 * slot)

/-- The notice write of a grant, as one event (R162), with the attention test (R163). -/
def State.grantNotice (s : State) : State :=
  match s.notices.queue with
  | [] => { s with arbiter := { s.arbiter with notice := none } }
  | n :: rest =>
    { s with
      notices := { s.notices with
        queue := rest
        writeIndex := if s.notices.writeIndex = Config.ringSlots - 1 then 0 else s.notices.writeIndex + 1
        attention := s.notices.attention || n.report.kind.enabled s.notices.enables }
      arbiter := { s.arbiter with notice := if rest.isEmpty then none else some 0 }
      out := { s.out with access := some (.write (ringAddress s.layout.ring s.notices.writeIndex) n.bytes) } }

/-- The address of the Map Loader's next unit (R18): the entry applied next lies at its start. -/
def Loader.unitAddress (l : Loader) : Addr := BitVec.ofNat 40 (l.base.toNat + 8 * l.applied)

/-- A grant to the Map Loader: one unit read is issued (R19, R155). -/
def State.grantLoader (s : State) : State :=
  { s with loader := { s.loader with read := .live }, issued := s.issued ++ [.loader]
           arbiter := { s.arbiter with loader := none }
           out := { s.out with access := some (.read s.loader.unitAddress 64) } }

/-- The grant's effect for the requester chosen. -/
def State.grant (s : State) : Grant → State
  | .notice => s.grantNotice
  | .loader => s.grantLoader
  | .forwarded => s.grantForwarded

/-- STORE_PORT_GRANT (R155): one grant where some requester has an access ready. -/
def execStorePortGrant (s : State) : Host.Outcome State Fault Refusal :=
  if s.pins.powerReset then .next s.notTaken
  else match s.arbitrate with
    | none => .next s.notTaken
    | some g => .next (s.takeEvent.grant g)

/-! ## Returns (R144, R19–R21) -/

/-- The bytes of an access that a return hands on: its own bytes of the unit, or void fill on an error (R144). -/
def returnedBytes (r : ReadReturn) (a : Addr) (size : Nat) : List Byte :=
  match r with
  | .data unit => (unit.toList.drop (a.toNat % Config.unitBytes)).take size
  | .error => voidFill size

/-- The response of a read: the data with its overlay, or void fill with none (R143, R144). -/
def readResponse (r : ReadReturn) (a : Addr) (size : Nat) (o : Overlay) : RigResponse :=
  match r with
  | .data _ => .readData (applyOverlay o (returnedBytes r a size))
  | .error => .readData (voidFill size)

/-- The first read that waits for its data receives it (R144). -/
def deliver (r : ReadReturn) : List Flight → List Flight
  | [] => []
  | .awaiting a n o :: t => .answered (readResponse r a n o) :: t
  | .answered q :: t => .answered q :: deliver r t
  | .stream a o :: t => .stream a o :: deliver r t

/-- The Map Loader asks for the store port (R19, R155). -/
def State.askLoader (s : State) : State := { s with arbiter := { s.arbiter with loader := some 0 } }

/-- One map entry, at byte `off` of the unit, checked and applied to the tube at the next index (R19, R20, R188); none
where it is bad. -/
def State.applyEntry (s : State) (bs : List Byte) (off : Nat) : Option State :=
  let i := s.loader.next
  if (byteAt bs off).toNat = i / 128 ∧ (byteAt bs (off + 1)).toNat = i % 128 then
    match (s.tubeAt i).mapFields (byteAt bs (off + 2)) (byteAt bs (off + 3)) (byteAt bs (off + 4)) with
    | some t =>
      some { s.setTube i t with loader := { s.loader with next := i + 1, remaining := s.loader.remaining - 1
                                                          applied := s.loader.applied + 1 } }
    | none => none
  else none

/-- The load stops, with MAP_LOAD_DONE (R20, R21). -/
def State.endLoad (s : State) (c : LoadCause) (value : Nat) : State :=
  { s with loader := { s.loader with running := false } }.post (Report.mapLoadDone c value)

/-- After a unit: complete when nothing remains (R21), otherwise the next unit is asked for (R19). -/
def State.afterUnit (s : State) : State :=
  if s.loader.remaining = 0 then s.endLoad .complete s.loader.applied else s.askLoader

/-- The entries of a unit in index order, `m` of them from entry j (R19); the first bad one stops the load (R20). -/
def State.applyEntries (bs : List Byte) : Nat → Nat → State → State
  | 0, _, s => s.afterUnit
  | m + 1, j, s =>
    match s.applyEntry bs (8 * j) with
    | some s' => State.applyEntries bs m (j + 1) s'
    | none => s.endLoad .badEntry s.loader.next

/-- A unit of the map returns (R19, R21). -/
def State.loaderReturn (s : State) (r : ReadReturn) : State :=
  let s' := { s with loader := { s.loader with read := .idle } }
  match s.loader.read with
  | .live => State.applyEntries (returnedBytes r 0 64) (min 8 s.loader.remaining) 0 s'
  | .discard => if s.loader.running then s'.askLoader else s'
  | .idle => s'

/-- The data of the oldest issued read returns (R144). -/
def State.readReturn (s : State) (r : ReadReturn) : ReadOwner → State
  | .rig => { s with inFlight := deliver r s.inFlight }.respond
  | .loader => s.loaderReturn r

/-- STORE_PORT_READ_RETURN (R144): to the requester of the oldest issued read. -/
def execStorePortReadReturn (r : ReadReturn) (s : State) : Host.Outcome State Fault Refusal :=
  if s.pins.powerReset then .next s.notTaken
  else match s.issued with
    | [] => .next s.notTaken
    | o :: rest => .next ({ s.takeEvent with issued := rest }.readReturn r o)

end Sys2Proof.Machine
end

