-- ==== Sys2Proof/Machine/Resets.lean ====
section
/-! DEFINITION. Straps and resets (R154, R182–R184): the meanings of POWER_ON_RESET, POWER_ON_RESET_ENTRY, RIG_RESET and
RIG_RESET_RELEASE. -/

namespace Sys2Proof.Machine

/-- The layout that a strap value selects (R154). -/
def presetLayout (straps : BitVec 2) : Layout :=
  match straps.toNat with
  | 1 => { lane := 0x00C0000000, review := 0x00D0000000, capture := 0x0080000000, marker := 0x00E0000000, ring := 0x00E0010000 }
  | 2 => { lane := 0x0440000000, review := 0x0450000000, capture := 0x0400000000, marker := 0x0460100000, ring := 0x0460200000 }
  | 3 => { lane := 0x7FF0000000, review := 0x7FE0000000, capture := 0x8000000000, marker := 0x7FDFFF0000, ring := 0x7FDFFE8000 }
  | _ => { lane := 0, review := 0, capture := 0, marker := 0, ring := 0 }

/-- The mode that a strap value selects (R154). -/
def presetMode (straps : BitVec 2) : Mode := if straps = 0 then .bypass else .engaged

/-- The part after a power-on reset (R182, R183): every block's power-on values, with the pins as they stand. -/
def State.powerOn (s : State) (straps : BitVec 2) : State :=
  { State.reset with
    mode := presetMode straps, layout := presetLayout straps, strap := straps
    pins := { s.pins with powerReset := false }, fresh := s.fresh, pending := s.pending
    out := { Outputs.none with taken := true } }

/-- POWER_ON_RESET (R183): the end of a power-on reset. It acts in every state (log 18). -/
def execPowerOnReset (straps : BitVec 2) (s : State) : Host.Outcome State Fault Refusal := .next (s.powerOn straps)

/-- Transactions in flight at either port, and the frame in progress, are abandoned (R157, R183). -/
def State.abandonPorts (s : State) : State :=
  { s with
    inFlight := [], issued := [], arbiter := { notice := none, loader := none }, loader := { s.loader with read := .idle }
    link := Link.quiet }

/-- POWER_ON_RESET_ENTRY (R183): the part is held in power-on reset. The bytes clocked out before it have been answered (R176). -/
def execPowerOnResetEntry (s : State) (clocked : List Byte := []) : Host.Outcome State Fault Refusal :=
  if s.pins.powerReset then .next s.notTaken
  else .next { (s.takeEvent.clockBytes clocked).abandonPorts with pins := { s.pins with powerReset := true } }

/-- Every window becomes UNBOUND and every fixed-binding count 0 (R24, R128). -/
def State.unbindAll (s : State) : State :=
  { s with windows := Vector.replicate 16 .unbound
           takes := Sparse.mapAll Take.free (fun t => { t with bindings := 0 }) s.takes }

/-- A watch unit at a rig reset (R172). -/
def Watch.rigReset (w : Watch) : Watch := { w with mode := .off, hits := 0, capture := none }

/-- Every watch unit becomes OFF with its count and capture cleared, and every line entry INPUT (R171, R172). -/
def State.quietLines (s : State) : State :=
  { s with watches := s.watches.map Watch.rigReset, lines := s.lines.map fun l => { l with direction := .input } }

/-- The pending notices are discarded and the attention flag cleared (R161, R163); neither internal requester waits (R157). -/
def State.dropNotices (s : State) : State :=
  { s with notices := { s.notices with queue := [], attention := false }, arbiter := { notice := none, loader := none } }

/-- The frame in progress is abandoned (R184): the idle byte until chip select rises. -/
def Link.abandon (l : Link) : Link := if l.phase = .idle then l else { phase := .trailing, waitLeft := 0, reply := [] }

/-- A rig reset as one event (R184). -/
def State.rigResetEvent (s : State) : State :=
  let s1 := ((s.disableAll .rigReset true).stopLoad.unbindAll).quietLines.dropNotices
  { s1 with link := s1.link.abandon, pins := { s1.pins with rigReset := true } }

/-- RIG_RESET (R184): the rig reset input becomes asserted. The bytes clocked out before it have been answered (R176). In
power-on reset only the pin is remembered. -/
def execRigReset (s : State) (clocked : List Byte := []) : Host.Outcome State Fault Refusal :=
  if s.pins.rigReset then .next s.notTaken
  else if s.pins.powerReset then .next { s.notTaken with pins := { s.pins with rigReset := true } }
  else .next (s.takeEvent.clockBytes clocked).rigResetEvent

/-- RIG_RESET_RELEASE (R184): the next assertion can be taken. -/
def execRigResetRelease (s : State) : Host.Outcome State Fault Refusal :=
  if !s.pins.rigReset then .next s.notTaken
  else .next { (if s.pins.powerReset then s.notTaken else s.takeEvent) with pins := { s.pins with rigReset := false } }

end Sys2Proof.Machine
end

