-- ==== Sys2Proof/Machine/Dispatch.lean ====
section
/-! DEFINITION. The meaning of every command: one arm for each constructor of `Instr`, each a direct call. -/

namespace Sys2Proof.Machine

/-- A command's effect on everything but the queue. -/
def exec (i : Instr) (s : State) : Host.Outcome State Fault Refusal :=
  match i with
  | .rigPortTransaction t => Sys2Proof.Machine.execRigPortTransaction t s
  | .storePortGrant => Sys2Proof.Machine.execStorePortGrant s
  | .storePortReadReturn r => Sys2Proof.Machine.execStorePortReadReturn r s
  | .chipSelectFall => Sys2Proof.Machine.execChipSelectFall s
  | .chipSelectRise clocked => Sys2Proof.Machine.execChipSelectRise clocked s
  | .badRequest frame => Sys2Proof.Machine.execBadRequest frame s
  | .readEntry table index levels => Sys2Proof.Machine.execReadEntry table index levels s
  | .writeEntryLayout index e => Sys2Proof.Machine.execWriteEntryLayout index e s
  | .writeEntryGlobal index e => Sys2Proof.Machine.execWriteEntryGlobal index e s
  | .writeEntryLaneConfig index e => Sys2Proof.Machine.execWriteEntryLaneConfig index e s
  | .writeEntryTube index e => Sys2Proof.Machine.execWriteEntryTube index e s
  | .writeEntryWindow index e => Sys2Proof.Machine.execWriteEntryWindow index e s
  | .writeKey index k => Sys2Proof.Machine.execWriteKey index k s
  | .writeValue index value => Sys2Proof.Machine.execWriteValue index value s
  | .writeBoth index k value => Sys2Proof.Machine.execWriteBoth index k value s
  | .disable index => Sys2Proof.Machine.execDisable index s
  | .writeEntryWatch index e => Sys2Proof.Machine.execWriteEntryWatch index e s
  | .writeEntryLines index e => Sys2Proof.Machine.execWriteEntryLines index e s
  | .writeEntryReadOnly table index => Sys2Proof.Machine.execWriteEntryReadOnly table index s
  | .engage => Sys2Proof.Machine.execEngage s
  | .bypass => Sys2Proof.Machine.execBypass s
  | .enableLane index => Sys2Proof.Machine.execEnableLane index s
  | .disableLane index => Sys2Proof.Machine.execDisableLane index s
  | .acceptTake index serial => Sys2Proof.Machine.execAcceptTake index serial s
  | .rejectTake index serial => Sys2Proof.Machine.execRejectTake index serial s
  | .releaseTake index serial => Sys2Proof.Machine.execReleaseTake index serial s
  | .loadMap base first count => Sys2Proof.Machine.execLoadMap base first count s
  | .abortLoad => Sys2Proof.Machine.execAbortLoad s
  | .lockCampaign => Sys2Proof.Machine.execLockCampaign s
  | .clearAttention => Sys2Proof.Machine.execClearAttention s
  | .clearHold index => Sys2Proof.Machine.execClearHold index s
  | .powerOnReset straps => Sys2Proof.Machine.execPowerOnReset straps s
  | .rigReset clocked => Sys2Proof.Machine.execRigReset s clocked
  | .senseWindowSample lane level => Sys2Proof.Machine.execSenseWindowSample lane level s
  | .drivePhaseStart lane => Sys2Proof.Machine.execDrivePhaseStart lane s
  | .periodEnd lane => Sys2Proof.Machine.execPeriodEnd lane s
  | .idleTimerExpiry lane => Sys2Proof.Machine.execIdleTimerExpiry lane s
  | .drainTimerExpiry lane => Sys2Proof.Machine.execDrainTimerExpiry lane s
  | .admissionTimerExpiry lane => Sys2Proof.Machine.execAdmissionTimerExpiry lane s
  | .powerOnResetEntry clocked => Sys2Proof.Machine.execPowerOnResetEntry s clocked
  | .rigResetRelease => Sys2Proof.Machine.execRigResetRelease s

end Sys2Proof.Machine
end

