-- ==== Sys2Proof/Machine/Step.lean ====
section
/-! DEFINITION. One step: the command at the front of the queue, or one reference-clock cycle on an empty queue. -/

namespace Sys2Proof.Machine

/-- One step (log 1): the command at the front of the queue runs on the state with the queue's rest; on an empty queue
one cycle of the reference clock passes. -/
def step (s : State) : Host.Outcome State Fault Refusal :=
  match s.pending with
  | c :: rest => exec c { s with pending := rest }
  | [] => .next s.clockCycle

/-- The state with the command that a word spells put at the front of its queue; no word of the table spells one (log 8). -/
def State.withFetchWord (s : State) (nbits w : Nat) : State :=
  match decodeTableWord nbits w with
  | some c => { s with pending := c :: s.pending }
  | none => s

end Sys2Proof.Machine
end

