-- ==== Sys2Proof/Safety.lean ====
section
/-! DEFINITION. What the statements speak of: the management requests, a reply, and the invariants of the part. -/

namespace Sys2Proof.Machine

/-! ## Requests -/

/-- The commands that reach the part as requests on the management link. -/
def isRequest : Instr → Bool
  | .badRequest _ => true
  | .readEntry _ _ _ => true
  | .writeEntryLayout _ _ => true
  | .writeEntryGlobal _ _ => true
  | .writeEntryLaneConfig _ _ => true
  | .writeEntryTube _ _ => true
  | .writeEntryWindow _ _ => true
  | .writeKey _ _ => true
  | .writeValue _ _ => true
  | .writeBoth _ _ _ => true
  | .disable _ => true
  | .writeEntryWatch _ _ => true
  | .writeEntryLines _ _ => true
  | .writeEntryReadOnly _ _ => true
  | .engage => true
  | .bypass => true
  | .enableLane _ => true
  | .disableLane _ => true
  | .acceptTake _ _ => true
  | .rejectTake _ _ => true
  | .releaseTake _ _ => true
  | .loadMap _ _ _ => true
  | .abortLoad => true
  | .lockCampaign => true
  | .clearAttention => true
  | .clearHold _ => true
  | _ => false

/-- The levels that a READ_ENTRY carries, for any other command those given. -/
def levelsOf (other : BitVec 12) : Instr → BitVec 12
  | .readEntry _ _ levels => levels
  | _ => other

/-- A request as the host sends it: a BAD_REQUEST is a complete frame that R175, R177 or R138 refuses. -/
def wellSent : Instr → Bool
  | .badRequest frame => completeFrame frame && (badReason frame).isSome
  | _ => true

/-- The state once request c is answered (R175, R176): the idle byte has answered each request byte, the frame is
WORKING with a number of WAIT bytes that is a free value, and the reply is the status, the payload's length, the payload and a
check byte. -/
def State.answered (s : State) (c : Instr) (st : Status) (payload : List Byte) : State :=
  { s with
    link := { phase := .working, waitLeft := Config.waitBytes s.fresh, reply := replyBytes st payload }
    fresh := s.fresh + 1
    out := { responses := [], access := none, linkBytes := List.replicate (requestBytes c).length 0xFF, taken := true } }

/-- What the host receives for bytes it clocks in state `s` (R175, R176): nothing while chip select is high; in RECEIVING
the idle byte up to the end of a request that is never taken, then the WAIT byte; after a request was taken the WAIT bytes, the
reply and idle bytes, as far as it clocks; idle bytes in TRAILING. -/
structure HostReceives (s : State) (clocked bytes : List Byte) : Prop where
  high : s.pins.selectLow = false → bytes = []
  length : s.pins.selectLow = true → bytes.length = clocked.length
  unfinished : s.pins.selectLow = true → s.link.phase = .receiving →
    (clocked.length < 6 ∨ clocked.length < 7 + declaredLength clocked) → bytes = List.replicate clocked.length 0xFF
  untaken : s.pins.selectLow = true → s.link.phase = .receiving → 6 ≤ clocked.length →
    7 + declaredLength clocked ≤ clocked.length →
    bytes = List.replicate (7 + declaredLength clocked) 0xFF ++ List.replicate (clocked.length - (7 + declaredLength clocked)) 0xA5
  working : s.pins.selectLow = true → s.link.phase = .working → bytes =
    (List.replicate s.link.waitLeft 0xA5 ++ s.link.reply ++ List.replicate clocked.length 0xFF).take clocked.length
  replying : s.pins.selectLow = true → s.link.phase = .replying → bytes =
    (s.link.reply ++ List.replicate clocked.length 0xFF).take clocked.length
  trailing : s.pins.selectLow = true → s.link.phase = .trailing → bytes = List.replicate clocked.length 0xFF

/-- The link after `n` bytes clocked that are no request of its own (R175, R176): WORKING while no byte of the reply has come,
then REPLYING, then TRAILING once the reply is complete. -/
def linkAfter (l : Link) (n : Nat) : Link :=
  match l.phase with
  | .working =>
    { phase := if n ≤ l.waitLeft then .working else if n < l.waitLeft + l.reply.length then .replying else .trailing
      waitLeft := l.waitLeft - n
      reply := l.reply.drop (n - l.waitLeft) }
  | .replying => { l with phase := if n < l.reply.length then .replying else .trailing, reply := l.reply.drop n }
  | .idle => l
  | .receiving => l
  | .trailing => l

/-- The payload length that a request needs (R177, R189, R190): the entry's for WRITE_ENTRY, else the command's. -/
def payloadNeeded (command selector : Byte) : Nat :=
  if command = 0x02 then [25, 16, 20, 56, 364, 22, 12, 24, 40, 8, 44].getD (selector.toNat - 1) 0
  else if command ∈ [0x20, 0x21, 0x22] then 4
  else if command = 0x30 then 9
  else 0

/-- Nothing changes but the link, the free-value counter and the outputs. -/
def Unchanged (s t : State) : Prop := t = { s with link := t.link, fresh := t.fresh, out := t.out }

/-! ## Records as bytes -/

/-- A field of a record: its offset, its size in bytes, and the number it holds. -/
abbrev Field := Nat × Nat × Nat

/-- The bytes hold each field's number, little-endian. -/
def Shows (bs : List Byte) (fields : List Field) : Prop :=
  ∀ f ∈ fields, leField bs f.1 f.2.1 = f.2.2 % 256 ^ f.2.1

/-- A signed 32-bit field's number (12: two's complement). -/
def signed32 (x : Int) : Nat := (x % 2 ^ 32).toNat

/-- A list's fields of `size` bytes from an offset, in order, positions beyond its length 0 (R190). -/
def listFields (off size places : Nat) (l : List Nat) : List Field :=
  (List.range places).map fun i => (off + size * i, size, l.getD i 0)

/-- The fields of a notice (R187). -/
def noticeFields (n : Notice) : List Field :=
  [(0, 4, n.number), (4, 1, n.report.kind.code),
    (5, 1, n.report.lane.isSome.toNat + 2 * n.report.take.isSome.toNat + 4 * n.report.serial.isSome.toNat +
      8 * n.report.tube.isSome.toNat + 16 * n.report.source.isSome.toNat),
    (6, 1, (n.report.lane.map Fin.val).getD 0), (7, 1, (n.report.source.map BitVec.toNat).getD 0),
    (8, 2, n.report.take.getD 0), (10, 1, (n.report.tube.map fun p => p.row.val).getD 0),
    (11, 1, (n.report.tube.map fun p => p.col.val).getD 0), (12, 4, n.report.serial.getD 0),
    (16, 1, (n.report.cause.map Cause.code).getD 0), (17, 1, 0), (18, 2, n.report.flags.toNat),
    (20, 8, n.report.value % 2 ^ 34), (28, 4, 0)]

/-- The fields of the LAYOUT entry (R190). -/
def layoutFields (l : Layout) : List Field :=
  [(0, 5, l.lane.toNat), (5, 5, l.review.toNat), (10, 5, l.capture.toNat), (15, 5, l.marker.toNat), (20, 5, l.ring.toNat)]

/-- The fields of the GLOBAL entry (R190). -/
def globalFields (s : State) : List Field :=
  [(0, 2, s.rejectMask.toNat), (2, 2, s.pool.lowMark), (4, 2, s.pool.highMark), (6, 2, s.notices.enables.toNat),
    (8, 2, s.plugSet.toNat), (10, 2, s.timebase.divider), (12, 2, s.timebase.period), (14, 2, s.timebase.window)]

/-- The fields of a LANE_CONFIG entry (R190). -/
def laneConfigFields (c : LaneConfig) : List Field :=
  [(0, 1, c.dataSource.toNat), (1, 1, c.markerSource.toNat), (2, 1, c.channels), (3, 1, c.detector), (4, 2, c.threshold),
    (6, 2, c.release), (8, 2, c.landmarkSpacing), (10, 2, c.tolerance), (12, 1, c.sampleSpacing), (13, 1, c.reservation),
    (14, 2, c.idle), (16, 2, c.drain), (18, 2, c.admission)]

/-- The block a parser is in (R96). -/
def blockOf : Parser → Option Block
  | .inBlock b => some b
  | .atHeader => none
  | .hunt => none

/-- The fields of a LANE_STATUS entry (R190). -/
def laneStatusFields (l : Lane) : List Field :=
  let b := blockOf l.track.parser
  [(0, 1, l.state.code), (1, 1, l.pauseAdmission.toNat + 2 * l.pauseWatch.toNat), (2, 1, l.home.code), (3, 1, l.stray.toNat),
    (4, 1, l.current.isSome.toNat + 2 * l.held.isSome.toNat + 4 * l.finalSeq.isSome.toNat + 8 * l.lastSeq.isSome.toNat +
      16 * b.isSome.toNat + 32 * l.track.expected.isSome.toNat + 64 * l.track.prevAxial.isSome.toNat +
      128 * l.track.lastLandmark.isSome.toNat),
    (5, 1, l.idle.isSome.toNat + 2 * l.drain.isSome.toNat + 4 * l.admission.isSome.toNat), (6, 2, l.current.getD 0),
    (8, 1, (l.held.map fun h => h.1.row.val).getD 0), (9, 1, (l.held.map fun h => h.1.col.val).getD 0),
    (10, 1, (l.held.map fun h => h.2.code).getD 0), (11, 1, l.track.parser.code), (12, 4, l.nextOffset),
    (16, 2, (l.finalSeq.map BitVec.toNat).getD 0), (18, 2, (l.lastSeq.map BitVec.toNat).getD 0), (20, 2, l.idle.getD 0),
    (22, 2, l.drain.getD 0), (24, 2, l.admission.getD 0), (26, 1, l.track.detector.code), (27, 1, 0),
    (28, 2, (l.track.expected.map BitVec.toNat).getD 0), (30, 2, 0), (32, 4, signed32 (l.track.prevAxial.getD 0)),
    (36, 4, signed32 (l.track.lastLandmark.getD 0)), (40, 2, (b.map fun b => b.seq.toNat).getD 0),
    (42, 2, (b.map Block.count).getD 0), (44, 4, signed32 ((b.map Block.first).getD 0)),
    (48, 4, signed32 ((b.map Block.last).getD 0)), (52, 1, (b.map Block.remaining).getD 0), (53, 1, 0),
    (54, 2, (b.map Block.nextSample).getD 0)]

/-- The fields of a TAKE entry (R190). -/
def takeFields (t : Take) : List Field :=
  [(0, 4, t.serial), (4, 1, t.state.code), (5, 1, t.lane.val), (6, 1, (t.tube.map fun p => p.row.val).getD 0),
    (7, 1, (t.tube.map fun p => p.col.val).getD 0), (8, 1, t.direction.code), (9, 1, t.autoRejected.toNat),
    (10, 1, (t.closeCause.map CloseCause.code).getD 0), (11, 1, t.bindings),
    (12, 1, t.tube.isSome.toNat + 2 * t.axialFirst.isSome.toNat + 4 * t.axialLast.isSome.toNat), (13, 1, t.chain.length),
    (14, 1, t.remaining), (15, 1, t.landmarkList.length), (16, 4, t.written), (20, 4, t.samples), (24, 2, t.blocks),
    (26, 2, t.missing), (28, 2, t.landmarks), (30, 2, t.rewrites), (32, 2, t.flags.toNat), (34, 2, 0),
    (36, 4, signed32 (t.axialFirst.getD 0)), (40, 4, signed32 (t.axialLast.getD 0))] ++
    listFields 44 2 64 t.chain ++ listFields 172 4 48 (t.landmarkList.map signed32)

/-- The fields of a TUBE entry (R190). -/
def tubeFields (x : Tube) : List Field :=
  [(0, 1, x.presence.code), (1, 1, x.plug.code), (2, 1, x.expected), (3, 1, x.status.code),
    (4, 1, x.claim.isSome.toNat + 2 * x.accepted.isSome.toNat), (5, 1, (x.claim.map Fin.val).getD 0),
    (6, 2, x.accepted.getD 0), (8, 1, x.acceptMark.toNat), (9, 1, x.attempts), (10, 2, x.pending),
    (12, 1, x.history.length), (13, 1, 0)] ++ listFields 14 2 4 x.history

/-- The take that a window shows: the bound one, or the one it resolves to (R131, R190). -/
def shownTake (s : State) (w : Window) : Option Nat :=
  match w with
  | .unbound => none
  | .take k => some k
  | .follow p => (s.tubeAt p.index).accepted

/-- The fields of a WINDOW entry (R190). -/
def windowFields (s : State) (w : Window) : List Field :=
  (match w with
    | .unbound => [(0, 1, 0), (1, 1, 0), (2, 1, 0)]
    | .take _ => [(0, 1, 1), (1, 1, 0), (2, 1, 0)]
    | .follow p => [(0, 1, 2), (1, 1, p.row.val), (2, 1, p.col.val)]) ++
  [(3, 1, ((shownTake s w).map fun k => (s.takeAt k).state.code).getD 0), (4, 2, (shownTake s w).getD 0),
    (6, 1, (shownTake s w).isSome.toNat), (7, 1, 0), (8, 4, ((shownTake s w).map fun k => (s.takeAt k).serial).getD 0)]

/-- The fields of an AMENDMENT entry (R190). -/
def amendmentFields (a : Amendment) : List Field :=
  [(0, 1, 0), (1, 1, a.enabled.toNat), (2, 1, a.eighth), (3, 1, 0), (4, 2, a.take), (6, 2, 0), (8, 4, a.unit), (12, 4, 0),
    (16, 8, a.value.toNat)]

/-- The fields of a WATCH entry (R190). -/
def watchFields (w : Watch) : List Field :=
  [(0, 1, w.mode.code), (1, 1, w.dirFilter.code), (2, 1, w.source.isSome.toNat), (3, 1, (w.source.map BitVec.toNat).getD 0),
    (4, 1, w.notice.toNat + 2 * w.hold.toNat + 4 * w.oneShot.toNat), (5, 1, w.holdLane.val), (6, 1, 0),
    (7, 1, w.capture.isSome.toNat), (8, 5, w.compare.toNat), (13, 3, 0), (16, 5, w.mask.toNat), (21, 1, 0), (22, 2, w.hits),
    (24, 5, (w.capture.map fun c => c.addr.toNat).getD 0), (29, 1, (w.capture.map fun c => c.source.toNat).getD 0),
    (30, 1, (w.capture.map fun c => c.isWrite.toNat).getD 0), (31, 1, 0),
    (32, 8, (w.capture.map fun c => c.data.toNat).getD 0)]

/-- The fields of the LINES entry of line i (R190); the owner and the previous sample are those of a lane line. -/
def linesFields (s : State) (i : Nat) (e : LineEntry) (levels : BitVec 12) : List Field :=
  [(0, 1, e.direction.code), (1, 1, e.level.code), (2, 1, (levels.getLsbD i).toNat)] ++
  (if h : i < 8 then [(3, 1, (decide ((s.lane ⟨i, h⟩).state ≠ .disabled)).toNat), (4, 1,
      match (s.laneLine ⟨i, h⟩).prev with
      | none => 0
      | some .away => 1
      | some .home => 2)]
    else [(3, 1, 0), (4, 1, 0)]) ++ [(5, 3, 0)]

/-- The fields of the STATUS entry (R181, R190); what the serial counter shows once it is spent is a free value (log 11). -/
def statusFields (s : State) : List Field :=
  [(0, 1, (decide (s.mode = .engaged)).toNat), (1, 1, s.strap.toNat), (2, 1, s.locked.toNat), (3, 1, s.pool.armed.toNat),
    (4, 2, s.pool.freeCount), (6, 2, s.pool.reserved), (8, 2, s.pool.freeCount - s.pool.reserved), (10, 1, s.pool.queue.length),
    (11, 1, s.notices.attention.toNat)] ++ listFields 12 1 8 (s.pool.queue.map Fin.val) ++
  [(20, 4, if s.serialCounter < 2 ^ 32 then s.serialCounter else (Config.spentCounterShown s.fresh).toNat),
    (24, 1, (decide (2 ^ 32 ≤ s.serialCounter)).toNat), (25, 1, s.loader.running.toNat), (26, 2, s.loader.next),
    (28, 2, s.loader.remaining), (30, 1, s.notices.queue.length), (31, 1, 0), (32, 5, s.loader.base.toNat), (37, 1, 0),
    (38, 2, s.notices.writeIndex), (40, 4, s.notices.nextNumber)]

/-- The fields of entry i of a table (R190). -/
def entryFields (s : State) (table : TableSel) (i : Nat) (levels : BitVec 12) : List Field :=
  match table with
  | .layout => layoutFields s.layout
  | .global => globalFields s
  | .laneConfig => (s.lanes[i]?.map fun l => laneConfigFields l.cfg).getD []
  | .laneStatus => (s.lanes[i]?.map laneStatusFields).getD []
  | .take => takeFields (s.takeAt i)
  | .tube => tubeFields (s.tubeAt i)
  | .window => (s.windows[i]?.map (windowFields s)).getD []
  | .amendment => (s.amendments[i]?.map amendmentFields).getD []
  | .watch => (s.watches[i]?.map watchFields).getD []
  | .lines => (s.lines[i]?.map fun e => linesFields s i e levels).getD []
  | .status => statusFields s

/-- The encodings that the entries use (R190). -/
structure EntryCodes : Prop where
  directions : [Direction.push, .pull].map Direction.code = [0, 1]
  takes : [TakeState.free, .opened, .closing, .sealed, .accepted, .superseded, .rejected].map TakeState.code = [0, 1, 2, 3, 4, 5, 6]
  lanes : [LaneState.disabled, .armed, .waiting, .opened, .closing].map LaneState.code = [0, 1, 2, 3, 4]
  tubes : [TubeStatus.untested, .inTest, .pending, .accepted, .retestDue].map TubeStatus.code = [0, 1, 2, 3, 4]
  presence : [Presence.notInMap, .inMap].map Presence.code = [0, 1]
  plugs : [Plug.unplugged, .plugged].map Plug.code = [0, 1]
  parsers : Parser.code .atHeader = 0 ∧ (∀ b, Parser.code (.inBlock b) = 1) ∧ Parser.code .hunt = 2
  detectors : [Detector.below, .above].map Detector.code = [0, 1]
  homes : [Home.away, .home].map Home.code = [0, 1]
  watches : [WatchMode.off, .matching, .range].map WatchMode.code = [0, 1, 2]
  filters : [DirFilter.read, .write, .both].map DirFilter.code = [0, 1, 2]
  lines : [LineDirection.input, .output].map LineDirection.code = [0, 1]
  levels : [Level.low, .high].map Level.code = [0, 1]
  flags : [Flag.seq, .gap, .form, .rewrite, .foreign, .reversal, .undersampled, .saturation, .landmarkMismatch, .truncated,
    .short, .stalled, .abandoned, .aborted].map (fun f => (Flag.set f).toNat) = (List.range 14).map (2 ^ ·)
  closes : [CloseCause.endMarker, .homeSense, .drainTimeout, .idleTimeout, .abandon, .laneDisable, .bypass, .rigReset].map
    CloseCause.code = [0x01, 0x02, 0x03, 0x04, 0x05, 0x06, 0x07, 0x08]

/-- The codes of the kinds of notice and of their causes (R187). -/
structure NoticeCodes : Prop where
  kinds : [NoticeKind.takeSealed, .startRefused, .startDeferred, .poolLow, .strayData, .markerInvalid, .watchHit,
    .mapLoadDone].map NoticeKind.code = [1, 2, 3, 4, 5, 6, 7, 8]
  closes : ∀ c, Cause.code (.close c) = c.code
  refused : [RefuseCause.notInMap, .plugged, .mapLoading, .tubeBusy, .tableFull, .laneState, .replaced, .cancelled,
    .admissionTimeout, .disabled].map (fun c => Cause.code (.refused c)) =
    [0x11, 0x12, 0x13, 0x14, 0x15, 0x16, 0x17, 0x18, 0x19, 0x1A]
  markers : [MarkerCause.badCheck, .badKind, .badField, .foreign, .laneDisabled, .noTake, .tubeMismatch, .duplicateEnd,
    .mapLoading, .tubeInTest].map (fun c => Cause.code (.marker c)) =
    [0x21, 0x22, 0x23, 0x25, 0x26, 0x27, 0x28, 0x29, 0x2A, 0x2B]
  watches : [(0 : Fin 4), 1, 2, 3].map (fun u => Cause.code (.watch u)) = [0x31, 0x32, 0x33, 0x34]
  loads : [LoadCause.complete, .aborted, .badEntry].map (fun c => Cause.code (.load c)) = [0x41, 0x42, 0x43]

/-! ## Invariants -/

/-- OPEN or CLOSING. -/
def TakeState.recording (st : TakeState) : Bool := decide (st = .opened) || decide (st = .closing)

/-- The tube index of a take, if it has a tube. -/
def Take.tubeIndex (t : Take) : Option Nat := t.tube.map TubePos.index

/-- The lanes and the takes name each other (R49): a lane records exactly when it has a current take, which is in
the lane's state and names the lane; no other take names a lane in OPEN or CLOSING. -/
structure LanesMatchTakes (s : State) : Prop where
  current : ∀ n k, (s.lane n).current = some k → (s.takeAt k).lane = n ∧
    (((s.lane n).state = .opened ∧ (s.takeAt k).state = .opened) ∨
      ((s.lane n).state = .closing ∧ (s.takeAt k).state = .closing))
  idle : ∀ n, (s.lane n).current = none → (s.lane n).recording = false
  named : ∀ k, (s.takeAt k).state.recording = true → (s.lane (s.takeAt k).lane).current = some k

/-- The admission queue holds exactly the WAITING lanes, none twice, and each has its held start (R49, R82). -/
structure QueueMatchesLanes (s : State) : Prop where
  held : ∀ n, (s.lane n).held.isSome = true ↔ (s.lane n).state = .waiting
  queued : ∀ n, n ∈ s.pool.queue ↔ (s.lane n).state = .waiting
  nodup : s.pool.queue.Nodup

/-- The Segment Pool's books (R76, R77): the two totals are right, unreserved is never below 0, and every segment is on the
free list or in exactly one take's chain. -/
structure PoolBalances (s : State) : Prop where
  freeCount : s.pool.freeCount = s.pool.freeList.length
  reserved : s.pool.reserved = (s.takes.map fun e => e.2.remaining).sum
  fits : s.pool.reserved ≤ s.pool.freeCount
  segments : (s.pool.freeList ++ s.takes.flatMap fun e => e.2.chain).Perm (List.range Config.segments)

/-- The pool-low latch agrees with unreserved and the marks (R89, R90). -/
structure LatchSettled (s : State) : Prop where
  marks : s.pool.lowMark ≤ s.pool.highMark
  armed : s.pool.armed = true → s.pool.lowMark ≤ s.pool.freeCount - s.pool.reserved
  disarmed : s.pool.armed = false → s.pool.freeCount - s.pool.reserved < s.pool.highMark

/-- A lane's fields agree with its state (R49, R50, R65): each timer runs in its own state alone, with a count below its
timeout; a final sequence stands in CLOSING alone, the reason ADMISSION in WAITING alone; a DISABLED lane holds nothing but its
configuration. -/
structure LaneFieldsMatch (s : State) : Prop where
  idle : ∀ n c, (s.lane n).idle = some c → (s.lane n).state = .opened ∧ c < (s.lane n).cfg.idle
  drain : ∀ n c, (s.lane n).drain = some c → (s.lane n).state = .closing ∧ c < (s.lane n).cfg.drain
  admission : ∀ n c, (s.lane n).admission = some c → (s.lane n).state = .waiting ∧ c < (s.lane n).cfg.admission
  final : ∀ n, (s.lane n).finalSeq.isSome = true → (s.lane n).state = .closing
  pause : ∀ n, (s.lane n).pauseAdmission = true ↔ (s.lane n).state = .waiting
  disabled : ∀ n, (s.lane n).state = .disabled → s.lane n = Lane.disabled (s.lane n).cfg ∧ s.laneLine n = LaneLine.idle

/-- A running map load has entries left, all of them of tubes, and no lane is WAITING, OPEN or CLOSING (R18, R22). -/
structure LoadInRange (s : State) : Prop where
  range : s.loader.next + s.loader.remaining ≤ Config.tubeCount
  left : s.loader.running = true → 0 < s.loader.remaining
  idle : s.loader.running = true → ∀ n, (s.lane n).state = .disabled ∨ (s.lane n).state = .armed

/-- A tube's accepted take is ACCEPTED and names the tube, and no tube has another ACCEPTED take (R9). -/
structure AcceptedMatch (s : State) : Prop where
  names : ∀ i k, (s.tubeAt i).accepted = some k → (s.takeAt k).state = .accepted ∧ (s.takeAt k).tubeIndex = some i
  named : ∀ k i, (s.takeAt k).state = .accepted → (s.takeAt k).tubeIndex = some i → (s.tubeAt i).accepted = some k

/-- The books of the part: the tables in canonical form, FREE slots blank, reservations held by recording takes alone,
and the matches above. -/
structure Books (s : State) : Prop where
  takesForm : Sparse.wf Take.free Config.takeSlots s.takes = true
  tubesForm : Sparse.wf Tube.reset Config.tubeCount s.tubes = true
  blank : ∀ k, (s.takeAt k).state = .free → s.takeAt k = Take.free
  kept : ∀ k, (s.takeAt k).state.recording = false → (s.takeAt k).remaining = 0
  lanes : LanesMatchTakes s
  queue : QueueMatchesLanes s
  pool : PoolBalances s
  latch : LatchSettled s
  fields : LaneFieldsMatch s
  accepted : AcceptedMatch s
  load : LoadInRange s

/-- Serials given are below the counter and never given twice (R25). -/
structure SerialsDistinct (s : State) : Prop where
  below : ∀ k, (s.takeAt k).state ≠ .free → 1 ≤ (s.takeAt k).serial ∧ (s.takeAt k).serial < s.serialCounter
  distinct : ∀ j k, (s.takeAt j).state ≠ .free → (s.takeAt k).state ≠ .free → (s.takeAt j).serial = (s.takeAt k).serial → j = k
  counter : 1 ≤ s.serialCounter ∧ s.serialCounter ≤ Config.spentSerial

/-- Lane n works the tube of index i: it holds a start on it, or records a take of it. -/
def State.works (s : State) (n : Fin 8) (i : Nat) : Prop :=
  (∃ p d, (s.lane n).held = some (p, d) ∧ p.index = i) ∨
    (∃ k, (s.lane n).current = some k ∧ (s.takeAt k).tubeIndex = some i)

/-- The tubes agree with the lanes and the takes: a claim names exactly the lane that works the tube (R6, R7), a tube is
IN_TEST exactly while a take of it records (R3), its pending count is the number of its SEALED takes (R1), and its history is at most four takes
of it, none twice (R8). -/
structure TubesMatch (s : State) : Prop where
  claims : ∀ i n, (s.tubeAt i).claim = some n ↔ s.works n i
  inTest : ∀ i, (s.tubeAt i).status = .inTest ↔ ∃ k, (s.takeAt k).state.recording = true ∧ (s.takeAt k).tubeIndex = some i
  pending : ∀ i, (s.tubeAt i).pending =
    s.takes.countP fun e => decide (e.2.state = .sealed) && decide (e.2.tubeIndex = some i)
  history : ∀ i k, k ∈ (s.tubeAt i).history → (s.takeAt k).tubeIndex = some i
  short : ∀ i, (s.tubeAt i).history.length ≤ 4 ∧ (s.tubeAt i).history.Nodup

/-- Each take's fixed bindings count the windows bound to it in TAKE mode (R128, R130). -/
def BindingsMatch (s : State) : Prop := ∀ k, (s.takeAt k).bindings = s.windows.toList.countP fun v => decide (v = .take k)

/-- The data of every take lies within its chain (R27, R79, R80): the written length is a multiple of 64 of at most 16 MiB, and the
chain has exactly the segments that length needs; while the take records, it is its lane's next offset. -/
structure ChainsMatchLengths (s : State) : Prop where
  lengths : ∀ k, (s.takeAt k).state ≠ .free → (s.takeAt k).written % Config.unitBytes = 0 ∧
    (s.takeAt k).written ≤ Config.apertureBytes ∧ (s.takeAt k).chain.length = ceilDiv (s.takeAt k).written Config.segmentBytes
  next : ∀ n k, (s.lane n).current = some k → (s.takeAt k).written = (s.lane n).nextOffset

/-- The Notice Writer's ranges (R158, R161, R162). -/
structure NoticesInRange (s : State) : Prop where
  queue : s.notices.queue.length ≤ Config.noticeQueueLimit
  number : 1 ≤ s.notices.nextNumber ∧ s.notices.nextNumber ≤ 4294967295
  numbers : ∀ n ∈ s.notices.queue, 1 ≤ n.number ∧ n.number ≤ 4294967295
  index : s.notices.writeIndex < Config.ringSlots

/-- The arbiter's counts stay at most 4, and outside power-on reset the Notice Writer waits exactly while a notice is
queued (R155, R162). -/
structure ArbiterSound (s : State) : Prop where
  notice : ∀ c, s.arbiter.notice = some c → c ≤ Config.forwardedGrantLimit
  loader : ∀ c, s.arbiter.loader = some c → c ≤ Config.forwardedGrantLimit
  waits : s.pins.powerReset = false → (s.arbiter.notice.isSome = true ↔ s.notices.queue ≠ [])

/-- A read on the store port that waits for its data. -/
def Flight.waits : Flight → Bool
  | .answered _ => false
  | .stream _ _ => false
  | .awaiting _ _ _ => true

/-- A complete transaction. -/
def Flight.complete : Flight → Bool
  | .answered _ => true
  | .stream _ _ => false
  | .awaiting _ _ _ => false

/-- The rig port and the reads on the store port (R143, R144, R19): at most 32 transactions in flight, none complete at
the head, one issued read for each that waits for its data, and at most one for the Map Loader. -/
structure PortsSound (s : State) : Prop where
  room : s.inFlight.length ≤ Config.inFlightLimit
  head : ∀ f ∈ s.inFlight.head?, f.complete = false
  reads : s.issued.countP (fun o => decide (o = .rig)) = s.inFlight.countP Flight.waits
  loader : s.issued.countP (fun o => decide (o = .loader)) = if s.loader.read = .idle then 0 else 1
  live : s.loader.read = .live → s.loader.running = true
  asks : s.pins.powerReset = false → (s.arbiter.loader.isSome = true ↔ s.loader.running = true ∧ s.loader.read = .idle)

/-- While the campaign is locked no map load runs (R17, R18). -/
def LockStopsLoads (s : State) : Prop := s.locked = true → s.loader.running = false

/-- In BYPASS mode every lane is DISABLED (R150, R152). -/
def BypassRestsLanes (s : State) : Prop := s.mode = .bypass → ∀ n, (s.lane n).state = .disabled

/-- In ENGAGED mode the layout is one that ENGAGE lets pass (R151, R145). -/
def EngagedLayoutValid (s : State) : Prop := s.mode = .engaged → layoutValid s.layout = true

/-- The Management Link's frame (R175, R176, R183): it needs chip select low, there is none in power-on reset, and a request
taken has its reply until the last byte is sent. -/
structure FrameSound (s : State) : Prop where
  select : s.link.phase ≠ .idle → s.pins.selectLow = true
  held : s.pins.powerReset = true → s.link.phase = .idle
  reply : s.link.phase = .working ∨ s.link.phase = .replying → s.link.reply ≠ []

/-- The ranges of the timebase settings (R165) and of the counts they govern (R166). -/
structure TimebaseInRange (s : State) : Prop where
  divider : 1 ≤ s.timebase.divider ∧ s.timebase.divider ≤ 1023
  period : 16 ≤ s.timebase.period ∧ s.timebase.period ≤ 4095
  window : 2 ≤ s.timebase.window ∧ s.timebase.window < s.timebase.period
  cycle : s.timebase.cycle < s.timebase.divider
  tick : s.timebase.tick < s.timebase.period

/-- The ranges of a lane's configuration (R46); the source numbers are in theirs by their type. -/
structure ConfigInRange (c : LaneConfig) : Prop where
  channels : 1 ≤ c.channels ∧ c.channels ≤ 16
  detector : c.detector ≤ 15
  threshold : 1 ≤ c.threshold ∧ c.threshold ≤ 65535
  release : 1 ≤ c.release ∧ c.release ≤ 65535
  landmarkSpacing : c.landmarkSpacing ≤ 65535
  sampleSpacing : 1 ≤ c.sampleSpacing ∧ c.sampleSpacing ≤ 255
  tolerance : c.tolerance ≤ 65535
  reservation : 1 ≤ c.reservation ∧ c.reservation ≤ 64
  timeouts : c.idle ≤ 65535 ∧ c.drain ≤ 65535 ∧ c.admission ≤ 65535

/-- Every lane's configuration is in range (R46). -/
def ConfigsInRange (s : State) : Prop := ∀ n, ConfigInRange (s.lane n).cfg

/-- The configuration of an enabled lane agrees with itself (R46, R48): the detector channel is one of its channels, and the
release level is below the threshold. -/
def EnabledConfigsConsistent (s : State) : Prop :=
  ∀ n, (s.lane n).state ≠ .disabled →
    (s.lane n).cfg.detector < (s.lane n).cfg.channels ∧ (s.lane n).cfg.release < (s.lane n).cfg.threshold

/-! ## Words of the statements -/

/-- The status that the counts and the mark of a tube give by recomputation (R3). -/
def standing (pending : Nat) (mark : Bool) (attempts : Nat) : TubeStatus :=
  if 0 < pending then .pending else if mark then .accepted else if 0 < attempts then .retestDue else .untested

/-- The flags with which take k of lane n is sealed (R28, R30, R31): its own, the cause's, SHORT mid-block, and
LANDMARK_MISMATCH where its tube expects another count than the one shown. -/
def sealFlags (s : State) (n : Fin 8) (k : Nat) (cause : CloseCause) : Flags :=
  (s.takeAt k).flags |||
    (match cause with
      | .drainTimeout => Flag.short.set
      | .idleTimeout => Flag.stalled.set
      | .abandon => Flag.abandoned.set
      | .laneDisable => Flag.aborted.set
      | .bypass => Flag.aborted.set
      | .rigReset => Flag.aborted.set
      | .endMarker => 0
      | .homeSense => 0) |||
    (match (s.lane n).track.parser with
      | .inBlock _ => Flag.short.set
      | .atHeader => 0
      | .hunt => 0) |||
    (match (s.takeAt k).tube with
      | some p => if (s.tubeAt p.index).expected ≠ 0 ∧ (s.tubeAt p.index).expected ≠ (s.takeAt k).landmarks then
          Flag.landmarkMismatch.set else 0
      | none => 0)

/-- The record of take k of lane n once it is sealed (R31–R33): SEALED, or REJECTED where a flag is in the auto-reject mask. -/
def sealOf (s : State) (n : Fin 8) (k : Nat) (cause : CloseCause) : Take :=
  { s.takeAt k with
    flags := sealFlags s n k cause
    closeCause := some cause
    remaining := 0
    state := if sealFlags s n k cause &&& s.rejectMask = 0 then .sealed else .rejected
    autoRejected := (s.takeAt k).autoRejected || decide (sealFlags s n k cause &&& s.rejectMask ≠ 0) }

/-- A tube once a take of it is sealed as `st` (R5). -/
def tubeAfterSeal (x : Tube) (st : TakeState) : Tube :=
  { x with
    claim := none
    pending := if st = .sealed then x.pending + 1 else x.pending
    status := standing (if st = .sealed then x.pending + 1 else x.pending) x.acceptMark x.attempts }

/-- A lane that has left its sealed take and stays enabled (R63): the admission timer runs in WAITING alone. -/
def laneLeft (l : Lane) : Lane :=
  { l with
    state := .armed, current := none, finalSeq := none, lastSeq := none, nextOffset := 0, idle := none, drain := none,
    track := { parser := .atHeader, expected := none, prevAxial := none, detector := .below, lastLandmark := none } }

/-- What the end of all work leaves of a take (R51, R35): a recording take is sealed with the cause. -/
def afterEnding (s : State) (cause : CloseCause) (k : Nat) : Take :=
  if (s.takeAt k).state.recording then sealOf s (s.takeAt k).lane k cause else s.takeAt k

/-- After every recording take has been sealed with the cause, tube i (R5, R184, R152): sealed with its take, else unchanged but
for a claim let go. -/
structure TubesReleased (s t : State) (cause : CloseCause) : Prop where
  sealed : ∀ k i, (s.takeAt k).state.recording = true → (s.takeAt k).tubeIndex = some i →
    t.tubeAt i = tubeAfterSeal (s.tubeAt i) (afterEnding s cause k).state
  others : ∀ i, (∀ k, (s.takeAt k).state.recording = true → (s.takeAt k).tubeIndex ≠ some i) →
    t.tubeAt i = { s.tubeAt i with claim := none }

/-- The reports that BYPASS posts (R51): START_REFUSED with DISABLED for each WAITING lane, then TAKE_SEALED for each
recording lane, each in ascending lane number. -/
def bypassReports (s : State) : List Report :=
  (allLanes.filterMap fun n =>
    (s.lane n).held.map fun h => { Report.blank .startRefused with lane := some n, tube := some h.1, cause := some (.refused .disabled) }) ++
  allLanes.filterMap fun n => (s.lane n).current.map fun k => Report.takeSealed k (sealOf s n k .bypass) .bypass

/-- A tube whose WAITING lane has left it (R7). -/
def State.unclaim (s : State) (p : TubePos) : State := s.setTube p.index { s.tubeAt p.index with claim := none }

/-- A layout that ENGAGE lets pass (R145, R151): each base a multiple of its region's size, each region within the
address space, no two regions sharing a byte. -/
def layoutGood (l : Layout) : Prop :=
  let regions : List (Nat × Nat) := [(l.lane.toNat, 2 ^ 27), (l.review.toNat, 2 ^ 28), (l.capture.toNat, 2 ^ 30),
    (l.marker.toNat, 2 ^ 16), (l.ring.toNat, 2 ^ 15)]
  (∀ r ∈ regions, r.1 % r.2 = 0 ∧ r.1 + r.2 ≤ 2 ^ 40) ∧
    regions.Pairwise fun r q => ∀ a : Nat, ¬((r.1 ≤ a ∧ a < r.1 + r.2) ∧ (q.1 ≤ a ∧ a < q.1 + q.2))

/-- The checks that come before a verdict's or a release's own (R36). -/
def takeRefusal (s : State) (index : BitVec 16) (serial : BitVec 32) : Option Status :=
  if 1023 < index.toNat then some .badIndex
  else if serial ≠ 0 ∧ serial.toNat ≠ (s.takeAt index.toNat).serial then some .badValue
  else none

/-- A rig-port transaction that the rig port takes (R143): it is one, the part is out of reset, and fewer than 32 are in
flight. -/
structure RigTaken (s : State) (t : RigTxn) : Prop where
  size : 1 ≤ t.op.size
  inUnit : t.addr.toNat % 64 + t.op.size ≤ 64
  ready : s.pins.powerReset = false
  room : s.inFlight.length < 32

/-- The outputs of a rig-port transaction (R143): the responses given, and nothing else. -/
def rigOut (responses : List RigResponse) : Outputs :=
  { responses := responses, access := none, linkBytes := [], taken := true }

/-- From state `w`, with the in-flight list of `s`, the outcome of a transaction has joined the list (R143): it is answered
at once where it is complete and the list was empty, otherwise it stands at the tail. Nothing else of `w` changes. -/
def Joined (s w u : State) (f : Flight) : Prop :=
  match f with
  | .answered r =>
    if s.inFlight = [] then u = { w with inFlight := [], out := rigOut [r] }
    else u = { w with inFlight := s.inFlight ++ [.answered r], out := rigOut [] }
  | .stream a o => u = { w with inFlight := s.inFlight ++ [.stream a o], out := rigOut [] }
  | .awaiting a n o => u = { w with inFlight := s.inFlight ++ [.awaiting a n o], out := rigOut [] }

/-- A transaction's forwarding at its own address (R147). -/
def ownAddress (t : RigTxn) : Flight :=
  match t.op with
  | .read size => .stream (.read t.addr size) (List.replicate size none)
  | .write data => .stream (.write t.addr data) []

/-- The transaction reaches lane n at an offset (R146). -/
structure ReachesLane (s : State) (t : RigTxn) (n : Fin 8) (off : Nat) : Prop where
  engaged : s.mode = .engaged
  inAperture : off < 2 ^ 24
  address : t.addr.toNat = s.layout.lane.toNat + n.val * 2 ^ 24 + off

/-- The capture-store address of offset `off` of a take with this chain (R91). -/
def chainAddress (s : State) (chain : List Nat) (off : Nat) : Addr :=
  BitVec.ofNat 40 (s.layout.capture.toNat + chain.getD (off / 262144) 0 * 262144 + off % 262144)

/-- The transaction is a marker write to unit `unit` of the marker window (R116, R117). -/
structure WritesMarker (s : State) (t : RigTxn) (unit : Nat) (bs : List Byte) : Prop where
  engaged : s.mode = .engaged
  layout : layoutGood s.layout
  inWindow : unit < 1024
  address : t.addr.toNat = s.layout.marker.toNat + 64 * unit
  write : t.op = .write bs
  full : bs.length = 64

/-- A GLOBAL entry with a value out of range (R180, check 2). -/
def globalOutOfRange (e : GlobalEntry) : Prop :=
  2 ^ 14 ≤ e.mask.toNat ∨ 2 ^ 8 ≤ e.enables.toNat ∨ 4095 < e.lowMark.toNat ∨ e.highMark.toNat < e.lowMark.toNat ∨
    4095 < e.highMark.toNat ∨ e.divider.toNat < 1 ∨ 1023 < e.divider.toNat ∨ e.period.toNat < 16 ∨ 4095 < e.period.toNat ∨
    e.window.toNat < 2 ∨ e.period.toNat ≤ e.window.toNat

/-- The timebase settings of a GLOBAL entry differ from those held (R165). -/
def timebaseDiffers (e : GlobalEntry) (tb : Timebase) : Prop :=
  e.divider.toNat ≠ tb.divider ∨ e.period.toNat ≠ tb.period ∨ e.window.toNat ≠ tb.window

/-- A LANE_CONFIG entry with a field outside its own range (R46, R47). -/
def laneConfigOutOfRange (e : LaneConfigEntry) : Prop :=
  15 < e.dataSource.toNat ∨ 15 < e.markerSource.toNat ∨ e.channels.toNat < 1 ∨ 16 < e.channels.toNat ∨ 15 < e.detector.toNat ∨
    e.threshold.toNat < 1 ∨ e.release.toNat < 1 ∨ e.sampleSpacing.toNat < 1 ∨ e.reservation.toNat < 1 ∨
    64 < e.reservation.toNat

/-- A marker whose check word is good, of the kind with this code (R118, R119). -/
def markerOf (bs : List Byte) (kind : Nat) : Prop :=
  ((List.range 32).map fun i => leField bs (2 * i) 2).sum % 65536 = 0 ∧ (byteAt bs 0).toNat = kind

/-- A marker's position field (R120, R186). -/
def markerAt (bs : List Byte) (p : TubePos) : Prop := (byteAt bs 2).toNat = p.row.val ∧ (byteAt bs 3).toNat = p.col.val

/-- A lane-kind marker for lane n from its marker source (R119, R121, R123). -/
def laneMarker (w : State) (t : RigTxn) (bs : List Byte) (kind : Nat) (n : Fin 8) : Prop :=
  markerOf bs kind ∧ (byteAt bs 1).toNat = n.val ∧ t.source = (w.lane n).cfg.markerSource

/-- The final sequence of a TUBE_END (R186). -/
def markerFinal (bs : List Byte) : BitVec 16 := BitVec.ofNat 16 (leField bs 6 2)

/-- MARKER_INVALID with these fields (R125). -/
def invalidReport (t : RigTxn) (n : Option (Fin 8)) (c : MarkerCause) (unit : Nat) : Report :=
  { kind := .markerInvalid, lane := n, take := none, serial := none, tube := none, source := some t.source,
    cause := some (.marker c), flags := 0, value := unit }

/-- START_REFUSED with these fields (R159). -/
def refusedReport (n : Fin 8) (p : TubePos) (c : RefuseCause) : Report :=
  { kind := .startRefused, lane := some n, take := none, serial := none, tube := some p, source := none,
    cause := some (.refused c), flags := 0, value := 0 }

/-- The start checks that a TUBE_START of lane n on a tube fails, first of all (R53, R56). -/
def startRefusal (s : State) (n : Fin 8) (p : TubePos) : Option RefuseCause :=
  if (s.tubeAt p.index).presence = .notInMap then some .notInMap
  else if (s.tubeAt p.index).plug = .plugged then some .plugged
  else if s.loader.running = true then some .mapLoading
  else if (s.tubeAt p.index).claim ≠ none ∧ (s.tubeAt p.index).claim ≠ some n then some .tubeBusy
  else none

/-- The slot that an opening takes (R25, R26): the lowest FREE one, while the serial counter is not spent. -/
def opensAt (s : State) (k : Nat) : Prop :=
  s.serialCounter < 2 ^ 32 ∧ k < 1024 ∧ (s.takeAt k).state = .free ∧ ∀ j < k, (s.takeAt j).state ≠ .free

/-- A take just opened (R26). -/
def takeOpened (serial : Nat) (n : Fin 8) (p : TubePos) (d : Direction) (r : Nat) : Take :=
  { serial := serial, state := .opened, lane := n, tube := some p, direction := d, chain := [], remaining := r, written := 0,
    blocks := 0, samples := 0, missing := 0, axialFirst := none, axialLast := none, landmarks := 0, landmarkList := [],
    rewrites := 0, flags := 0, closeCause := none, autoRejected := false, bindings := 0 }

/-- A tube of which take k has just opened (R4, R8). -/
def tubeOpened (x : Tube) (k : Nat) : Tube :=
  { x with status := .inTest, attempts := min 15 (x.attempts + 1), history := (k :: x.history).take 4 }

/-- A lane whose take k has just opened (R55); a timeout of 0 starts no timer (R65). -/
def laneOpened (l : Lane) (k : Nat) : Lane :=
  { l with
    state := .opened, current := some k, held := none, nextOffset := 0, finalSeq := none, lastSeq := none,
    pauseAdmission := false, admission := none, idle := if l.cfg.idle = 0 then none else some 0, drain := none, stray := false,
    track := { parser := .atHeader, expected := none, prevAxial := none, detector := .below, lastLandmark := none } }

/-- A lane whose held start has been refused or cancelled (R60, R68, R86). -/
def laneStoodDown (l : Lane) : Lane := { l with state := .armed, held := none, pauseAdmission := false, admission := none }

/-- A WAITING lane's held start on p has been refused with cause c, before the admission check that follows (R60, R68, R87). -/
def heldRefused (w : State) (n : Fin 8) (p : TubePos) (c : RefuseCause) : State :=
  (({ w with pool := { w.pool with queue := w.pool.queue.filter (· ≠ n) } }.unclaim p).setLane n
    (laneStoodDown (w.lane n))).post (refusedReport n p c)

/-- A taken lane write restarts the idle timer in OPEN and the drain timer in CLOSING (R65, R69). -/
def laneTouched (l : Lane) : Lane :=
  { l with
    idle := if l.state = .opened then (if l.cfg.idle = 0 then none else some 0) else l.idle
    drain := if l.state = .closing then (if l.cfg.drain = 0 then none else some 0) else l.drain }

/-- Lane n records take k. -/
def recordsTake (w : State) (n : Fin 8) (k : Nat) : Prop :=
  (w.lane n).current = some k ∧ ((w.lane n).state = .opened ∨ (w.lane n).state = .closing)

/-- A tube after a verdict or a release (R9–R11): the status is recomputed unless the tube is IN_TEST. -/
def tubeAfterVerdict (x : Tube) (accepted : Option Nat) (mark : Bool) (pending : Nat) : Tube :=
  { x with
    accepted := accepted
    acceptMark := mark
    pending := pending
    status := if x.status = .inTest then .inTest else standing pending mark x.attempts }

/-- The pending count of a tube once a take in state `st` has left SEALED (R9–R11). -/
def pendingAfter (x : Tube) (st : TakeState) : Nat := if st = .sealed then x.pending - 1 else x.pending

/-- The address lies in the `size` bytes at `base` (R146). -/
def within (a : Addr) (base : Addr) (size : Nat) : Prop := base.toNat ≤ a.toNat ∧ a.toNat < base.toNat + size

/-- The transaction reaches review window v at an offset (R146). -/
structure ReachesWindow (s : State) (t : RigTxn) (v : Fin 16) (off : Nat) : Prop where
  engaged : s.mode = .engaged
  layout : layoutGood s.layout
  inWindow : off < 2 ^ 24
  address : t.addr.toNat = s.layout.review.toNat + v.val * 2 ^ 24 + off

/-- How a read of take k is answered (R93, R133): from memory below the written length, else blank fill. -/
def readOf (w : State) (k off size : Nat) : Flight :=
  if off - off % 64 < (w.takeAt k).written then
    .stream (.read (chainAddress w (w.takeAt k).chain off) size) (w.overlay k off size)
  else .answered (.readData (List.replicate size 0x00))

/-- A watch unit after a hit (R174): its count, capture, and mode. -/
def unitAfterHit (w : Watch) (t : RigTxn) : Watch :=
  { w with
    hits := min 65535 (w.hits + 1)
    capture := some { addr := t.addr, source := t.source
                      isWrite := (match t.op with
                        | .read _ => false
                        | .write _ => true)
                      data := (match t.op with
                        | .read _ => 0
                        | .write data => BitVec.ofNat 64 (leNat (data.take 8))) }
    mode := if w.oneShot = true then .off else w.mode }

/-- The reports that the units hit post, in ascending unit number (R173, R174). -/
def hitReports (s : State) (t : RigTxn) : List Report :=
  (s.watchHits t).filterMap fun v => if s.watches[v].notice = true then
    some { Report.blank .watchHit with source := some t.source, cause := some (.watch v), value := t.addr.toNat / 64 } else none

/-- The arbiter once these reports are created (R160, R162): the Notice Writer waits from the first of them on. -/
def arbiterAfter (a : Arbiter) (reports : List Report) : Arbiter :=
  { a with notice := if reports = [] then a.notice else some (a.notice.getD 0) }

/-- Watch unit v is hit by a transaction (R173). -/
def unitHit (s : State) (t : RigTxn) (v : Fin 4) : Prop :=
  ((∃ size, t.op = .read size) → s.watches[v].dirFilter ≠ .write) ∧
  ((∃ data, t.op = .write data) → s.watches[v].dirFilter ≠ .read) ∧
  (∀ src, s.watches[v].source = some src → src = t.source) ∧
  ((s.watches[v].mode = .matching ∧
      (∀ b < 40, s.watches[v].mask.getLsbD b = true → t.addr.getLsbD b = s.watches[v].compare.getLsbD b) ∧
      (v = 1 → s.watches[0].mode ≠ .range) ∧ (v = 3 → s.watches[2].mode ≠ .range)) ∨
    (v = 0 ∧ s.watches[0].mode = .range ∧ s.watches[0].compare.toNat ≤ t.addr.toNat ∧
      t.addr.toNat ≤ s.watches[1].compare.toNat) ∨
    (v = 2 ∧ s.watches[2].mode = .range ∧ s.watches[2].compare.toNat ≤ t.addr.toNat ∧
      t.addr.toNat ≤ s.watches[3].compare.toNat))

/-- The latch test where unreserved has fallen by an opening or an allocation (R90): an armed latch disarms below the low mark
and posts POOL_LOW with unreserved as it stands. -/
def latchFallen (x : State) : State :=
  if x.pool.armed = true ∧ x.pool.freeCount - x.pool.reserved < x.pool.lowMark then
    { x with pool := { x.pool with armed := false } }.post
      { Report.blank .poolLow with value := x.pool.freeCount - x.pool.reserved }
  else x

/-- An in-order write's segment (R73 step 1, R79): state `x` and the take's chain and reservation as the write finds them — as
they stand inside a segment, else with the head of the free list from the reservation, else from the unreserved share. -/
def segmentTaken (w x : State) (k off : Nat) (chain : List Nat) (remaining : Nat) : Prop :=
  (off / 262144 ≠ (w.takeAt k).chain.length ∧ x = w ∧ chain = (w.takeAt k).chain ∧ remaining = (w.takeAt k).remaining) ∨
  (off / 262144 = (w.takeAt k).chain.length ∧ ∃ seg rest, w.pool.freeList = seg :: rest ∧ chain = (w.takeAt k).chain ++ [seg] ∧
    ((0 < (w.takeAt k).remaining ∧ remaining = (w.takeAt k).remaining - 1 ∧
        x = { w with pool := { w.pool with
          freeList := rest, freeCount := w.pool.freeCount - 1, reserved := w.pool.reserved - 1 } }) ∨
      ((w.takeAt k).remaining = 0 ∧ w.pool.reserved < w.pool.freeCount ∧ remaining = 0 ∧
        x = latchFallen { w with pool := { w.pool with freeList := rest, freeCount := w.pool.freeCount - 1 } })))

/-- The head of the queue has been given a slot (R84): it leaves the queue with its reservation counted out (R78) and the latch
test made (R90). -/
def headCounted (s : State) (h : Fin 8) (rest : List (Fin 8)) : State :=
  latchFallen { s with pool := { s.pool with queue := rest, reserved := s.pool.reserved + (s.lane h).cfg.reservation } }

/-- An admitted take opens with the next serial (R25, R26): its record, its tube (R4) and its lane (R55). -/
def takeOpens (s : State) (o : Opening) : State :=
  ((({ s with serialCounter := s.serialCounter + 1 }).setTake o.slot
      (takeOpened s.serialCounter o.lane o.pos o.direction (s.lane o.lane).cfg.reservation)).setTube o.pos.index
    (tubeOpened (s.tubeAt o.pos.index) o.slot)).setLane o.lane (laneOpened (s.lane o.lane) o.slot)

/-- The head of the queue is admitted and its take opens at once (R84). -/
def headAdmitted (s : State) (h : Fin 8) (rest : List (Fin 8)) (k : Nat) (p : TubePos) (d : Direction) : State :=
  takeOpens (headCounted s h rest) { lane := h, slot := k, pos := p, direction := d }

/-- The slot that the Take Table gives while the slots `given` are given and not opened yet (R25, R26, R88): the lowest FREE one
that is left, while a serial is left for it. -/
def slotGiven (s : State) (given : List Nat) (k : Nat) : Prop :=
  s.serialCounter + given.length < 2 ^ 32 ∧ k < 1024 ∧ k ∉ given ∧ (s.takeAt k).state = .free ∧
    ∀ j < k, j ∉ given → (s.takeAt j).state ≠ .free

/-- The decisions of an admission check (R84, R86, R88), from the starts `given` so far: `CheckDecides s given t all` where the check
of `s` leaves `t`, with no take opened yet, and has admitted `all`, in order. -/
inductive CheckDecides : State → List Opening → State → List Opening → Prop
  /-- The queue is empty. -/
  | empty {s : State} {given : List Opening} : s.pool.queue = [] → CheckDecides s given s given
  /-- Unreserved does not cover the head. -/
  | blocked {s : State} {given : List Opening} {h : Fin 8} {rest : List (Fin 8)} : s.pool.queue = h :: rest →
      s.pool.freeCount - s.pool.reserved < (s.lane h).cfg.reservation → CheckDecides s given s given
  /-- A slot is given to the head. -/
  | admits {s t : State} {given all : List Opening} {h : Fin 8} {rest : List (Fin 8)} {p : TubePos} {d : Direction} {k : Nat} :
      s.pool.queue = h :: rest → (s.lane h).held = some (p, d) →
      (s.lane h).cfg.reservation ≤ s.pool.freeCount - s.pool.reserved → slotGiven s (given.map Opening.slot) k →
      CheckDecides (headCounted s h rest) (given ++ [{ lane := h, slot := k, pos := p, direction := d }]) t all →
      CheckDecides s given t all
  /-- No slot is given, and the head is refused. -/
  | refuses {s t : State} {given all : List Opening} {h : Fin 8} {rest : List (Fin 8)} {p : TubePos} {d : Direction} :
      s.pool.queue = h :: rest → (s.lane h).held = some (p, d) →
      (s.lane h).cfg.reservation ≤ s.pool.freeCount - s.pool.reserved → (¬∃ k, slotGiven s (given.map Opening.slot) k) →
      CheckDecides (heldRefused s h p .tableFull) given t all → CheckDecides s given t all

/-- The remaining reservation of take k has returned to the pool (R31 step 4, R32), with the latch test of R90: unreserved has not
fallen. -/
def reservationReturned (s : State) (k : Nat) : State :=
  { s with pool := { s.pool with
      reserved := s.pool.reserved - (s.takeAt k).remaining
      armed := s.pool.armed ||
        decide (s.pool.highMark ≤ s.pool.freeCount - (s.pool.reserved - (s.takeAt k).remaining)) } }

/-- On state `x`, the record of take k of `s` sealed, its tube updated (R5) and TAKE_SEALED posted (R34): the rest of seal
processing (R31). -/
def sealRecorded (s x : State) (n : Fin 8) (k : Nat) (cause : CloseCause) : State :=
  (match (s.takeAt k).tube with
    | some p => (x.setTake k (sealOf s n k cause)).setTube p.index
        (tubeAfterSeal (s.tubeAt p.index) (sealOf s n k cause).state)
    | none => x.setTake k (sealOf s n k cause)).post (Report.takeSealed k (sealOf s n k cause) cause)

/-- The seal of take k of lane n leads from `s` to `t` and leaves the lane as `left` (R31–R34, R5, R63, R88): the reservation returns,
the admission check decides, the take is recorded as sealed, its tube updated and TAKE_SEALED posted, the admitted takes open, and the
lane leaves its take; nothing else changes. The other fields say what that means for the take, its tube, the takes that were kept,
the lane and the notices. -/
structure SealedBy (s t : State) (n : Fin 8) (k : Nat) (cause : CloseCause) (left : Lane) : Prop where
  whole : ∃ x admitted, CheckDecides (reservationReturned s k) [] x admitted ∧
    t = (admitted.foldl takeOpens (sealRecorded s x n k cause)).setLane n left
  take : t.takeAt k = sealOf s n k cause
  tube : ∀ p, (s.takeAt k).tube = some p → t.tubeAt p.index = tubeAfterSeal (s.tubeAt p.index) (sealOf s n k cause).state
  others : ∀ j, j ≠ k → (s.takeAt j).state ≠ .free → t.takeAt j = s.takeAt j
  lane : t.lane n = left
  notice : ∃ before : List Report,
    (∀ r ∈ before, r.kind = .poolLow ∨ (r.kind = .startRefused ∧ r.cause = some (.refused .tableFull))) ∧
    t.notices = (before ++ [Report.takeSealed k (sealOf s n k cause) cause]).foldl NoticeWriter.create s.notices

/-- What the lane's parser makes of an in-order unit (R73 step 3). -/
def parsed (w : State) (n : Fin 8) (k : Nat) (chain : List Nat) (remaining : Nat) (data : List Byte) :
    Work × Option (BitVec 16) :=
  ({ track := (w.lane n).track, take := { w.takeAt k with chain := chain, remaining := remaining } } : Work).takeUnit
    (w.lane n).cfg data

/-- The state once an in-order unit is recorded (R73 steps 3 and 4, R62, R65). -/
def unitRecorded (w x : State) (n : Fin 8) (k off : Nat) (r : Work × Option (BitVec 16)) : State :=
  (x.setTake k { r.1.take with written := (w.takeAt k).written + 64 }).setLane n
    { laneTouched (w.lane n) with
      track := r.1.track
      nextOffset := off + 64
      lastSeq := match r.2 with
        | some q => some q
        | none => (w.lane n).lastSeq }

/-- The forwarded stream has a transaction ready (R156). -/
def streamWaits (s : State) : Prop := ∃ a o, Flight.stream a o ∈ s.inFlight

/-- A grant goes to the Notice Writer (R155). -/
def noticeTurn (s : State) : Prop :=
  ∃ c, s.arbiter.notice = some c ∧ (4 ≤ c ∨ (¬streamWaits s ∧ ∀ d, s.arbiter.loader = some d → d < 4))

/-- A grant goes to the Map Loader (R155). -/
def loaderTurn (s : State) : Prop :=
  ∃ d, s.arbiter.loader = some d ∧
    ((4 ≤ d ∧ ∀ c, s.arbiter.notice = some c → c < 4) ∨ (d < 4 ∧ ¬streamWaits s ∧ s.arbiter.notice = none))

/-- A grant goes to the forwarded stream (R155). -/
def streamTurn (s : State) : Prop :=
  streamWaits s ∧ (∀ c, s.arbiter.notice = some c → c < 4) ∧ ∀ d, s.arbiter.loader = some d → d < 4

/-- From the in-flight list `l` the complete transactions at its head have been answered in order, and the rest stays (R143). -/
def Answers (l : List Flight) (u : State) : Prop :=
  l = u.out.responses.map Flight.answered ++ u.inFlight ∧ ∀ f ∈ u.inFlight.head?, f.complete = false

/-- The bytes that a return of an issued read brings: those of the unit, or void fill on an error (R144). -/
def returnOf (r : ReadReturn) : List Byte :=
  match r with
  | .data unit => unit.toList
  | .error => List.replicate 64 0xFF

/-- The map entry at place j of a unit is good for tube index i (R20, R188). -/
def entryGood (bs : List Byte) (j i : Nat) : Prop :=
  (byteAt bs (8 * j)).toNat = i / 128 ∧ (byteAt bs (8 * j + 1)).toNat = i % 128 ∧ (byteAt bs (8 * j + 2)).toNat ≤ 1 ∧
    (byteAt bs (8 * j + 3)).toNat ≤ 1 ∧ (byteAt bs (8 * j + 4)).toNat ≤ 47

/-- A tube with the map entry at place j of a unit applied (R19). -/
def entryApplied (x : Tube) (bs : List Byte) (j : Nat) : Tube :=
  { x with
    presence := if byteAt bs (8 * j + 2) = 1 then .inMap else .notInMap
    plug := if byteAt bs (8 * j + 3) = 1 then .plugged else .unplugged
    expected := (byteAt bs (8 * j + 4)).toNat }

/-- The first 16 bytes of a unit are a valid header for a lane of C channels (R98). -/
def headerValid (bs : List Byte) (c : Nat) : Prop :=
  leField bs 0 2 = 0xC3E7 ∧ (byteAt bs 6).toNat = c ∧ 1 ≤ leField bs 4 2 ∧ leField bs 4 2 * c ≤ 1020

/-- The axial positions of a header (R185). -/
def headerFirst (bs : List Byte) : Int := (BitVec.ofNat 32 (leField bs 8 4)).toInt
def headerLast (bs : List Byte) : Int := (BitVec.ofNat 32 (leField bs 12 4)).toInt

/-- From a to b the axial position moves against the direction by more than the tolerance (R104). -/
def movesBack (d : Direction) (tolerance : Nat) (a b : Int) : Bool :=
  match d with
  | .push => decide (b < a - tolerance)
  | .pull => decide (a + tolerance < b)

/-- The byte of a block at which the detector pair of sample i begins (R107). -/
def pairAt (cfg : LaneConfig) (i : Nat) : Nat := 16 + (i * cfg.channels + cfg.detector) * 4

/-- What the samples of block b that lie in unit u make of the detector and the take (R107): each in turn is handed to the
detector with the magnitude of its pair and its position. -/
def examined (cfg : LaneConfig) (w : Work) (b : Block) (u : Nat) (bs : List Byte) : Work :=
  (samplesIn cfg b u).foldl (fun x i => x.detect cfg (magnitude bs (pairAt cfg i - 64 * u)) (samplePosition b i)) w

/-- `r` holds the detector and the landmarks that `f` has. -/
structure SameLandmarks (r f : Work) : Prop where
  detector : r.track.detector = f.track.detector
  lastLandmark : r.track.lastLandmark = f.track.lastLandmark
  landmarks : r.take.landmarks = f.take.landmarks
  landmarkList : r.take.landmarkList = f.take.landmarkList

/-- Next sample index after unit u of block b (R107): one above the last sample examined. -/
def nextSampleAfter (cfg : LaneConfig) (b : Block) (u : Nat) : Nat :=
  match (samplesIn cfg b u).getLast? with
  | some i => i + 1
  | none => b.nextSample

/-- The flags that a valid header adds to a take (R102–R105). -/
def headerAdds (cfg : LaneConfig) (w : Work) (bs : List Byte) : Flags :=
  let s := leField bs 4 2
  let a := headerFirst bs
  let b := headerLast bs
  (match w.track.expected with
    | some e => if BitVec.ofNat 16 (leField bs 2 2) = e then 0 else Flag.seq.set
    | none => 0) |||
  (if (byteAt bs 7).getLsbD 0 then Flag.saturation.set else 0) |||
  (if (w.track.prevAxial.any fun p => movesBack w.take.direction cfg.tolerance p a) ||
      movesBack w.take.direction cfg.tolerance a b then Flag.reversal.set else 0) |||
  (if 2 ≤ s ∧ cfg.sampleSpacing * (s - 1) < (b - a).natAbs then Flag.undersampled.set else 0)

/-- A time event of lane n comes next: the part is out of reset, the lane is enabled, and the event is the first that the
clock has brought it and that it has not taken (R166, R169). -/
def canCome (s : State) (n : Fin 8) (e : LineEvent) : Prop :=
  s.pins.powerReset = false ∧ (s.lane n).state ≠ .disabled ∧ (s.laneLine n).due.head? = some e

/-- The commands that are a time event of lane n (R166, log 5). -/
def timeCommand (n : Fin 8) (c : Instr) : Prop :=
  (∃ level, c = .senseWindowSample n level) ∨
    c ∈ [.drivePhaseStart n, .periodEnd n, .idleTimerExpiry n, .drainTimerExpiry n, .admissionTimerExpiry n]

/-- Cycles of the reference clock. -/
def cyclesOn : Nat → State → State
  | 0, s => s
  | m + 1, s => cyclesOn m s.clockCycle

/-- The refusals of an amendment write of a key (R138, checks 3 to 5). -/
def keyRefusal (s : State) (k : KeyEntry) : Option Status :=
  if 1023 < k.take.toNat ∨ 262143 < k.unit.toNat ∨ 7 < k.eighth.toNat then some .badValue
  else if (s.takeAt k.take.toNat).state = .free then some .refusedState
  else if k.serial ≠ 0 ∧ k.serial.toNat ≠ (s.takeAt k.take.toNat).serial then some .badValue
  else none

/-- Slot `i` of the amendments is written. -/
def State.setAmendment (s : State) (i : Nat) (a : Amendment) : State :=
  { s with amendments := s.amendments.setIfInBounds i a }

end Sys2Proof.Machine
end

