-- ==== Sys2Proof/Certificates/Slice0/Obligations.lean ====
section
/-! DEFINITION. The statements for the provers. -/

open Sys2Proof Sys2Proof.Machine Host

/-! ## The step -/

/-- A step runs the command at the front of the queue on the state with the queue's rest (log 1). -/
def Obligations.StepRunsFrontCommand : Prop :=
  ∀ (c : Instr) (s : State) (rest : List Instr), s.pending = c :: rest → step s = exec c { s with pending := rest }

/-- A step on an empty queue is one cycle of the reference clock (the model's choice: log 1). The position in the sense period
moves on by one cycle and begins again after the period (R165, R166); at the end of the sense window and of the period the events
of R166 come to every enabled lane, behind those that it has not taken (log 4); nothing else changes. The clock stands in power-on reset
alone. -/
def Obligations.EmptyQueuePassesOneClockCycle : Prop :=
  (∀ s : State, s.pending = [] → s.pins.powerReset = true → step s = .next { s with out := Outputs.none }) ∧
  ∀ s : State, s.pending = [] → s.pins.powerReset = false →
    s.timebase.cycle < s.timebase.divider → s.timebase.tick < s.timebase.period → s.timebase.window < s.timebase.period →
    ∃ t, step s = .next t ∧
      t = { s with timebase := t.timebase, laneLines := t.laneLines, out := Outputs.none } ∧
      t.timebase = { s.timebase with cycle := t.timebase.cycle, tick := t.timebase.tick } ∧
      t.timebase.cycle < t.timebase.divider ∧ t.timebase.tick < t.timebase.period ∧
      t.timebase.tick * t.timebase.divider + t.timebase.cycle =
        (s.timebase.tick * s.timebase.divider + s.timebase.cycle + 1) % (s.timebase.period * s.timebase.divider) ∧
      ∀ n, t.laneLine n = { s.laneLine n with due := (s.laneLine n).due ++
        (if (s.lane n).state = .disabled then []
        else if s.timebase.tick * s.timebase.divider + s.timebase.cycle + 1 = s.timebase.window * s.timebase.divider then
          [.sample, .driveStart]
        else if s.timebase.tick * s.timebase.divider + s.timebase.cycle + 1 = s.timebase.period * s.timebase.divider then
          [.periodEnd]
        else []) }

/-! ## Resets -/

/-- The values of a power-on reset (R183 and the rules it names), the pins as they stand but for the reset's own. Three of
them are the model's choices and no rule's: that the event acts in every state, held in reset or not (log 18), that the cycle
count of the timebase is 0 (log 20), and that the loader's count applied is 0 (log 22). So is that a FREE slot's axial first and
last are absent (log 28). -/
def Obligations.PowerOnResetGivesPowerOnValues : Prop :=
  ∀ (straps : BitVec 2) (s : State), ∃ t, exec (.powerOnReset straps) s = .next t ∧
    (∀ k, t.takeAt k =
      { serial := 0, state := .free, lane := 0, tube := none, direction := .push, chain := [], remaining := 0,
        written := 0, blocks := 0, samples := 0, missing := 0, axialFirst := none, axialLast := none, landmarks := 0,
        landmarkList := [], rewrites := 0, flags := 0, closeCause := none, autoRejected := false, bindings := 0 }) ∧
    (∀ i, t.tubeAt i =
      { presence := .notInMap, plug := .unplugged, expected := 0, status := .untested, claim := none, history := [],
        accepted := none, acceptMark := false, pending := 0, attempts := 0 }) ∧
    (∀ n, (t.lane n).cfg =
      { dataSource := BitVec.ofNat 4 n.val, markerSource := BitVec.ofNat 4 (8 + n.val), channels := 4, detector := 0,
        threshold := 8000, release := 6000, landmarkSpacing := 1000, sampleSpacing := 8, tolerance := 20, reservation := 8,
        idle := 20000, drain := 10000, admission := 0 }) ∧
    (∀ n, t.lane n =
      { cfg := (t.lane n).cfg, state := .disabled, current := none, held := none, nextOffset := 0, finalSeq := none,
        lastSeq := none, pauseAdmission := false, pauseWatch := false, home := .away, stray := false, idle := none,
        drain := none, admission := none, track := { parser := .atHeader, expected := none, prevAxial := none,
                                                     detector := .below, lastLandmark := none } }) ∧
    t.serialCounter = 1 ∧ t.rejectMask = Flag.form.set ||| Flag.truncated.set ||| Flag.aborted.set ||| Flag.abandoned.set ∧
    t.locked = false ∧ t.plugSet = 0 ∧
    t.loader = { running := false, base := 0, next := 0, remaining := 0, applied := 0, read := .idle } ∧
    t.pool = { freeList := List.range 4096, freeCount := 4096, reserved := 0, queue := [], lowMark := 64, highMark := 128,
               armed := true } ∧
    (∀ w : Fin 16, t.windows[w] = .unbound) ∧
    (∀ a : Fin 8, t.amendments[a] = { take := 0, unit := 0, eighth := 0, value := 0, enabled := false }) ∧
    t.inFlight = [] ∧ t.issued = [] ∧ t.arbiter = { notice := none, loader := none } ∧
    t.notices = { queue := [], nextNumber := 1, writeIndex := 0, enables := 0xFF, attention := false } ∧
    (∀ i : Fin 12, t.lines[i] = { direction := .input, level := .low }) ∧
    (∀ n, (t.laneLine n).prev = none ∧ (t.laneLine n).driveLow = false) ∧
    t.timebase = { divider := 25, period := 200, window := 4, cycle := 0, tick := 0 } ∧
    (∀ u : Fin 4, t.watches[u] =
      { mode := .off, compare := 0, mask := 0, dirFilter := .both, source := none, notice := false, hold := false,
        oneShot := false, holdLane := 0, hits := 0, capture := none }) ∧
    t.link.phase = .idle ∧ t.strap = straps ∧ t.pins = { s.pins with powerReset := false } ∧ t.pending = s.pending

/-- The straps select the layout and the mode (R154): the three presets pass the checks of ENGAGE, strap value 0 does not,
every lane is DISABLED, and a rig reset keeps mode and layout. That POWER_ON_RESET acts in every state is the model's choice (log
18). -/
def Obligations.StrapsSelectLayoutAndMode : Prop :=
  (∀ (straps : BitVec 2) (s : State), ∃ t, exec (.powerOnReset straps) s = .next t ∧ (∀ n, (t.lane n).state = .disabled) ∧
    (straps = 0 → t.mode = .bypass ∧ t.layout = { lane := 0, review := 0, capture := 0, marker := 0, ring := 0 } ∧
      layoutValid t.layout = false) ∧
    (straps ≠ 0 → t.mode = .engaged ∧ layoutValid t.layout = true) ∧
    (straps = 1 → t.layout = { capture := 0x0080000000, lane := 0x00C0000000, review := 0x00D0000000,
                               marker := 0x00E0000000, ring := 0x00E0010000 }) ∧
    (straps = 2 → t.layout = { capture := 0x0400000000, lane := 0x0440000000, review := 0x0450000000,
                               marker := 0x0460100000, ring := 0x0460200000 }) ∧
    (straps = 3 → t.layout = { capture := 0x8000000000, lane := 0x7FF0000000, review := 0x7FE0000000,
                               marker := 0x7FDFFF0000, ring := 0x7FDFFE8000 })) ∧
  ∀ (clocked : List Byte) (s t : State), exec (.rigReset clocked) s = .next t →
    t.mode = s.mode ∧ t.layout = s.layout ∧ t.strap = s.strap

/-- POWER_ON_RESET_ENTRY holds the part in reset (R183): lines undriven, attention released, ports and frame abandoned; the
host has received what R176 gives for the bytes it clocked before. While the part is held it takes no event but the end of the
reset, and only the levels of the pins are followed. The model's forms: a command not taken leaves the state as it is, with nothing
on the ports (log 2), and the bytes clocked come with the command (log 8). -/
def Obligations.PartInPowerOnResetTakesNoEvent : Prop :=
  (∀ (clocked : List Byte) (s : State), s.pins.powerReset = false → ∃ t, exec (.powerOnResetEntry clocked) s = .next t ∧
    t.pins = { s.pins with powerReset := true } ∧ (∀ i, t.lineDriver i = none) ∧ t.attentionLine = false ∧ t.inFlight = [] ∧
    t.issued = [] ∧ t.arbiter = { notice := none, loader := none } ∧ t.link.phase = .idle ∧ t.out.responses = [] ∧
    t.out.access = none ∧ HostReceives s clocked t.out.linkBytes) ∧
  ∀ (c : Instr) (s : State), s.pins.powerReset = true → (∀ straps, c ≠ .powerOnReset straps) → c.wf = true →
    ∃ t, exec c s = .next t ∧ t = { s with pins := t.pins, out := Outputs.none } ∧ t.pins.powerReset = true

/-- A rig reset ends the working state and keeps the records (R184): every recording take is sealed with RIG_RESET and its tube
updated as R5 says (R35, R51); every other tube keeps all but its claim; every lane is DISABLED with its configuration; the
reservations return, with the latch test of R90 and no notice; the map load stops where it stands; windows, watch units, lines and
notices take their values; the frame is abandoned, the host having received what R176 gives for the bytes it clocked before (the
model's form: log 8); and all else stays. -/
def Obligations.RigResetEndsWorkAndKeepsRecords : Prop :=
  ∀ (clocked : List Byte) (s : State), Books s → TubesMatch s → s.pins.powerReset = false → s.pins.rigReset = false →
    ∃ t, exec (.rigReset clocked) s = .next t ∧
    (∀ i, (t.tubeAt i).claim = none ∧ (t.tubeAt i).status ≠ .inTest) ∧ TubesReleased s t .rigReset ∧
    (∀ n, t.lane n = Lane.disabled (s.lane n).cfg ∧ t.laneLine n = LaneLine.idle) ∧
    (∀ k, t.takeAt k = { afterEnding s .rigReset k with bindings := 0 }) ∧ (∀ w : Fin 16, t.windows[w] = .unbound) ∧
    (∀ u : Fin 4, t.watches[u] = { s.watches[u] with mode := .off, hits := 0, capture := none }) ∧
    (∀ i : Fin 12, t.lines[i] = { s.lines[i] with direction := .input }) ∧
    t.notices = { s.notices with queue := [], attention := false } ∧ t.arbiter = { notice := none, loader := none } ∧
    t.loader.running = false ∧ t.loader.base = s.loader.base ∧ t.loader.next = s.loader.next ∧
    t.loader.remaining = s.loader.remaining ∧
    t.loader.read = (if s.loader.read = LoaderRead.live then .discard else s.loader.read) ∧
    t.pool = { s.pool with
      reserved := 0, queue := [], armed := s.pool.armed || decide (s.pool.highMark ≤ s.pool.freeCount) } ∧
    t.mode = s.mode ∧ t.layout = s.layout ∧ t.strap = s.strap ∧ t.locked = s.locked ∧ t.plugSet = s.plugSet ∧
    t.serialCounter = s.serialCounter ∧ t.rejectMask = s.rejectMask ∧ t.amendments = s.amendments ∧
    t.timebase = s.timebase ∧ t.inFlight = s.inFlight ∧ t.issued = s.issued ∧ t.pins = { s.pins with rigReset := true } ∧
    t.link = (if s.link.phase = .idle then s.link else { phase := .trailing, waitLeft := 0, reply := [] }) ∧
    t.out = { responses := [], access := none, linkBytes := t.out.linkBytes, taken := true } ∧
    HostReceives s clocked t.out.linkBytes ∧ t.pending = s.pending

/-- Holding the rig reset input asserted does nothing further, and its release lets the next assertion be taken (R184). The
form of a command not taken is the model's (log 2). -/
def Obligations.RigResetIsTakenOncePerAssertion : Prop :=
  ∀ (clocked : List Byte) (s : State), s.pins.rigReset = true → s.pins.powerReset = false →
    exec (.rigReset clocked) s = .next { s with out := Outputs.none } ∧
    exec .rigResetRelease s = .next { s with pins := { s.pins with rigReset := false }, out := { Outputs.none with taken := true } } ∧
    ∃ t, exec (.rigReset clocked) { s with pins := { s.pins with rigReset := false } } = .next t ∧ t.out.taken = true ∧
      t.pins.rigReset = true

/-! ## The management link -/

/-- A fall of chip select in IDLE starts RECEIVING (R175); a rise ends the frame (R175, R176): the link is IDLE and nothing
else changes. The host has received the idle byte for each byte of an unfinished request; after the request was taken, the
WAIT bytes, then the reply, then idle bytes, as far as it clocked; and idle bytes after an abandoned frame. That the bytes
clocked come with the rise is the model's choice (log 8). -/
def Obligations.ChipSelectFramesRequests : Prop :=
  (∀ s : State, s.pins.selectLow = false → s.pins.powerReset = false → s.link.phase = .idle →
    exec .chipSelectFall s = .next
      { s with
        pins := { s.pins with selectLow := true }
        link := { phase := .receiving, waitLeft := 0, reply := [] }
        out := { Outputs.none with taken := true } }) ∧
  ∀ (clocked : List Byte) (s : State), s.pins.selectLow = true → s.pins.powerReset = false →
    ∃ t, exec (.chipSelectRise clocked) s = .next t ∧
      t = { s with pins := { s.pins with selectLow := false }, link := t.link, fresh := t.fresh, out := t.out } ∧
      t.link = { phase := .idle, waitLeft := 0, reply := [] } ∧ t.out.responses = [] ∧ t.out.access = none ∧
      t.out.taken = true ∧ HostReceives s clocked t.out.linkBytes

/-- Every request that the link completes in RECEIVING is taken as one event and answered (R175–R177): the frame is WORKING,
the reply is a status, the payload's length, the payload and a check byte that makes the sum 0, and a request refused with any
status but DONE changes nothing and carries no payload. In any other phase no request is taken: its bytes are ignored, and the link
goes on with the WAIT bytes, the reply and the idle bytes that it was sending (R176), or ignores the clock with chip select high or
in power-on reset (R175, R183). The model's choices: a request is one command (log 8), the number of WAIT bytes is a free value (log
9), a command not taken changes nothing (log 2). -/
def Obligations.EveryRequestIsAnswered : Prop :=
  (∀ (c : Instr) (s : State), isRequest c = true → wellSent c = true → s.listening = true →
    ∃ t st payload, exec c s = .next t ∧
      t.link = { phase := .working, waitLeft := Config.waitBytes s.fresh, reply := replyBytes st payload } ∧
      t.out = { Outputs.none with linkBytes := List.replicate (requestBytes c).length 0xFF, taken := true } ∧
      (st ≠ .done → payload = [] ∧ Unchanged s t)) ∧
  (∀ (c : Instr) (s : State), isRequest c = true → s.listening = false →
    (wellSent c = false ∨ s.pins.powerReset = true ∨ s.pins.selectLow = false → exec c s = .next { s with out := Outputs.none }) ∧
    (wellSent c = true → s.pins.powerReset = false → s.pins.selectLow = true →
      ∃ t, exec c s = .next t ∧ Unchanged s t ∧ t.out = { Outputs.none with linkBytes := t.out.linkBytes } ∧
        HostReceives s (requestBytes c) t.out.linkBytes ∧
        ((s.link.phase = .working ∨ s.link.phase = .replying → s.link.reply ≠ []) →
          t.link = linkAfter s.link (requestBytes c).length))) ∧
  ∀ (st : Status) (payload : List Byte), byteSum (replyBytes st payload) = 0 ∧
    ∃ check, replyBytes st payload = BitVec.ofNat 8 st.code :: BitVec.ofNat 8 payload.length ::
      BitVec.ofNat 8 (payload.length / 256) :: (payload ++ [check])

/-- A bad request is refused with the status its bytes call for (R175, R177): BAD_CHECK for a sum that is not 0, then
BAD_VALUE for a declared length above 1024, then UNKNOWN_COMMAND for a command byte outside the fourteen, or a table selector
outside the eleven in READ_ENTRY and WRITE_ENTRY, then BAD_VALUE for a payload length that is not the command's. An amendment
operation byte that is none of the four gives BAD_INDEX above slot 7 (R138). That the frame's bytes are the command's operand is the
model's choice (log 8), and that the last two are BAD_REQUESTs is its reading (log 10). -/
def Obligations.BadRequestGetsItsStatus : Prop :=
  ∀ (frame : List Byte) (s : State), s.listening = true → completeFrame frame = true →
    (byteSum frame ≠ 0 → exec (.badRequest frame) s = .next (s.answered (.badRequest frame) .badCheck [])) ∧
    (byteSum frame = 0 → 1024 < declaredLength frame →
      exec (.badRequest frame) s = .next (s.answered (.badRequest frame) .badValue [])) ∧
    (byteSum frame = 0 → declaredLength frame ≤ 1024 →
      byteAt frame 0 ∉ [0x01, 0x02, 0x10, 0x11, 0x12, 0x13, 0x20, 0x21, 0x22, 0x30, 0x31, 0x32, 0x40, 0x41] →
      exec (.badRequest frame) s = .next (s.answered (.badRequest frame) .unknownCommand [])) ∧
    (byteSum frame = 0 → declaredLength frame ≤ 1024 → byteAt frame 0 ∈ [0x01, 0x02] →
      ¬(1 ≤ (byteAt frame 1).toNat ∧ (byteAt frame 1).toNat ≤ 11) →
      exec (.badRequest frame) s = .next (s.answered (.badRequest frame) .unknownCommand [])) ∧
    (byteSum frame = 0 → declaredLength frame ≤ 1024 →
      byteAt frame 0 ∈ [0x01, 0x02, 0x10, 0x11, 0x12, 0x13, 0x20, 0x21, 0x22, 0x30, 0x31, 0x32, 0x40, 0x41] →
      (byteAt frame 0 ∈ [0x01, 0x02] → 1 ≤ (byteAt frame 1).toNat ∧ (byteAt frame 1).toNat ≤ 11) →
      declaredLength frame ≠ payloadNeeded (byteAt frame 0) (byteAt frame 1) →
      exec (.badRequest frame) s = .next (s.answered (.badRequest frame) .badValue [])) ∧
    (byteSum frame = 0 → byteAt frame 0 = 0x02 → byteAt frame 1 = 0x08 → declaredLength frame = 24 →
      ¬(1 ≤ (byteAt frame 6).toNat ∧ (byteAt frame 6).toNat ≤ 4) → 7 < (frameIndex frame).toNat →
      exec (.badRequest frame) s = .next (s.answered (.badRequest frame) .badIndex []))

/-- The bytes of every request, read by the layouts of R189 and R190, are that request with every field at its value. Fields
that a request does not read are sent as 0 (the model's choice: log 8). -/
def Obligations.RequestBytesReadBack : Prop :=
  ∀ (levels : BitVec 12) (c : Instr), isRequest c = true → wellSent c = true →
    requestOf (levelsOf levels c) (requestBytes c) = some c

/-- READ_ENTRY returns one whole entry, of the table's length and with every field that R190 gives it in its place and encoding,
or BAD_INDEX, and changes nothing (R179, R190); WRITE_ENTRY to LANE_STATUS, TAKE and STATUS is refused with BAD_INDEX beyond the
table, otherwise with REFUSED_STATE (R179). What STATUS shows for a spent serial counter is a free value (log 11). -/
def Obligations.ReadsAndReadOnlyTablesChangeNothing : Prop :=
  EntryCodes ∧
  (∀ (table : TableSel) (index : BitVec 16) (levels : BitVec 12) (s : State), s.listening = true →
    (table.entries ≤ index.toNat →
      exec (.readEntry table index levels) s = .next (s.answered (.readEntry table index levels) .badIndex [])) ∧
    (index.toNat < table.entries → ∃ payload, s.entry table index.toNat levels = some payload ∧
      payload.length = table.entryLength ∧ Shows payload (entryFields s table index.toNat levels) ∧
      exec (.readEntry table index levels) s = .next (s.answered (.readEntry table index levels) .done payload))) ∧
  ∀ (table : ReadOnlyTable) (index : BitVec 16) (s : State), s.listening = true →
    exec (.writeEntryReadOnly table index) s = .next (s.answered (.writeEntryReadOnly table index)
      (match table with
        | .laneStatus => if 7 < index.toNat then .badIndex else .refusedState
        | .take => if 1023 < index.toNat then .badIndex else .refusedState
        | .status => if index ≠ 0 then .badIndex else .refusedState) [])

/-! ## Table writes -/

/-- WRITE_ENTRY to LAYOUT (R145): only in BYPASS mode; a write that passes sets the five bases together, with no check of
alignment, overlap or the end of the space. -/
def Obligations.LayoutWriteSetsBasesInBypass : Prop :=
  ∀ (index : BitVec 16) (e : Layout) (s : State), s.listening = true →
    exec (.writeEntryLayout index e) s = .next (
      if index ≠ 0 then s.answered (.writeEntryLayout index e) .badIndex []
      else if s.mode = .engaged then s.answered (.writeEntryLayout index e) .refusedState []
      else { s with layout := e }.answered (.writeEntryLayout index e) .done [])

/-- WRITE_ENTRY to GLOBAL (R180, R16, R165, R89, R90): its checks in order; a write that passes sets every field, restarts
the sense-period count where the timebase changed, and makes the latch test with the new marks, posting POOL_LOW where an armed
latch finds unreserved below the low mark. That the restart sets the cycle count to 0 is the model's choice (log 20). -/
def Obligations.GlobalWriteSetsFieldsAndTestsLatch : Prop :=
  ∀ (index : BitVec 16) (e : GlobalEntry) (s : State), s.listening = true →
    (index ≠ 0 → exec (.writeEntryGlobal index e) s = .next (s.answered (.writeEntryGlobal index e) .badIndex [])) ∧
    (index = 0 → globalOutOfRange e →
      exec (.writeEntryGlobal index e) s = .next (s.answered (.writeEntryGlobal index e) .badValue [])) ∧
    (index = 0 → ¬globalOutOfRange e → s.locked = true → e.plugs ≠ s.plugSet →
      exec (.writeEntryGlobal index e) s = .next (s.answered (.writeEntryGlobal index e) .refusedLocked [])) ∧
    (index = 0 → ¬globalOutOfRange e → (s.locked = true → e.plugs = s.plugSet) → timebaseDiffers e s.timebase →
      (∃ n, (s.lane n).state ≠ .disabled) →
      exec (.writeEntryGlobal index e) s = .next (s.answered (.writeEntryGlobal index e) .refusedState [])) ∧
    (index = 0 → ¬globalOutOfRange e → (s.locked = true → e.plugs = s.plugSet) →
      (timebaseDiffers e s.timebase → ∀ n, (s.lane n).state = .disabled) →
      ∃ t u : State, exec (.writeEntryGlobal index e) s = .next (t.answered (.writeEntryGlobal index e) .done []) ∧
        u = { s with
              rejectMask := e.mask.setWidth 14
              plugSet := e.plugs
              pool := { s.pool with lowMark := e.lowMark.toNat, highMark := e.highMark.toNat }
              notices := { s.notices with enables := e.enables.setWidth 8 }
              timebase := t.timebase
              out := { Outputs.none with taken := true } } ∧
        (¬timebaseDiffers e s.timebase → t.timebase = s.timebase) ∧
        (timebaseDiffers e s.timebase → t.timebase =
          { divider := e.divider.toNat, period := e.period.toNat, window := e.window.toNat, cycle := 0, tick := 0 }) ∧
        (s.pool.armed = true → s.pool.freeCount - s.pool.reserved < e.lowMark.toNat →
          t = { u with pool := { u.pool with armed := false } }.post (Report.poolLow (s.pool.freeCount - s.pool.reserved))) ∧
        (s.pool.armed = true → e.lowMark.toNat ≤ s.pool.freeCount - s.pool.reserved → t = u) ∧
        (s.pool.armed = false → t = { u with pool := { u.pool with
          armed := decide (e.highMark.toNat ≤ s.pool.freeCount - s.pool.reserved) } }))

/-- WRITE_ENTRY to LANE_CONFIG (R47): its checks in order; a write that passes sets every field of a DISABLED lane
together, whether or not detector and channels, or the two levels, agree. -/
def Obligations.LaneConfigWriteSetsDisabledLane : Prop :=
  ∀ (index : BitVec 16) (e : LaneConfigEntry) (s : State), s.listening = true →
    (7 < index.toNat →
      exec (.writeEntryLaneConfig index e) s = .next (s.answered (.writeEntryLaneConfig index e) .badIndex [])) ∧
    ∀ n : Fin 8, index.toNat = n.val →
      ((s.lane n).state ≠ .disabled →
        exec (.writeEntryLaneConfig index e) s = .next (s.answered (.writeEntryLaneConfig index e) .refusedState [])) ∧
      ((s.lane n).state = .disabled → laneConfigOutOfRange e →
        exec (.writeEntryLaneConfig index e) s = .next (s.answered (.writeEntryLaneConfig index e) .badValue [])) ∧
      ((s.lane n).state = .disabled → ¬laneConfigOutOfRange e →
        exec (.writeEntryLaneConfig index e) s = .next ((s.setLane n { s.lane n with cfg :=
          { dataSource := e.dataSource.setWidth 4, markerSource := e.markerSource.setWidth 4, channels := e.channels.toNat,
            detector := e.detector.toNat, threshold := e.threshold.toNat, release := e.release.toNat,
            landmarkSpacing := e.landmarkSpacing.toNat, sampleSpacing := e.sampleSpacing.toNat,
            tolerance := e.tolerance.toNat, reservation := e.reservation.toNat, idle := e.idle.toNat,
            drain := e.drain.toNat, admission := e.admission.toNat } }).answered (.writeEntryLaneConfig index e) .done []))

/-- WRITE_ENTRY to TUBE (R15): its checks in order; a write that passes sets presence, plug and expected landmarks together
and nothing else. Of the request's payload no byte but those three is read. -/
def Obligations.TubeWriteSetsMapFields : Prop :=
  (∀ (index : BitVec 16) (e : TubeEntry) (s : State), s.listening = true →
    exec (.writeEntryTube index e) s = .next (
      if 16383 < index.toNat then s.answered (.writeEntryTube index e) .badIndex []
      else if s.locked = true then s.answered (.writeEntryTube index e) .refusedLocked []
      else if s.loader.running = true then s.answered (.writeEntryTube index e) .refusedState []
      else if (s.tubeAt index.toNat).claim ≠ none then s.answered (.writeEntryTube index e) .refusedState []
      else if 1 < e.presence.toNat ∨ 1 < e.plug.toNat ∨ 47 < e.expected.toNat then
        s.answered (.writeEntryTube index e) .badValue []
      else (s.setTube index.toNat { s.tubeAt index.toNat with
          presence := if e.presence = 1 then .inMap else .notInMap
          plug := if e.plug = 1 then .plugged else .unplugged
          expected := e.expected.toNat }).answered (.writeEntryTube index e) .done [])) ∧
  ∀ f g : List Byte, byteAt f 6 = byteAt g 6 → byteAt f 7 = byteAt g 7 → byteAt f 8 = byteAt g 8 →
    frameIndex f = frameIndex g → writeOf f .tube = writeOf g .tube

/-- WRITE_ENTRY to WINDOW (R129, R130): its checks in order; a write that passes replaces the binding, and every take's
fixed bindings go on counting the windows bound to it in TAKE mode; nothing else of a take changes. -/
def Obligations.WindowWriteReplacesBinding : Prop :=
  ∀ (index : BitVec 16) (e : WindowEntry) (s : State), s.listening = true →
    (15 < index.toNat → exec (.writeEntryWindow index e) s = .next (s.answered (.writeEntryWindow index e) .badIndex [])) ∧
    (index.toNat ≤ 15 → (2 < e.mode.toNat ∨ (e.mode = 1 ∧ 1023 < e.take.toNat) ∨
        (e.mode = 2 ∧ (127 < e.row.toNat ∨ 127 < e.column.toNat))) →
      exec (.writeEntryWindow index e) s = .next (s.answered (.writeEntryWindow index e) .badValue [])) ∧
    (index.toNat ≤ 15 → e.mode = 1 → e.take.toNat ≤ 1023 → (s.takeAt e.take.toNat).state = .free →
      exec (.writeEntryWindow index e) s = .next (s.answered (.writeEntryWindow index e) .refusedState [])) ∧
    (index.toNat ≤ 15 → e.mode = 1 → e.take.toNat ≤ 1023 → (s.takeAt e.take.toNat).state ≠ .free → e.serial ≠ 0 →
      e.serial.toNat ≠ (s.takeAt e.take.toNat).serial →
      exec (.writeEntryWindow index e) s = .next (s.answered (.writeEntryWindow index e) .badValue [])) ∧
    ∀ (i : Fin 16) (new : Window), index.toNat = i.val →
      ((e.mode = 0 ∧ new = .unbound) ∨
        (e.mode = 1 ∧ e.take.toNat ≤ 1023 ∧ new = .take e.take.toNat ∧ (s.takeAt e.take.toNat).state ≠ .free ∧
          (e.serial = 0 ∨ e.serial.toNat = (s.takeAt e.take.toNat).serial)) ∨
        (e.mode = 2 ∧ ∃ p : TubePos, p.row.val = e.row.toNat ∧ p.col.val = e.column.toNat ∧ new = .follow p)) →
      ∃ t : State, exec (.writeEntryWindow index e) s = .next (t.answered (.writeEntryWindow index e) .done []) ∧
        t = { s with windows := s.windows.set i.val new, takes := t.takes, out := { Outputs.none with taken := true } } ∧
        (Sparse.wf Take.free Config.takeSlots s.takes = true →
          BindingsMatch s → BindingsMatch t ∧ ∀ k, t.takeAt k = { s.takeAt k with bindings := (t.takeAt k).bindings })

/-- The four amendment operations (R138): BAD_INDEX first; WRITE_KEY and WRITE_BOTH check the key, its take and the serial,
and enable the slot; WRITE_VALUE and DISABLE look at no key; DISABLE keeps key and value. An operation byte that is none of
the four is refused with BAD_VALUE and changes nothing. That such a request is a BAD_REQUEST is the model's reading (log 10).
-/
def Obligations.AmendmentWritesChangeTheirSlot : Prop :=
  ∀ (index : BitVec 16) (k : KeyEntry) (value : BitVec 64) (s : State), s.listening = true →
    (7 < index.toNat →
      exec (.writeKey index k) s = .next (s.answered (.writeKey index k) .badIndex []) ∧
      exec (.writeValue index value) s = .next (s.answered (.writeValue index value) .badIndex []) ∧
      exec (.writeBoth index k value) s = .next (s.answered (.writeBoth index k value) .badIndex []) ∧
      exec (.disable index) s = .next (s.answered (.disable index) .badIndex [])) ∧
    (∀ i : Fin 8, index.toNat = i.val →
      (∀ e, keyRefusal s k = some e →
        exec (.writeKey index k) s = .next (s.answered (.writeKey index k) e []) ∧
        exec (.writeBoth index k value) s = .next (s.answered (.writeBoth index k value) e [])) ∧
      (keyRefusal s k = none →
        exec (.writeKey index k) s = .next ((s.setAmendment i
          { take := k.take.toNat, unit := k.unit.toNat, eighth := k.eighth.toNat, value := s.amendments[i].value,
            enabled := true }).answered (.writeKey index k) .done []) ∧
        exec (.writeBoth index k value) s = .next ((s.setAmendment i
          { take := k.take.toNat, unit := k.unit.toNat, eighth := k.eighth.toNat, value := value,
            enabled := true }).answered (.writeBoth index k value) .done [])) ∧
      exec (.writeValue index value) s =
        .next ((s.setAmendment i { s.amendments[i] with value := value }).answered (.writeValue index value) .done []) ∧
      exec (.disable index) s =
        .next ((s.setAmendment i { s.amendments[i] with enabled := false }).answered (.disable index) .done [])) ∧
    ∀ frame, completeFrame frame = true → byteSum frame = 0 → byteAt frame 0 = 0x02 → byteAt frame 1 = 0x08 →
      declaredLength frame = 24 → (frameIndex frame).toNat ≤ 7 → ¬(1 ≤ (byteAt frame 6).toNat ∧ (byteAt frame 6).toNat ≤ 4) →
      exec (.badRequest frame) s = .next (s.answered (.badRequest frame) .badValue [])

/-- WRITE_ENTRY to WATCH (R172): BAD_INDEX, then BAD_VALUE for an encoding outside its field's values; a write that passes
sets every configuration field, and clears the count and capture where clear-capture says so. The source byte is read only for
kind SOURCE. A clear-capture byte that is neither 0 nor 1 gives BAD_VALUE (the model's reading: log 27). -/
def Obligations.WatchWriteSetsUnit : Prop :=
  ∀ (index : BitVec 16) (e : WatchEntry) (s : State), s.listening = true →
    (3 < index.toNat → exec (.writeEntryWatch index e) s = .next (s.answered (.writeEntryWatch index e) .badIndex [])) ∧
    (index.toNat ≤ 3 → (2 < e.mode.toNat ∨ 2 < e.dirFilter.toNat ∨ 1 < e.sourceKind.toNat ∨
        (e.sourceKind = 1 ∧ 15 < e.source.toNat) ∨ 7 < e.actions.toNat ∨ 7 < e.holdLane.toNat ∨ 1 < e.clear.toNat) →
      exec (.writeEntryWatch index e) s = .next (s.answered (.writeEntryWatch index e) .badValue [])) ∧
    ∀ (u : Fin 4) (m : WatchMode) (d : DirFilter) (src : Option Source) (n : Fin 8), index.toNat = u.val →
      e.mode.toNat = m.code → e.dirFilter.toNat = d.code →
      ((e.sourceKind = 0 ∧ src = none) ∨ (e.sourceKind = 1 ∧ e.source.toNat ≤ 15 ∧ src = some (e.source.setWidth 4))) →
      e.holdLane.toNat = n.val → e.actions.toNat ≤ 7 → e.clear.toNat ≤ 1 →
      ∃ w : Watch, exec (.writeEntryWatch index e) s =
          .next ({ s with watches := s.watches.set u.val w }.answered (.writeEntryWatch index e) .done []) ∧
        w = { mode := m, compare := e.compare, mask := e.mask, dirFilter := d, source := src, notice := e.actions.getLsbD 0,
              hold := e.actions.getLsbD 1, oneShot := e.actions.getLsbD 2, holdLane := n,
              hits := if e.clear = 1 then 0 else s.watches[u].hits,
              capture := if e.clear = 1 then none else s.watches[u].capture }

/-- WRITE_ENTRY to LINES (R171): it sets the entry; a general line, or the line of a DISABLED lane, is driven by it at once,
and the line of an enabled lane is not changed by it. -/
def Obligations.LinesWriteActsUnlessLaneEnabled : Prop :=
  ∀ (index : BitVec 16) (e : LinesEntry) (s : State), s.listening = true →
    (11 < index.toNat → exec (.writeEntryLines index e) s = .next (s.answered (.writeEntryLines index e) .badIndex [])) ∧
    (index.toNat ≤ 11 → (1 < e.direction.toNat ∨ 1 < e.level.toNat) →
      exec (.writeEntryLines index e) s = .next (s.answered (.writeEntryLines index e) .badValue [])) ∧
    ∀ (i : Fin 12) (d : LineDirection) (l : Level), index.toNat = i.val → e.direction.toNat = d.code →
      e.level.toNat = l.code →
      ∃ t : State, exec (.writeEntryLines index e) s = .next (t.answered (.writeEntryLines index e) .done []) ∧
        t = { s with lines := s.lines.set i.val { direction := d, level := l }, out := { Outputs.none with taken := true } } ∧
        (8 ≤ i.val → t.lineDriver i = if d = .output then some l else none) ∧
        ∀ n : Fin 8, n.val = i.val →
          ((s.lane n).state = .disabled → t.lineDriver i = if d = .output then some l else none) ∧
          ((s.lane n).state ≠ .disabled → t.lineDriver i = s.lineDriver i)

/-! ## Modes, lanes and holds -/

/-- ENGAGE (R151): in BYPASS mode it checks the layout, BAD_LAYOUT where a base is misplaced or two regions overlap, and
otherwise sets the mode alone; in ENGAGED mode it changes nothing. -/
def Obligations.EngageChecksLayout : Prop :=
  ∀ s : State, s.listening = true →
    (s.mode = .engaged → exec .engage s = .next (s.answered .engage .done [])) ∧
    (s.mode = .bypass → ¬layoutGood s.layout → exec .engage s = .next (s.answered .engage .badLayout [])) ∧
    (s.mode = .bypass → layoutGood s.layout → exec .engage s = .next ({ s with mode := .engaged }.answered .engage .done []))

/-- BYPASS (R152, R51): every WAITING lane leaves the queue, every recording take is sealed with BYPASS and its tube updated as R5
says, every other tube keeps all but its claim, the reservations return, with the latch test of R90, every lane is DISABLED, the
notices come in order, the Notice Writer waiting from the first on, and the mode becomes BYPASS; all else stays. In BYPASS mode nothing
changes. -/
def Obligations.BypassDisablesEveryLane : Prop :=
  ∀ s : State, s.listening = true →
    (s.mode = .bypass → exec .bypass s = .next (s.answered .bypass .done [])) ∧
    (s.mode = .engaged → Books s → TubesMatch s → ∃ t : State, exec .bypass s = .next (t.answered .bypass .done []) ∧
      t = { s with
            mode := .bypass, lanes := t.lanes, laneLines := t.laneLines, takes := t.takes, tubes := t.tubes
            notices := t.notices, out := t.out
            arbiter := arbiterAfter s.arbiter (bypassReports s)
            pool := { s.pool with
              reserved := 0, queue := [], armed := s.pool.armed || decide (s.pool.highMark ≤ s.pool.freeCount) } } ∧
      (∀ n, t.lane n = Lane.disabled (s.lane n).cfg ∧ t.laneLine n = LaneLine.idle) ∧
      (∀ k, t.takeAt k = afterEnding s .bypass k) ∧ (∀ i, (t.tubeAt i).claim = none ∧ (t.tubeAt i).status ≠ .inTest) ∧
      TubesReleased s t .bypass ∧ t.notices = (bypassReports s).foldl NoticeWriter.create s.notices)

/-- ENABLE_LANE (R48): its checks in order; a lane that passes becomes ARMED with the values of R48 and R96, its line under
the lane function with no previous sample. -/
def Obligations.EnableLaneArmsLane : Prop :=
  ∀ (index : BitVec 16) (s : State), s.listening = true →
    (7 < index.toNat → exec (.enableLane index) s = .next (s.answered (.enableLane index) .badIndex [])) ∧
    ∀ n : Fin 8, index.toNat = n.val →
      (s.mode = .bypass → exec (.enableLane index) s = .next (s.answered (.enableLane index) .refusedState [])) ∧
      (s.mode = .engaged → (s.lane n).state ≠ .disabled →
        exec (.enableLane index) s = .next (s.answered (.enableLane index) .refusedState [])) ∧
      (s.mode = .engaged → (s.lane n).state = .disabled →
        ((s.lane n).cfg.channels ≤ (s.lane n).cfg.detector ∨ (s.lane n).cfg.threshold ≤ (s.lane n).cfg.release) →
        exec (.enableLane index) s = .next (s.answered (.enableLane index) .badValue [])) ∧
      (s.mode = .engaged → (s.lane n).state = .disabled → (s.lane n).cfg.detector < (s.lane n).cfg.channels →
        (s.lane n).cfg.release < (s.lane n).cfg.threshold →
        exec (.enableLane index) s = .next (((s.setLane n
          { cfg := (s.lane n).cfg, state := .armed, current := none, held := none, nextOffset := 0, finalSeq := none,
            lastSeq := none, pauseAdmission := false, pauseWatch := false, home := .away, stray := false, idle := none,
            drain := none, admission := none,
            track := { parser := .atHeader, expected := none, prevAxial := none, detector := .below, lastLandmark := none }
            }).setLaneLine n { prev := none, driveLow := false, due := [] }).answered (.enableLane index) .done []))

/-- DISABLE_LANE by the lane's state (R50): nothing, DISABLED, the held start refused with DISABLED and an admission check, or the
take sealed with LANE_DISABLE. That the held start's START_REFUSED comes before a POOL_LOW of that check is the model's choice (log
29). -/
def Obligations.DisableLaneActsByState : Prop :=
  ∀ (index : BitVec 16) (s : State), s.listening = true →
    (7 < index.toNat → exec (.disableLane index) s = .next (s.answered (.disableLane index) .badIndex [])) ∧
    ∀ n : Fin 8, index.toNat = n.val →
      ((s.lane n).state = .disabled →
        exec (.disableLane index) s = .next (s.answered (.disableLane index) .done [])) ∧
      ((s.lane n).state = .armed →
        exec (.disableLane index) s = .next (((s.setLane n (Lane.disabled (s.lane n).cfg)).setLaneLine n
          LaneLine.idle).answered (.disableLane index) .done [])) ∧
      (∀ p d, (s.lane n).state = .waiting → (s.lane n).held = some (p, d) →
        exec (.disableLane index) s = .next (((((heldRefused s.takeEvent n p .disabled).setLane n
          (Lane.disabled (s.lane n).cfg)).setLaneLine n LaneLine.idle).admissionCheck).answered (.disableLane index) .done [])) ∧
      ∀ k, recordsTake s n k → Books s → TubesMatch s →
        ∃ t : State, exec (.disableLane index) s = .next (t.answered (.disableLane index) .done []) ∧
          SealedBy (s.setLaneLine n LaneLine.idle) t n k .laneDisable (Lane.disabled (s.lane n).cfg)

/-- CLEAR_HOLD takes WATCH out of a lane's pause reasons, in every lane state (R170); CLEAR_ATTENTION clears the attention
flag and releases the line (R164). -/
def Obligations.ClearCommandsClearOneThing : Prop :=
  (∀ (index : BitVec 16) (s : State), s.listening = true →
    (7 < index.toNat → exec (.clearHold index) s = .next (s.answered (.clearHold index) .badIndex [])) ∧
    ∀ n : Fin 8, index.toNat = n.val → exec (.clearHold index) s =
      .next ((s.setLane n { s.lane n with pauseWatch := false }).answered (.clearHold index) .done [])) ∧
  ∀ s : State, s.listening = true → ∃ t : State,
    exec .clearAttention s = .next (t.answered .clearAttention .done []) ∧
    t = { s with notices := { s.notices with attention := false } } ∧ t.attentionLine = false

/-! ## Verdicts and release -/

/-- ACCEPT_TAKE (R36–R39, R9): its checks; a SEALED or SUPERSEDED take becomes ACCEPTED, its tube's earlier accepted take
SUPERSEDED, and the tube is updated; no other take or tube changes. -/
def Obligations.AcceptTakeSupersedesEarlierTake : Prop :=
  ∀ (index : BitVec 16) (serial : BitVec 32) (s : State) (k : Nat) (x : Take), s.listening = true → Books s →
    k = index.toNat → x = s.takeAt k →
    (∀ e, takeRefusal s index serial = some e →
      exec (.acceptTake index serial) s = .next (s.answered (.acceptTake index serial) e [])) ∧
    (takeRefusal s index serial = none → (x.state = .rejected ∨ x.state = .free ∨ x.state = .opened ∨ x.state = .closing) →
      exec (.acceptTake index serial) s = .next (s.answered (.acceptTake index serial) .refusedState [])) ∧
    (takeRefusal s index serial = none → x.state = .accepted →
      exec (.acceptTake index serial) s = .next (s.answered (.acceptTake index serial) .done [])) ∧
    ∀ p, takeRefusal s index serial = none → (x.state = .sealed ∨ x.state = .superseded) → x.tube = some p →
      ∃ t : State, exec (.acceptTake index serial) s = .next (t.answered (.acceptTake index serial) .done []) ∧
        t = { s with takes := t.takes, tubes := t.tubes, out := t.out } ∧
        t.takeAt k = { x with state := .accepted } ∧
        (∀ j, j ≠ k → t.takeAt j =
          if (s.tubeAt p.index).accepted = some j then { s.takeAt j with state := .superseded } else s.takeAt j) ∧
        (∀ i, i ≠ p.index → t.tubeAt i = s.tubeAt i) ∧
        t.tubeAt p.index = tubeAfterVerdict (s.tubeAt p.index) (some k) true (pendingAfter (s.tubeAt p.index) x.state)

/-- REJECT_TAKE (R36, R40, R10): its checks; a SEALED, ACCEPTED or SUPERSEDED take becomes REJECTED, and its tube loses it from
the pending count or as accepted take with the mark; no other take or tube changes. -/
def Obligations.RejectTakeClearsTubesResult : Prop :=
  ∀ (index : BitVec 16) (serial : BitVec 32) (s : State) (k : Nat) (x : Take), s.listening = true → Books s →
    k = index.toNat → x = s.takeAt k →
    (∀ e, takeRefusal s index serial = some e →
      exec (.rejectTake index serial) s = .next (s.answered (.rejectTake index serial) e [])) ∧
    (takeRefusal s index serial = none → (x.state = .free ∨ x.state = .opened ∨ x.state = .closing) →
      exec (.rejectTake index serial) s = .next (s.answered (.rejectTake index serial) .refusedState [])) ∧
    (takeRefusal s index serial = none → x.state = .rejected →
      exec (.rejectTake index serial) s = .next (s.answered (.rejectTake index serial) .done [])) ∧
    ∀ p, takeRefusal s index serial = none → (x.state = .sealed ∨ x.state = .accepted ∨ x.state = .superseded) →
      x.tube = some p →
      ∃ t : State, exec (.rejectTake index serial) s = .next (t.answered (.rejectTake index serial) .done []) ∧
        t = { s with takes := t.takes, tubes := t.tubes, out := t.out } ∧
        t.takeAt k = { x with state := .rejected } ∧ (∀ j, j ≠ k → t.takeAt j = s.takeAt j) ∧
        (∀ i, i ≠ p.index → t.tubeAt i = s.tubeAt i) ∧
        t.tubeAt p.index = (if (s.tubeAt p.index).accepted = some k then
            tubeAfterVerdict (s.tubeAt p.index) none false (pendingAfter (s.tubeAt p.index) x.state)
          else tubeAfterVerdict (s.tubeAt p.index) (s.tubeAt p.index).accepted (s.tubeAt p.index).acceptMark
            (pendingAfter (s.tubeAt p.index) x.state))

/-- RELEASE_TAKE (R36, R42, R43, R11): its checks; the tube lets go of the take, its amendments are disabled, its chain goes to
the tail of the free list, the slot becomes FREE, and one admission check follows. That the axial first and last of the FREE slot are absent is the
model's choice (log 28). -/
def Obligations.ReleaseTakeFreesSlotAndSegments : Prop :=
  ∀ (index : BitVec 16) (serial : BitVec 32) (s : State) (k : Nat) (x : Take), s.listening = true → Books s →
    k = index.toNat → x = s.takeAt k →
    (∀ e, takeRefusal s index serial = some e →
      exec (.releaseTake index serial) s = .next (s.answered (.releaseTake index serial) e [])) ∧
    (takeRefusal s index serial = none → (x.state = .free ∨ x.state = .opened ∨ x.state = .closing) →
      exec (.releaseTake index serial) s = .next (s.answered (.releaseTake index serial) .refusedState [])) ∧
    (takeRefusal s index serial = none → x.state ≠ .free → x.state ≠ .opened → x.state ≠ .closing → 0 < x.bindings →
      exec (.releaseTake index serial) s = .next (s.answered (.releaseTake index serial) .bound [])) ∧
    ∀ p, takeRefusal s index serial = none → x.state ≠ .free → x.state ≠ .opened → x.state ≠ .closing → x.bindings = 0 →
      x.tube = some p →
      ∃ t : State, exec (.releaseTake index serial) s = .next (t.admissionCheck.answered (.releaseTake index serial) .done []) ∧
        t = { s with
              takes := t.takes, tubes := t.tubes, amendments := t.amendments, out := t.out
              pool := { s.pool with
                freeList := s.pool.freeList ++ x.chain
                freeCount := s.pool.freeCount + x.chain.length
                armed := s.pool.armed || decide (s.pool.highMark ≤ s.pool.freeCount + x.chain.length - s.pool.reserved) } } ∧
        t.takeAt k = Take.free ∧ (∀ j, j ≠ k → t.takeAt j = s.takeAt j) ∧
        (∀ a : Fin 8, t.amendments[a] =
          if s.amendments[a].take = k then { s.amendments[a] with enabled := false } else s.amendments[a]) ∧
        (∀ i, i ≠ p.index → t.tubeAt i = s.tubeAt i) ∧
        t.tubeAt p.index =
          { tubeAfterVerdict (s.tubeAt p.index)
              (if (s.tubeAt p.index).accepted = some k then none else (s.tubeAt p.index).accepted)
              (s.tubeAt p.index).acceptMark (pendingAfter (s.tubeAt p.index) x.state) with
            history := (s.tubeAt p.index).history.filter (· ≠ k) }

/-- An admission check (R84–R86): it stops at an empty queue and at a head whose reservation unreserved does not cover. A head that
fits leaves the queue with its reservation counted out and the latch test made, and opens in the lowest FREE slot with the next
serial (R78, R90, R25); where no slot is given it is refused with TABLE_FULL. Either way the check is then the check of the queue
with its new head. What the whole check decides before any of its takes opens (R88) is `CheckDecides`. -/
def Obligations.AdmissionCheckTakesHeadsInOrder : Prop :=
  ∀ s : State, Books s → TubesMatch s →
    (∃ x admitted, CheckDecides s [] x admitted ∧ s.admissionCheck = admitted.foldl takeOpens x) ∧
    (s.pool.queue = [] → s.admissionCheck = s) ∧
    ∀ h rest p d, s.pool.queue = h :: rest → (s.lane h).held = some (p, d) →
      (s.pool.freeCount - s.pool.reserved < (s.lane h).cfg.reservation → s.admissionCheck = s) ∧
      (∀ k, (s.lane h).cfg.reservation ≤ s.pool.freeCount - s.pool.reserved → opensAt s k →
        s.admissionCheck = (headAdmitted s h rest k p d).admissionCheck ∧
        s.admissionCheck.takeAt k = takeOpened s.serialCounter h p d (s.lane h).cfg.reservation ∧
        s.admissionCheck.tubeAt p.index = tubeOpened (s.tubeAt p.index) k ∧
        s.admissionCheck.lane h = laneOpened (s.lane h) k ∧ s.admissionCheck.pool.queue <:+ rest ∧
        ∀ j, (s.takeAt j).state ≠ .free → s.admissionCheck.takeAt j = s.takeAt j) ∧
      ((s.lane h).cfg.reservation ≤ s.pool.freeCount - s.pool.reserved → (¬∃ k, opensAt s k) →
        s.admissionCheck = (heldRefused s h p .tableFull).admissionCheck)

/-! ## The map load and the lock -/

/-- LOAD_MAP (R18): its checks in order; a load that passes begins at the base, the first index and the count, and asks for
its first unit unless a discarded unit is still to return. ABORT_LOAD (R21): refused while idle; otherwise the load stops
where it stands, its request is withdrawn, an issued read is discarded, and MAP_LOAD_DONE is posted with ABORTED and the count
applied. The count applied is held in a field of the model's own (log 22). -/
def Obligations.MapLoadStartsAndAborts : Prop :=
  (∀ (base : Addr) (first count : BitVec 16) (s : State), s.listening = true →
    (s.locked = true →
      exec (.loadMap base first count) s = .next (s.answered (.loadMap base first count) .refusedLocked [])) ∧
    (s.locked = false → (s.loader.running = true ∨
        ∃ n, (s.lane n).state = .waiting ∨ (s.lane n).state = .opened ∨ (s.lane n).state = .closing) →
      exec (.loadMap base first count) s = .next (s.answered (.loadMap base first count) .refusedState [])) ∧
    (s.locked = false → s.loader.running = false → (∀ n, (s.lane n).state = .disabled ∨ (s.lane n).state = .armed) →
      exec (.loadMap base first count) s = .next (
        if count.toNat < 1 ∨ 16384 < count.toNat ∨ 16383 < first.toNat ∨ 16384 < first.toNat + count.toNat ∨
            base.toNat % 64 ≠ 0 ∨ 2 ^ 40 < base.toNat + 8 * count.toNat then
          s.answered (.loadMap base first count) .badValue []
        else { s with
               loader := { running := true, base := base, next := first.toNat, remaining := count.toNat, applied := 0,
                           read := s.loader.read }
               arbiter := { s.arbiter with loader := if s.loader.read = LoaderRead.idle then some 0 else none }
             }.answered (.loadMap base first count) .done []))) ∧
  ∀ s : State, s.listening = true →
    (s.loader.running = false → exec .abortLoad s = .next (s.answered .abortLoad .refusedState [])) ∧
    (s.loader.running = true → exec .abortLoad s = .next (({ s with
        loader := { s.loader with running := false, read := if s.loader.read = LoaderRead.live then .discard else s.loader.read }
        arbiter := { s.arbiter with loader := none } }.post
          { Report.blank .mapLoadDone with cause := some (.load .aborted), value := s.loader.applied }).answered
        .abortLoad .done []))

/-- LOCK_CAMPAIGN (R17): refused while a load runs, otherwise it sets the lock alone. While the lock is set no command but the end of
a power-on reset clears it, changes a tube's presence or expected landmarks, or changes the plug authority set. -/
def Obligations.CampaignLockFreezesMap : Prop :=
  (∀ s : State, s.listening = true →
    (s.loader.running = true → exec .lockCampaign s = .next (s.answered .lockCampaign .refusedState [])) ∧
    (s.loader.running = false → exec .lockCampaign s = .next ({ s with locked := true }.answered .lockCampaign .done []))) ∧
  ∀ (c : Instr) (s t : State), Books s → PortsSound s → s.locked = true → s.loader.running = false →
    (∀ straps, c ≠ .powerOnReset straps) → exec c s = .next t →
    t.locked = true ∧ t.loader.running = false ∧ t.plugSet = s.plugSet ∧
      ∀ i, (t.tubeAt i).presence = (s.tubeAt i).presence ∧ (t.tubeAt i).expected = (s.tubeAt i).expected

/-- A unit of the map returns (R19–R21): its entries are applied in index order up to the number remaining, to presence, plug
and expected landmarks alone; the first bad entry stops the load with BAD_ENTRY, the last one remaining ends it with COMPLETE,
and otherwise the next unit is asked for. Where the load ends the Notice Writer waits (R162) and the loader asks for no more. A unit
that a stopped load had asked for is discarded. The unit's bytes are the command's operand (log 6), and the field `applied` is the
model's own (log 22). -/
def Obligations.MapUnitAppliesEntriesInOrder : Prop :=
  ∀ (r : ReadReturn) (s : State) (rest : List ReadOwner), s.pins.powerReset = false → s.issued = .loader :: rest →
    (s.loader.read = .discard → exec (.storePortReadReturn r) s = .next { s with
      issued := rest
      loader := { s.loader with read := .idle }
      arbiter := if s.loader.running then { s.arbiter with loader := some 0 } else s.arbiter
      out := { Outputs.none with taken := true } }) ∧
    ∀ g m, s.loader.read = .live → s.loader.running = true → Books s → m = min 8 s.loader.remaining → g ≤ m →
      (∀ j < g, entryGood (returnOf r) j (s.loader.next + j)) →
      (g < m → ¬entryGood (returnOf r) g (s.loader.next + g)) →
      ∃ t, exec (.storePortReadReturn r) s = .next t ∧
        t = { s with
              issued := rest, tubes := t.tubes, notices := t.notices, arbiter := t.arbiter
              loader := { s.loader with
                running := decide (g = m ∧ m < s.loader.remaining), next := s.loader.next + g
                remaining := s.loader.remaining - g, applied := s.loader.applied + g, read := .idle }
              out := { Outputs.none with taken := true } } ∧
        (∀ j < g, t.tubeAt (s.loader.next + j) = entryApplied (s.tubeAt (s.loader.next + j)) (returnOf r) j) ∧
        (∀ i, i < s.loader.next ∨ s.loader.next + g ≤ i → t.tubeAt i = s.tubeAt i) ∧
        (g < m → t.notices = s.notices.create
          { Report.blank .mapLoadDone with cause := some (.load .badEntry), value := s.loader.next + g }) ∧
        (g = m → m = s.loader.remaining → t.notices = s.notices.create
          { Report.blank .mapLoadDone with cause := some (.load .complete), value := s.loader.applied + g }) ∧
        (g < m ∨ m = s.loader.remaining → t.arbiter = { s.arbiter with notice := some (s.arbiter.notice.getD 0) } ∧
          (PortsSound s → t.arbiter.loader = none)) ∧
        (g = m → m < s.loader.remaining → t.notices = s.notices ∧ t.arbiter = { s.arbiter with loader := some 0 })

/-! ## The rig port -/

/-- The classes of R146 that no block owns, and the guards: forwarded at their own address, or dropped and answered
(R147–R150, R136, R116). A transaction presented while 32 are in flight is not this one (log 15). -/
def Obligations.TransactionsAreForwardedOrGuarded : Prop :=
  ∀ (t : RigTxn) (s w : State), RigTaken s t → PortsSound s → w = s.takeEvent.watch t →
    ∃ u, exec (.rigPortTransaction t) s = .next u ∧
      (s.mode = .bypass → Joined s w u (ownAddress t)) ∧
      (s.mode = .engaged → layoutGood s.layout →
        (∀ data, t.op = .write data → within t.addr s.layout.capture (2 ^ 30) ∨ within t.addr s.layout.ring (2 ^ 15) ∨
            within t.addr s.layout.review (2 ^ 28) → Joined s w u (.answered .writeDone)) ∧
        (∀ size, t.op = .read size → within t.addr s.layout.capture (2 ^ 30) →
          Joined s w u (.answered (.readData (List.replicate size 0xFF)))) ∧
        (∀ size, t.op = .read size → within t.addr s.layout.ring (2 ^ 15) ∨ within t.addr s.layout.marker (2 ^ 16) →
          Joined s w u (ownAddress t)) ∧
        (∀ data, t.op = .write data → data.length ≠ 64 → within t.addr s.layout.marker (2 ^ 16) →
          Joined s w u (ownAddress t)) ∧
        (¬within t.addr s.layout.lane (2 ^ 27) → ¬within t.addr s.layout.review (2 ^ 28) →
          ¬within t.addr s.layout.capture (2 ^ 30) → ¬within t.addr s.layout.marker (2 ^ 16) →
          ¬within t.addr s.layout.ring (2 ^ 15) → Joined s w u (ownAddress t)))

/-- The watch units that a transaction hits (R173), and what the hits do (R174): each unit hit counts, captures and, with ONE_SHOT,
goes OFF; the others stay; the notices come in ascending unit number, the Notice Writer waiting from the first on; each enabled lane
that a unit hit holds gains WATCH among its pause reasons; nothing else changes. -/
def Obligations.WatchHitsCountCaptureAndAct : Prop :=
  ∀ (t : RigTxn) (s : State),
    (∀ v, v ∈ s.watchHits t ↔ unitHit s t v) ∧ (s.watchHits t).Pairwise (· < ·) ∧
    ((∀ v, ¬unitHit s t v) → s.watch t = s) ∧
    ∃ u, s.watch t = u ∧
      u = { s with
            watches := u.watches, lanes := u.lanes
            notices := (hitReports s t).foldl NoticeWriter.create s.notices
            arbiter := arbiterAfter s.arbiter (hitReports s t) } ∧
      (∀ v : Fin 4, (unitHit s t v → u.watches[v] = unitAfterHit s.watches[v] t) ∧
        (¬unitHit s t v → u.watches[v] = s.watches[v])) ∧
      ∀ n, u.lane n = { s.lane n with pauseWatch := (u.lane n).pauseWatch } ∧
        ((u.lane n).pauseWatch = true ↔ (s.lane n).pauseWatch = true ∨ ((s.lane n).state ≠ .disabled ∧
          ∃ v : Fin 4, unitHit s t v ∧ s.watches[v].hold = true ∧ s.watches[v].holdLane = n))

/-- Lane writes that are not taken in order (R69–R72, R74, R75): dropped by a DISABLED lane, strays, FOREIGN, FORM, truncated,
rewrites and gaps; each changes only what its rule names, and only a rewrite is forwarded, to its translated address. -/
def Obligations.LaneWriteChecksDecideTheWrite : Prop :=
  ∀ (t : RigTxn) (s w : State) (n : Fin 8) (off : Nat) (data : List Byte), RigTaken s t → PortsSound s →
    w = s.takeEvent.watch t → ReachesLane s t n off → t.op = .write data →
    ∃ u, exec (.rigPortTransaction t) s = .next u ∧
      ((w.lane n).state = .disabled → Joined s w u (.answered .writeDone)) ∧
      ((w.lane n).state = .armed ∨ (w.lane n).state = .waiting →
        ((w.lane n).stray = true → Joined s w u (.answered .writeDone)) ∧
        ((w.lane n).stray = false → Joined s ((w.setLane n { w.lane n with stray := true }).post
          { Report.blank .strayData with lane := some n, source := some t.source }) u (.answered .writeDone))) ∧
      ∀ k x, recordsTake w n k → x = w.takeAt k →
        (t.source ≠ (w.lane n).cfg.dataSource →
          Joined s (w.setTake k { x with flags := x.flags ||| Flag.foreign.set }) u (.answered .writeDone)) ∧
        (t.source = (w.lane n).cfg.dataSource → data.length ≠ 64 →
          Joined s (w.setTake k { x with flags := x.flags ||| Flag.form.set }) u (.answered .writeDone)) ∧
        (t.source = (w.lane n).cfg.dataSource → data.length = 64 → x.flags &&& Flag.truncated.set ≠ 0 →
          Joined s (w.setLane n (laneTouched (w.lane n))) u (.answered .writeDone)) ∧
        (t.source = (w.lane n).cfg.dataSource → data.length = 64 → x.flags &&& Flag.truncated.set = 0 →
          off < (w.lane n).nextOffset →
          Joined s ((w.setLane n (laneTouched (w.lane n))).setTake k
              { x with flags := x.flags ||| Flag.rewrite.set, rewrites := min 65535 (x.rewrites + 1) }) u
            (.stream (.write (chainAddress w x.chain off) data) [])) ∧
        (t.source = (w.lane n).cfg.dataSource → data.length = 64 → x.flags &&& Flag.truncated.set = 0 →
          (w.lane n).nextOffset < off →
          Joined s ((w.setLane n (laneTouched (w.lane n))).setTake k { x with flags := x.flags ||| Flag.gap.set }) u
            (.answered .writeDone))

/-- A lane write in order (R73, R79, R80, R62): with no segment to give, TRUNCATED and dropped; otherwise forwarded to its
translated address, parsed, next offset and written length up by 64; and the take sealed with END_MARKER where its final
block completes in CLOSING. -/
def Obligations.InOrderWriteRecordsTheUnit : Prop :=
  ∀ (t : RigTxn) (s w : State) (n : Fin 8) (k off : Nat) (data : List Byte), RigTaken s t → PortsSound s →
    w = s.takeEvent.watch t → ReachesLane s t n off → t.op = .write data → data.length = 64 → recordsTake w n k →
    t.source = (w.lane n).cfg.dataSource → (w.takeAt k).flags &&& Flag.truncated.set = 0 → off = (w.lane n).nextOffset →
    ∃ u, exec (.rigPortTransaction t) s = .next u ∧
      (off / 262144 = (w.takeAt k).chain.length → (w.takeAt k).remaining = 0 → w.pool.freeCount ≤ w.pool.reserved →
        Joined s ((w.setLane n (laneTouched (w.lane n))).setTake k
          { w.takeAt k with flags := (w.takeAt k).flags ||| Flag.truncated.set }) u (.answered .writeDone)) ∧
      ∀ x chain remaining y, Books s → TubesMatch s → segmentTaken w x k off chain remaining →
        y = unitRecorded w x n k off (parsed w n k chain remaining data) →
        ((∀ q, (parsed w n k chain remaining data).2 = some q → (w.lane n).state = .closing →
            (w.lane n).finalSeq ≠ some q) →
          Joined s y u (.stream (.write (chainAddress w chain off) data) [])) ∧
        (∀ q, (parsed w n k chain remaining data).2 = some q → (w.lane n).state = .closing →
          (w.lane n).finalSeq = some q →
          ∃ z, Joined s z u (.stream (.write (chainAddress w chain off) data) []) ∧
            SealedBy y z n k .endMarker (laneLeft (y.lane n)))

/-- Reads of takes (R93, R132, R133): through a lane, the take it records; through a review window, the take it resolves to;
translated below the written length, blank fill beyond, void fill where there is no take or a FREE or REJECTED one. -/
def Obligations.ReadsOfTakesAreTranslatedOrFilled : Prop :=
  ∀ (t : RigTxn) (s w : State) (size : Nat), RigTaken s t → PortsSound s → w = s.takeEvent.watch t → t.op = .read size →
    ∃ u, exec (.rigPortTransaction t) s = .next u ∧
      (∀ n off, ReachesLane s t n off →
        ((w.lane n).state ≠ .opened → (w.lane n).state ≠ .closing →
          Joined s w u (.answered (.readData (List.replicate size 0xFF)))) ∧
        ∀ k, recordsTake w n k → Joined s w u (readOf w k off size)) ∧
      ∀ v off, ReachesWindow s t v off →
        (∀ k, (s.windows[v] = .take k ∨ ∃ p, s.windows[v] = .follow p ∧ (s.tubeAt p.index).accepted = some k) →
          ((s.takeAt k).state = .free ∨ (s.takeAt k).state = .rejected →
            Joined s w u (.answered (.readData (List.replicate size 0xFF)))) ∧
          ((s.takeAt k).state ≠ .free → (s.takeAt k).state ≠ .rejected → Joined s w u (readOf w k off size))) ∧
        ((s.windows[v] = .unbound ∨ ∃ p, s.windows[v] = .follow p ∧ (s.tubeAt p.index).accepted = none) →
          Joined s w u (.answered (.readData (List.replicate size 0xFF))))

/-- The amendments laid over a read (R139, R140): each byte that an enabled slot of the read's take and unit covers is the
value byte of the lowest-numbered such slot, every other byte the stored one. -/
def Obligations.LowestAmendmentSlotIsLaidOver : Prop :=
  ∀ (s : State) (k off size i : Nat) (stored : List Byte), stored.length = size → off % 64 + size ≤ 64 → i < size →
    (∀ a : Fin 8,
      (s.amendments[a].enabled = true ∧ s.amendments[a].take = k ∧ s.amendments[a].unit = off / 64 ∧
        s.amendments[a].eighth = (off % 64 + i) / 8) →
      (∀ b : Fin 8, b < a → ¬(s.amendments[b].enabled = true ∧ s.amendments[b].take = k ∧
        s.amendments[b].unit = off / 64 ∧ s.amendments[b].eighth = (off % 64 + i) / 8)) →
      (applyOverlay (s.overlay k off size) stored)[i]? =
        some (s.amendments[a].value.extractLsb' (8 * ((off % 64 + i) % 8)) 8)) ∧
    ((∀ a : Fin 8, ¬(s.amendments[a].enabled = true ∧ s.amendments[a].take = k ∧ s.amendments[a].unit = off / 64 ∧
        s.amendments[a].eighth = (off % 64 + i) / 8)) →
      (applyOverlay (s.overlay k off size) stored)[i]? = stored[i]?)

/-! ## The store port -/

/-- A grant goes by the counts (R155, R156): nothing where none is ready; to the forwarded stream's first transaction, with
each waiting requester's count up by one; or to the Map Loader, which reads its next unit. The model's forms: a grant with
nothing ready is not taken (log 2), the stream stands in the in-flight list (log 17), the unit is found by the count applied
(log 22). -/
def Obligations.GrantsGoInTurn : Prop :=
  ∀ s : State, s.pins.powerReset = false →
    (¬streamWaits s → s.arbiter.notice = none → s.arbiter.loader = none →
      exec .storePortGrant s = .next { s with out := Outputs.none }) ∧
    (∀ before after a o, streamTurn s → s.inFlight = before ++ .stream a o :: after →
      (∀ f ∈ before, ∀ b q, f ≠ .stream b q) →
      ∃ t, exec .storePortGrant s = .next t ∧
        t = { s with
              inFlight := t.inFlight
              issued := s.issued ++ (match a with
                | .read _ _ => [.rig]
                | .write _ _ => [])
              arbiter := { notice := s.arbiter.notice.map (· + 1), loader := s.arbiter.loader.map (· + 1) }
              out := t.out } ∧
        t.out.access = some a ∧
        Answers (before ++ (match a with
          | .read addr size => .awaiting addr size o
          | .write _ _ => .answered .writeDone) :: after) t) ∧
    (loaderTurn s → exec .storePortGrant s = .next { s with
      loader := { s.loader with read := .live }
      issued := s.issued ++ [.loader]
      arbiter := { s.arbiter with loader := none }
      out := { Outputs.none with
        access := some (.read (BitVec.ofNat 40 (s.loader.base.toNat + 8 * s.loader.applied)) 64), taken := true } })

/-- Notices (R160–R163): a notice created is given the next running number and queued, or discarded where 16 are queued; at a
grant to the Notice Writer the head is written to its ring slot, the index goes on, and a kind in the enables sets the attention flag.
The 32 bytes written are the notice's fields in the places and encodings of R187. -/
def Obligations.NoticesAreQueuedAndWritten : Prop :=
  NoticeCodes ∧ (∀ n : Notice, n.bytes.length = 32 ∧ Shows n.bytes (noticeFields n)) ∧
  (∀ (s : State) (r : Report), ∃ t, s.post r = t ∧ t = { s with notices := t.notices, arbiter := t.arbiter } ∧
    t.notices = { s.notices with
      queue := if s.notices.queue.length < 16 then s.notices.queue ++ [{ number := s.notices.nextNumber, report := r }]
        else s.notices.queue
      nextNumber := if s.notices.nextNumber = 2 ^ 32 - 1 then 1 else s.notices.nextNumber + 1 } ∧
    t.arbiter.loader = s.arbiter.loader ∧ (s.arbiter.notice ≠ none → t.arbiter = s.arbiter) ∧
    (s.arbiter.notice = none → t.arbiter.notice = some 0)) ∧
  ∀ (s : State) (n : Notice) (rest : List Notice), s.pins.powerReset = false → noticeTurn s → s.notices.queue = n :: rest →
    s.notices.writeIndex < 1024 →
    exec .storePortGrant s = .next { s with
      notices := { s.notices with
        queue := rest
        writeIndex := (s.notices.writeIndex + 1) % 1024
        attention := s.notices.attention || s.notices.enables.getLsbD (n.report.kind.code - 1) }
      arbiter := { s.arbiter with notice := if rest = [] then none else some 0 }
      out := { Outputs.none with
        access := some (.write (BitVec.ofNat 40 (s.layout.ring.toNat / 32768 * 32768 + 32 * s.notices.writeIndex)) n.bytes)
        taken := true } }

/-- A return of read data for the rig port (R144, R143): it completes the oldest read that waits, with the unit's own bytes
under its amendments, or with void fill and none on an error; complete transactions at the head are answered in order. The
data is the command's operand (log 6), and a return with no read issued is not taken (log 2). -/
def Obligations.ReadDataCompletesOldestRead : Prop :=
  ∀ (r : ReadReturn) (s : State), s.pins.powerReset = false →
    (s.issued = [] → exec (.storePortReadReturn r) s = .next { s with out := Outputs.none }) ∧
    ∀ rest before after addr size o, s.issued = .rig :: rest → s.inFlight = before ++ .awaiting addr size o :: after →
      (∀ f ∈ before, f.waits = false) → addr.toNat % 64 + size ≤ 64 → o.length = size →
      ∃ t data, exec (.storePortReadReturn r) s = .next t ∧
        t = { s with issued := rest, inFlight := t.inFlight, out := t.out } ∧ t.out.access = none ∧
        Answers (before ++ .answered (.readData data) :: after) t ∧ data.length = size ∧
        (r = .error → data = List.replicate size 0xFF) ∧
        ∀ unit i, r = .data unit → i < size →
          data[i]? = (match o[i]? with
            | some (some b) => some b
            | _ => unit.toList[addr.toNat % 64 + i]?)

/-! ## Markers -/

/-- An invalid marker posts MARKER_INVALID with the first cause that applies and has no other effect, and is forwarded (R116–R122,
R125). -/
def Obligations.InvalidMarkerOnlyPosts : Prop :=
  ∀ (t : RigTxn) (s w : State) (unit : Nat) (bs : List Byte), RigTaken s t → PortsSound s → w = s.takeEvent.watch t →
    WritesMarker s t unit bs →
    ∃ u, exec (.rigPortTransaction t) s = .next u ∧
      ((∀ kind, ¬markerOf bs kind) → Joined s (w.post (invalidReport t none .badCheck unit)) u (ownAddress t)) ∧
      (∀ kind, markerOf bs kind → (kind < 1 ∨ 5 < kind) →
        Joined s (w.post (invalidReport t none .badKind unit)) u (ownAddress t)) ∧
      (∀ kind, markerOf bs kind → 1 ≤ kind → kind ≤ 5 →
        ((kind ≤ 3 ∧ 7 < (byteAt bs 1).toNat) ∨ (kind ≠ 3 ∧ (127 < (byteAt bs 2).toNat ∨ 127 < (byteAt bs 3).toNat)) ∨
          (kind = 1 ∧ 1 < (byteAt bs 4).toNat)) →
        Joined s (w.post (invalidReport t none .badField unit)) u (ownAddress t)) ∧
      (∀ kind, ∀ n : Fin 8, markerOf bs kind → 1 ≤ kind → kind ≤ 3 → (byteAt bs 1).toNat = n.val →
        (kind = 3 ∨ ∃ p, markerAt bs p) → (kind = 1 → (byteAt bs 4).toNat ≤ 1) →
        t.source ≠ (w.lane n).cfg.markerSource →
        Joined s (w.post (invalidReport t (some n) .foreign unit)) u (ownAddress t)) ∧
      (∀ kind p, markerOf bs kind → (kind = 4 ∨ kind = 5) → markerAt bs p → w.plugSet.getLsbD t.source.toNat = false →
        Joined s (w.post (invalidReport t none .foreign unit)) u (ownAddress t))

/-- PLUG and UNPLUG from a source of the plug authority set (R14, R124): MAP_LOADING while a load runs, TUBE_IN_TEST for a tube with
a claim; otherwise the plug state is set and nothing else changes. -/
def Obligations.PlugMarkersSetPlugState : Prop :=
  ∀ (t : RigTxn) (s w : State) (unit : Nat) (bs : List Byte) (kind : Nat) (p : TubePos), RigTaken s t → PortsSound s →
    w = s.takeEvent.watch t → WritesMarker s t unit bs → markerOf bs kind → (kind = 4 ∨ kind = 5) → markerAt bs p →
    w.plugSet.getLsbD t.source.toNat = true →
    ∃ u, exec (.rigPortTransaction t) s = .next u ∧
      (w.loader.running = true → Joined s (w.post (invalidReport t none .mapLoading unit)) u (ownAddress t)) ∧
      (w.loader.running = false → (w.tubeAt p.index).claim ≠ none →
        Joined s (w.post (invalidReport t none .tubeInTest unit)) u (ownAddress t)) ∧
      (w.loader.running = false → (w.tubeAt p.index).claim = none →
        Joined s (w.setTube p.index { w.tubeAt p.index with plug := if kind = 4 then .plugged else .unplugged }) u
          (ownAddress t))

/-- A TUBE_START in ARMED that passes its checks, with an empty queue, unreserved at least R and a slot to give, opens a take (R53–R55,
R26, R4, R78). -/
def Obligations.TubeStartOpensTake : Prop :=
  ∀ (t : RigTxn) (s w : State) (unit : Nat) (bs : List Byte) (n : Fin 8) (p : TubePos) (d : Direction) (k : Nat),
    RigTaken s t → PortsSound s → w = s.takeEvent.watch t → WritesMarker s t unit bs → Books s →
    laneMarker w t bs 1 n → markerAt bs p → (byteAt bs 4).toNat = d.code → (w.lane n).state = .armed →
    startRefusal w n p = none → w.pool.queue = [] → (w.lane n).cfg.reservation ≤ w.pool.freeCount - w.pool.reserved →
    opensAt w k →
    ∃ u x, exec (.rigPortTransaction t) s = .next u ∧ Joined s x u (ownAddress t) ∧
      x = { latchFallen { w with pool := { w.pool with reserved := w.pool.reserved + (w.lane n).cfg.reservation } } with
            takes := x.takes, tubes := x.tubes, lanes := x.lanes, serialCounter := w.serialCounter + 1 } ∧
      x.takeAt k = takeOpened w.serialCounter n p d (w.lane n).cfg.reservation ∧
      (∀ j, j ≠ k → x.takeAt j = w.takeAt j) ∧
      x.tubeAt p.index = { tubeOpened (w.tubeAt p.index) k with claim := some n } ∧
      (∀ i, i ≠ p.index → x.tubeAt i = w.tubeAt i) ∧
      x.lane n = laneOpened (w.lane n) k ∧ ∀ m, m ≠ n → x.lane m = w.lane m

/-- A TUBE_START that opens nothing (R52–R54): invalid in DISABLED; START_REFUSED with LANE_STATE in OPEN and CLOSING, with the first
failing start check in ARMED and WAITING, with TABLE_FULL in ARMED where no slot is given; each changes nothing else. -/
def Obligations.TubeStartRefusedChangesNothing : Prop :=
  ∀ (t : RigTxn) (s w : State) (unit : Nat) (bs : List Byte) (n : Fin 8) (p : TubePos) (d : Direction),
    RigTaken s t → PortsSound s → w = s.takeEvent.watch t → WritesMarker s t unit bs → Books s →
    laneMarker w t bs 1 n → markerAt bs p → (byteAt bs 4).toNat = d.code →
    ∃ u, exec (.rigPortTransaction t) s = .next u ∧
      ((w.lane n).state = .disabled → Joined s (w.post (invalidReport t (some n) .laneDisabled unit)) u (ownAddress t)) ∧
      ((w.lane n).state = .opened ∨ (w.lane n).state = .closing →
        Joined s (w.post (refusedReport n p .laneState)) u (ownAddress t)) ∧
      (∀ c, (w.lane n).state = .armed ∨ (w.lane n).state = .waiting → startRefusal w n p = some c →
        Joined s (w.post (refusedReport n p c)) u (ownAddress t)) ∧
      ((w.lane n).state = .armed → startRefusal w n p = none → (w.tubeAt p.index).claim = none → w.pool.queue = [] →
        (w.lane n).cfg.reservation ≤ w.pool.freeCount - w.pool.reserved → (¬∃ k, opensAt w k) →
        ∃ x, Joined s x u (ownAddress t) ∧ x = { w.post (refusedReport n p .tableFull) with tubes := x.tubes } ∧
          ∀ i, x.tubeAt i = w.tubeAt i)

/-- A TUBE_START that waits (R54, R83, R56): deferred from ARMED, it claims its tube, the lane joins the queue's tail and becomes
WAITING, and START_DEFERRED is posted; in WAITING it replaces the held start, the place in the queue and the timer kept. -/
def Obligations.TubeStartDefersOrReplaces : Prop :=
  ∀ (t : RigTxn) (s w : State) (unit : Nat) (bs : List Byte) (n : Fin 8) (p : TubePos) (d : Direction),
    RigTaken s t → PortsSound s → w = s.takeEvent.watch t → WritesMarker s t unit bs → Books s →
    laneMarker w t bs 1 n → markerAt bs p → (byteAt bs 4).toNat = d.code → startRefusal w n p = none →
    ∃ u, exec (.rigPortTransaction t) s = .next u ∧
      ((w.lane n).state = .armed →
        (w.pool.queue ≠ [] ∨ w.pool.freeCount - w.pool.reserved < (w.lane n).cfg.reservation) →
        Joined s ((({ w with pool := { w.pool with queue := w.pool.queue ++ [n] } }.setTube p.index
            { w.tubeAt p.index with claim := some n }).setLane n { w.lane n with
              state := .waiting, held := some (p, d), pauseAdmission := true
              admission := if (w.lane n).cfg.admission = 0 then none else some 0 }).post
            { Report.blank .startDeferred with
              lane := some n, tube := some p, value := w.pool.freeCount - w.pool.reserved }) u (ownAddress t)) ∧
      ∀ q e, (w.lane n).state = .waiting → (w.lane n).held = some (q, e) →
        ∃ x, Joined s x u (ownAddress t) ∧
          x = { (w.setLane n { w.lane n with held := some (p, d) }).post (refusedReport n q .replaced) with tubes := x.tubes } ∧
          x.tubeAt p.index = { w.tubeAt p.index with claim := some n } ∧
          (q.index ≠ p.index → x.tubeAt q.index = { w.tubeAt q.index with claim := none }) ∧
          ∀ i, i ≠ p.index → i ≠ q.index → x.tubeAt i = w.tubeAt i

/-- A TUBE_END by the lane's state (R58–R60): invalid in DISABLED, in ARMED, for another tube, and in CLOSING with a final sequence; it
cancels a held start; with the block of the final sequence completed last it seals the take with END_MARKER; otherwise the take is
CLOSING with that final sequence and the drain timer started. That a cancelled start's START_REFUSED comes before a POOL_LOW of the
admission check after it is the model's choice (log 29). -/
def Obligations.TubeEndClosesTake : Prop :=
  ∀ (t : RigTxn) (s w : State) (unit : Nat) (bs : List Byte) (n : Fin 8) (p : TubePos),
    RigTaken s t → PortsSound s → w = s.takeEvent.watch t → WritesMarker s t unit bs → Books s → TubesMatch s →
    laneMarker w t bs 2 n → markerAt bs p →
    ∃ u, exec (.rigPortTransaction t) s = .next u ∧
      ((w.lane n).state = .disabled → Joined s (w.post (invalidReport t (some n) .laneDisabled unit)) u (ownAddress t)) ∧
      ((w.lane n).state = .armed → Joined s (w.post (invalidReport t (some n) .noTake unit)) u (ownAddress t)) ∧
      (∀ q d, (w.lane n).state = .waiting → (w.lane n).held = some (q, d) →
        (q ≠ p → Joined s (w.post (invalidReport t (some n) .tubeMismatch unit)) u (ownAddress t)) ∧
        (q = p → Joined s (heldRefused w n p .cancelled).admissionCheck u (ownAddress t))) ∧
      ∀ k, recordsTake w n k →
        ((w.takeAt k).tube ≠ some p →
          Joined s (w.post (invalidReport t (some n) .tubeMismatch unit)) u (ownAddress t)) ∧
        ((w.takeAt k).tube = some p → (w.lane n).finalSeq ≠ none → (w.lane n).state = .closing →
          Joined s (w.post (invalidReport t (some n) .duplicateEnd unit)) u (ownAddress t)) ∧
        ((w.takeAt k).tube = some p → (w.lane n).finalSeq = none → (w.lane n).lastSeq = some (markerFinal bs) →
          ∃ x, Joined s x u (ownAddress t) ∧ SealedBy w x n k .endMarker (laneLeft (w.lane n))) ∧
        ((w.takeAt k).tube = some p → (w.lane n).finalSeq = none → (w.lane n).lastSeq ≠ some (markerFinal bs) →
          Joined s ((w.setTake k { w.takeAt k with state := .closing }).setLane n { w.lane n with
            state := .closing, finalSeq := some (markerFinal bs), idle := none
            drain := if (w.lane n).cfg.drain = 0 then none else some 0 }) u (ownAddress t))

/-- An ABANDON by the lane's state (R61): invalid in DISABLED and ARMED; it cancels a held start; it seals a recording take with
ABANDON, whatever its tube position. That a cancelled start's START_REFUSED comes before a POOL_LOW of the admission check after it is
the model's choice (log 29). -/
def Obligations.AbandonSealsOrCancels : Prop :=
  ∀ (t : RigTxn) (s w : State) (unit : Nat) (bs : List Byte) (n : Fin 8),
    RigTaken s t → PortsSound s → w = s.takeEvent.watch t → WritesMarker s t unit bs → Books s → TubesMatch s →
    laneMarker w t bs 3 n →
    ∃ u, exec (.rigPortTransaction t) s = .next u ∧
      ((w.lane n).state = .disabled → Joined s (w.post (invalidReport t (some n) .laneDisabled unit)) u (ownAddress t)) ∧
      ((w.lane n).state = .armed → Joined s (w.post (invalidReport t (some n) .noTake unit)) u (ownAddress t)) ∧
      (∀ q d, (w.lane n).state = .waiting → (w.lane n).held = some (q, d) →
        Joined s (heldRefused w n q .cancelled).admissionCheck u (ownAddress t)) ∧
      ∀ k, recordsTake w n k →
        ∃ x, Joined s x u (ownAddress t) ∧ SealedBy w x n k .abandon (laneLeft (w.lane n))

/-! ## Parsing -/

/-- One unit at the Block Parser (R98–R106, R113): a bad header adds FORM and hunts, once for each hunt; a valid one accounts its
sequence, adds its flags, sets the axial record and begins its block; a block's unit brings its units remaining down by one, and at 0 the block
completes, is counted and its sequence reported. In either case the samples whose detector pairs lie in the unit are examined (R107), and the
detector, the landmarks and the next sample index are what they leave. -/
def Obligations.ParserTakesUnitsAndCompletesBlocks : Prop :=
  ∀ (cfg : LaneConfig) (w : Work) (bs : List Byte) (c : Nat), c = cfg.channels →
    (¬headerValid bs c → w.track.parser = .atHeader → w.takeUnit cfg bs =
      ({ track := { w.track with parser := .hunt }, take := { w.take with flags := w.take.flags ||| Flag.form.set } }, none)) ∧
    (¬headerValid bs c → w.track.parser = .hunt → w.takeUnit cfg bs = (w, none)) ∧
    (∀ q size units, headerValid bs c → (w.track.parser = .atHeader ∨ w.track.parser = .hunt) →
      q = BitVec.ofNat 16 (leField bs 2 2) → size = leField bs 4 2 → units = (16 + size * c * 4 + 63) / 64 →
      ∃ r : Work, ∃ b : Block, r = (w.takeUnit cfg bs).1 ∧
        b = { seq := q, count := size, first := headerFirst bs, last := headerLast bs, remaining := units - 1
              nextSample := nextSampleAfter cfg { b with nextSample := 0 } 0 } ∧
        SameLandmarks r (examined cfg w { b with nextSample := 0 } 0 bs) ∧
        r.track = { r.track with expected := some (q + 1), prevAxial := some (headerLast bs) } ∧
        r.take = { w.take with
          flags := w.take.flags ||| headerAdds cfg w bs
          missing := (match w.track.expected with
            | some e => if q = e then w.take.missing else min 65535 (w.take.missing + (q - e).toNat)
            | none => w.take.missing)
          axialFirst := some (w.take.axialFirst.getD (headerFirst bs)), axialLast := some (headerLast bs)
          landmarks := r.take.landmarks, landmarkList := r.take.landmarkList
          blocks := if units = 1 then min 65535 (w.take.blocks + 1) else w.take.blocks
          samples := if units = 1 then min (2 ^ 32 - 1) (w.take.samples + size) else w.take.samples } ∧
        r.track.parser = (if units = 1 then .atHeader else .inBlock b) ∧
        (w.takeUnit cfg bs).2 = if units = 1 then some q else none) ∧
    ∀ b, w.track.parser = .inBlock b → ∃ r : Work, ∃ e : Block, r = (w.takeUnit cfg bs).1 ∧
      e = { b with
            remaining := b.remaining - 1
            nextSample := nextSampleAfter cfg b ((16 + b.count * c * 4 + 63) / 64 - b.remaining) } ∧
      SameLandmarks r (examined cfg w b ((16 + b.count * c * 4 + 63) / 64 - b.remaining) bs) ∧
      r.track = { w.track with
        parser := if b.remaining ≤ 1 then .atHeader else .inBlock e
        detector := r.track.detector, lastLandmark := r.track.lastLandmark } ∧
      r.take = { w.take with
        landmarks := r.take.landmarks, landmarkList := r.take.landmarkList
        blocks := if b.remaining ≤ 1 then min 65535 (w.take.blocks + 1) else w.take.blocks
        samples := if b.remaining ≤ 1 then min (2 ^ 32 - 1) (w.take.samples + b.count) else w.take.samples } ∧
      (w.takeUnit cfg bs).2 = if b.remaining ≤ 1 then some b.seq else none

/-- The detector (R110–R112): a rise to the threshold in BELOW goes ABOVE and counts a landmark where the last one is absent or far
enough away; a fall to the release level in ABOVE goes BELOW; any other sample changes nothing. The samples examined in unit u of a
block are, in order, those from the next sample index on whose detector pairs lie in it (R107); sample i lies at axial first, plus
its share of the way to axial last truncated toward zero (R108); a magnitude is |X| + |Y| of the signed pair (R109). -/
def Obligations.DetectorCountsCrossingsAsLandmarks : Prop :=
  (∀ (cfg : LaneConfig) (b : Block) (u : Nat), (samplesIn cfg b u).Pairwise (· < ·) ∧
    ∀ i, i ∈ samplesIn cfg b u ↔
      b.nextSample ≤ i ∧ i < b.count ∧ 64 * u ≤ pairAt cfg i ∧ pairAt cfg i + 4 ≤ 64 * u + 64) ∧
  (∀ (b : Block) (i : Nat), (b.count = 1 → samplePosition b i = b.first) ∧
    (2 ≤ b.count → ∃ q : Int, samplePosition b i = b.first + q ∧
      q.natAbs = ((b.last - b.first) * i).natAbs / (b.count - 1) ∧
      (0 ≤ (b.last - b.first) * i → 0 ≤ q) ∧ ((b.last - b.first) * i ≤ 0 → q ≤ 0))) ∧
  (∀ (bs : List Byte) (off : Nat), magnitude bs off ≤ 65536 ∧ ∀ x y : BitVec 16,
    x = BitVec.ofNat 16 (leField bs off 2) → y = BitVec.ofNat 16 (leField bs (off + 2) 2) →
    magnitude bs off = x.toInt.natAbs + y.toInt.natAbs) ∧
  ∀ (cfg : LaneConfig) (w : Work) (mag : Nat) (x : Int),
    (w.track.detector = .below → mag < cfg.threshold → w.detect cfg mag x = w) ∧
    (w.track.detector = .below → cfg.threshold ≤ mag →
      (∃ l, w.track.lastLandmark = some l ∧ (x - l).natAbs < cfg.landmarkSpacing) →
      w.detect cfg mag x = { w with track := { w.track with detector := .above } }) ∧
    (w.track.detector = .below → cfg.threshold ≤ mag →
      (∀ l, w.track.lastLandmark = some l → cfg.landmarkSpacing ≤ (x - l).natAbs) →
      w.detect cfg mag x =
        { track := { w.track with detector := .above, lastLandmark := some x }
          take := { w.take with
            landmarks := min 65535 (w.take.landmarks + 1)
            landmarkList := if w.take.landmarkList.length < 48 then w.take.landmarkList ++ [x] else w.take.landmarkList } }) ∧
    (w.track.detector = .above → mag ≤ cfg.release →
      w.detect cfg mag x = { w with track := { w.track with detector := .below } }) ∧
    (w.track.detector = .above → cfg.release < mag → w.detect cfg mag x = w)

/-! ## Lines and timers -/

/-- A sample of an enabled lane (R168, R64): the home state follows two samples that agree, and a change to HOME takes an OPEN
take into CLOSING with no final sequence and the drain timer started. The start of a drive phase (R167): the line is driven
low for the phase exactly where the lane has a pause reason; in the sense window the driver of an enabled lane's line is off. The
time events of a lane are taken in the order in which the clock brings them (R166); where none has come, an event presented finds
the clock run on to the next instant that brings the lane one, and an event that is not the next is not taken: the model's choices
(logs 2 and 4). A DISABLED lane takes no time event (R168, R169). -/
def Obligations.SampleAndDriveFollowLineAndPauses : Prop :=
  (∀ (n : Fin 8) (level : Level) (s b : State) (x h : Home), canCome s n .sample →
    x = (if level = .low then .home else .away) →
    h = (if (s.laneLine n).prev = some x then x else (s.lane n).home) →
    b = s.takeEvent.setLaneLine n { s.laneLine n with prev := some x, due := (s.laneLine n).due.tail } →
    (¬((s.lane n).home = .away ∧ h = .home ∧ (s.lane n).state = .opened) →
      exec (.senseWindowSample n level) s = .next (b.setLane n { s.lane n with home := h })) ∧
    ∀ k, (s.lane n).home = .away → h = .home → (s.lane n).state = .opened → (s.lane n).current = some k →
      exec (.senseWindowSample n level) s = .next ((b.setTake k { s.takeAt k with state := .closing }).setLane n
        { s.lane n with
          home := .home, state := .closing, finalSeq := none, idle := none
          drain := if (s.lane n).cfg.drain = 0 then none else some 0 })) ∧
  (∀ (n : Fin 8) (s : State), canCome s n .driveStart → ∃ t, exec (.drivePhaseStart n) s = .next t ∧
    t = s.takeEvent.setLaneLine n { s.laneLine n with
      driveLow := (s.lane n).pauseAdmission || (s.lane n).pauseWatch, due := (s.laneLine n).due.tail } ∧
    ∀ i : Fin 12, i.val = n.val → t.lineDriver i =
      if ((s.lane n).pauseAdmission = true ∨ (s.lane n).pauseWatch = true) ∧ (s.laneLine n).due = [.driveStart] ∧
          s.timebase.window ≤ s.timebase.tick then some .low else none) ∧
  (∀ (n : Fin 8) (i : Fin 12) (s : State), i.val = n.val → (s.lane n).state ≠ .disabled →
    s.timebase.tick < s.timebase.window → s.lineDriver i = none) ∧
  (∀ (n : Fin 8) (s : State), s.pins.powerReset = false → (s.lane n).state ≠ .disabled → (s.laneLine n).due = [] →
    TimebaseInRange s → ∃ m u, u = cyclesOn m s ∧ (u.laneLine n).due ≠ [] ∧
      (∀ j < m, ((cyclesOn j s).laneLine n).due = []) ∧
      ∀ c, timeCommand n c → ∃ t, exec c u = .next t ∧
        exec c s = .next (if t.out.taken = true then t else { s with out := Outputs.none })) ∧
  (∀ (n : Fin 8) (level : Level) (s : State) (e : LineEvent), canCome s n e →
    (e ≠ .sample → exec (.senseWindowSample n level) s = .next { s with out := Outputs.none }) ∧
    (e ≠ .driveStart → exec (.drivePhaseStart n) s = .next { s with out := Outputs.none }) ∧
    (e ≠ .periodEnd → ∀ c ∈ [Instr.periodEnd n, .idleTimerExpiry n, .drainTimerExpiry n, .admissionTimerExpiry n],
      exec c s = .next { s with out := Outputs.none })) ∧
  ∀ (n : Fin 8) (level : Level) (s : State), (s.lane n).state = .disabled →
    exec (.senseWindowSample n level) s = .next { s with out := Outputs.none } ∧
    exec (.drivePhaseStart n) s = .next { s with out := Outputs.none } ∧
    exec (.periodEnd n) s = .next { s with out := Outputs.none } ∧
    exec (.idleTimerExpiry n) s = .next { s with out := Outputs.none } ∧
    exec (.drainTimerExpiry n) s = .next { s with out := Outputs.none } ∧
    exec (.admissionTimerExpiry n) s = .next { s with out := Outputs.none }

/-- A period end of an enabled lane at which no timer reaches its timeout (R65, R169): each running timer's count rises by
one, and the line's driver is off (R167). How many cycles pass before it is taken is the model's choice (log 4). -/
def Obligations.PeriodEndAdvancesTimers : Prop :=
  ∀ (n : Fin 8) (s : State), canCome s n .periodEnd →
    (∀ c, (s.lane n).idle = some c → c + 1 < (s.lane n).cfg.idle) →
    (∀ c, (s.lane n).drain = some c → c + 1 < (s.lane n).cfg.drain) →
    (∀ c, (s.lane n).admission = some c → c + 1 < (s.lane n).cfg.admission) →
    exec (.periodEnd n) s = .next ((s.takeEvent.setLaneLine n { s.laneLine n with
      driveLow := false, due := (s.laneLine n).due.tail }).setLane n { s.lane n with
        idle := (s.lane n).idle.map (· + 1), drain := (s.lane n).drain.map (· + 1)
        admission := (s.lane n).admission.map (· + 1) })

/-- The expiries (R66–R68), each the period end that brings a timer's count to its timeout (log 5), where the period end is the
lane's next time event (log 4): the idle timer seals with
IDLE_TIMEOUT, the drain timer with DRAIN_TIMEOUT or, with no final sequence, HOME_SENSE, and the admission timer refuses the held start with
ADMISSION_TIMEOUT, with an admission check. That this START_REFUSED comes before a POOL_LOW of that check is the model's choice (log
29). -/
def Obligations.TimerExpiriesSealOrRefuse : Prop :=
  ∀ (n : Fin 8) (s b : State) (e : Instr), canCome s n .periodEnd → Books s → TubesMatch s →
    b = s.takeEvent.setLaneLine n { s.laneLine n with driveLow := false, due := (s.laneLine n).due.tail } →
    (∀ k c, (e = .periodEnd n ∨ e = .idleTimerExpiry n) → recordsTake s n k → (s.lane n).idle = some c →
      c + 1 = (s.lane n).cfg.idle →
      ∃ t, exec e s = .next t ∧ SealedBy b t n k .idleTimeout (laneLeft (s.lane n))) ∧
    (∀ k c, (e = .periodEnd n ∨ e = .drainTimerExpiry n) → recordsTake s n k → (s.lane n).drain = some c →
      c + 1 = (s.lane n).cfg.drain →
      ∃ t, exec e s = .next t ∧
        SealedBy b t n k (if (s.lane n).finalSeq = none then .homeSense else .drainTimeout) (laneLeft (s.lane n))) ∧
    ∀ p d c, (e = .periodEnd n ∨ e = .admissionTimerExpiry n) → (s.lane n).held = some (p, d) →
      (s.lane n).admission = some c → c + 1 = (s.lane n).cfg.admission →
      exec e s = .next (heldRefused b n p .admissionTimeout).admissionCheck

/-! ## Invariants -/

/-- Every invariant below holds right after a power-on reset with any straps, from any state, and so at `State.reset`. That the
event acts in every state (log 18), the pins and the strap of `State.reset` (log 13) and the cycle count of 0 (log 20) are the model's
choices. -/
def Obligations.PowerOnStateIsSound : Prop :=
  (∀ (straps : BitVec 2) (s t : State), exec (.powerOnReset straps) s = .next t →
    Books t ∧ TubesMatch t ∧ SerialsDistinct t ∧ ChainsMatchLengths t ∧ BindingsMatch t ∧ NoticesInRange t ∧ ArbiterSound t ∧
      PortsSound t ∧ LockStopsLoads t ∧ BypassRestsLanes t ∧ EngagedLayoutValid t ∧ FrameSound t ∧ TimebaseInRange t ∧
      ConfigsInRange t ∧ EnabledConfigsConsistent t) ∧
  Books State.reset ∧ TubesMatch State.reset ∧ SerialsDistinct State.reset ∧ ChainsMatchLengths State.reset ∧
    BindingsMatch State.reset ∧ NoticesInRange State.reset ∧ ArbiterSound State.reset ∧ PortsSound State.reset ∧
    LockStopsLoads State.reset ∧ BypassRestsLanes State.reset ∧ EngagedLayoutValid State.reset ∧ FrameSound State.reset ∧
    TimebaseInRange State.reset ∧ ConfigsInRange State.reset ∧ EnabledConfigsConsistent State.reset

/-- The books of lanes, takes, queue and pool stay right at every step (R9, R27, R49, R76, R77, R82, R90). -/
def Obligations.BooksStayRightAtEveryStep : Prop := ∀ s t : State, Books s → step s = .next t → Books t

/-- Claims, status, pending counts and histories of the tubes stay right at every step (R1, R3, R6–R8). -/
def Obligations.TubesMatchAtEveryStep : Prop :=
  ∀ s t : State, Books s → TubesMatch s → step s = .next t → TubesMatch t

/-- Serials stay distinct and below the counter, fixed bindings go on counting the windows, and the chain of every take stays as long as
its data needs, at every step (R25, R130, R27, R79, R80). -/
def Obligations.TakeRecordsStaySoundAtEveryStep : Prop :=
  ∀ s t : State, Books s → step s = .next t →
    (SerialsDistinct s → SerialsDistinct t) ∧ (BindingsMatch s → BindingsMatch t) ∧
    (ChainsMatchLengths s → ChainsMatchLengths t)

/-- The notice ranges, the arbiter's counts and the ports stay sound at every step (R143, R144, R155, R158, R161, R162). -/
def Obligations.PortsAndNoticesStaySoundAtEveryStep : Prop :=
  ∀ s t : State, step s = .next t →
    (NoticesInRange s → NoticesInRange t) ∧ (ArbiterSound s → ArbiterSound t) ∧ (Books s → PortsSound s → PortsSound t)

/-- At every step, no load runs under the lock, an ENGAGED layout stays one that ENGAGE lets pass, the link's frame needs chip
select low, stands in no power-on reset and keeps its reply, the timebase and every lane's configuration stay in their ranges, and in
BYPASS mode every lane stays DISABLED, an enabled lane's configuration agreeing with itself (R17, R46, R48, R150, R151, R165, R175,
R176). -/
def Obligations.ModesAndLockStaySoundAtEveryStep : Prop :=
  ∀ s t : State, step s = .next t →
    (LockStopsLoads s → LockStopsLoads t) ∧ (EngagedLayoutValid s → EngagedLayoutValid t) ∧
    (FrameSound s → FrameSound t) ∧ (TimebaseInRange s → TimebaseInRange t) ∧ (ConfigsInRange s → ConfigsInRange t) ∧
    (Books s → BypassRestsLanes s → BypassRestsLanes t) ∧ (Books s → EnabledConfigsConsistent s → EnabledConfigsConsistent t)

/-- Distinct bytes of stored takes lie at distinct addresses of the capture store (R76, R91). -/
def Obligations.StoredBytesNeverShareAnAddress : Prop :=
  ∀ (s : State) (j k a b : Nat), Books s → layoutGood s.layout → a / 262144 < (s.takeAt j).chain.length →
    b / 262144 < (s.takeAt k).chain.length → (j ≠ k ∨ a ≠ b) →
    s.storeAddress (s.takeAt j).chain a ≠ s.storeAddress (s.takeAt k).chain b ∧
      within (s.storeAddress (s.takeAt j).chain a) s.layout.capture (2 ^ 30)
end

