-- ==== Sys2Proof/Laws/Sparse.lean ====
section
/-! SUPPORT. Lemmas about sparse tables: what a read after a write gives, that every operation keeps the canonical form, that
equal contents are equal tables, and how sums and concatenations over a table follow a write. -/

namespace Sys2Proof.Machine

variable {α : Type} [DecidableEq α] {d : α} {limit lo : Nat} {t : List (Nat × α)}

theorem Sparse.get_of_lt (h : Sparse.wfFrom d limit lo t = true) {i : Nat} (hi : i < lo) : Sparse.get d t i = d := by
  induction t generalizing lo with
  | nil => rfl
  | cons e t ih =>
    obtain ⟨k, v⟩ := e
    simp only [Sparse.wfFrom, Bool.and_eq_true, decide_eq_true_eq] at h
    simp only [Sparse.get]
    rw [if_neg (by omega)]
    exact ih h.2 (by omega)

theorem Sparse.get_of_ge (h : Sparse.wfFrom d limit lo t = true) {i : Nat} (hi : limit ≤ i) : Sparse.get d t i = d := by
  induction t generalizing lo with
  | nil => rfl
  | cons e t ih =>
    obtain ⟨k, v⟩ := e
    simp only [Sparse.wfFrom, Bool.and_eq_true, decide_eq_true_eq] at h
    simp only [Sparse.get]
    rw [if_neg (by omega)]
    exact ih h.2

theorem Sparse.wfFrom_mono {lo' : Nat} (h : Sparse.wfFrom d limit lo t = true) (hl : lo' ≤ lo) :
    Sparse.wfFrom d limit lo' t = true := by
  cases t with
  | nil => rfl
  | cons e t =>
    obtain ⟨k, v⟩ := e
    simp only [Sparse.wfFrom, Bool.and_eq_true, decide_eq_true_eq] at h ⊢
    exact ⟨⟨⟨by omega, h.1.1.2⟩, h.1.2⟩, h.2⟩

theorem Sparse.get_set_ne (t : List (Nat × α)) {i j : Nat} (v : α) (h : j ≠ i) :
    Sparse.get d (Sparse.set d t i v) j = Sparse.get d t j := by
  induction t with
  | nil =>
    simp only [Sparse.set]
    split <;> simp [Sparse.get, h]
  | cons e t ih =>
    obtain ⟨k, w⟩ := e
    simp only [Sparse.set]
    split
    · split
      · rfl
      · simp [Sparse.get, h]
    · split
      · rename_i hik
        subst hik
        split <;> simp [Sparse.get, h]
      · simp only [Sparse.get, ih]

theorem Sparse.get_set_self_from (h : Sparse.wfFrom d limit lo t = true) (i : Nat) (v : α) :
    Sparse.get d (Sparse.set d t i v) i = v := by
  induction t generalizing lo with
  | nil =>
    simp only [Sparse.set]
    split <;> simp_all [Sparse.get]
  | cons e t ih =>
    obtain ⟨k, w⟩ := e
    simp only [Sparse.wfFrom, Bool.and_eq_true, decide_eq_true_eq] at h
    simp only [Sparse.set]
    split
    · rename_i hlt
      split
      · rename_i hv
        simp only [Sparse.get]
        rw [if_neg (by omega), hv]
        exact Sparse.get_of_lt h.2 (by omega)
      · simp [Sparse.get]
    · split
      · rename_i hik
        split
        · rename_i hv
          rw [hv]
          exact Sparse.get_of_lt h.2 (by omega)
        · simp [Sparse.get]
      · rename_i hik
        simp only [Sparse.get]
        rw [if_neg hik]
        exact ih h.2

/-- A read after a write. -/
theorem Sparse.get_set (h : Sparse.wf d limit t = true) (i j : Nat) (v : α) :
    Sparse.get d (Sparse.set d t i v) j = if j = i then v else Sparse.get d t j := by
  split
  · rename_i hji
    subst hji
    exact Sparse.get_set_self_from h _ v
  · rename_i hji
    exact Sparse.get_set_ne t v hji

theorem Sparse.wfFrom_set (h : Sparse.wfFrom d limit lo t = true) {i : Nat} {v : α} (hi : lo ≤ i)
    (hl : i < limit ∨ v = d) : Sparse.wfFrom d limit lo (Sparse.set d t i v) = true := by
  induction t generalizing lo with
  | nil =>
    simp only [Sparse.set]
    split
    · rfl
    · rename_i hv
      simp_all [Sparse.wfFrom]
  | cons e t ih =>
    obtain ⟨k, w⟩ := e
    have hc := h
    simp only [Sparse.wfFrom, Bool.and_eq_true, decide_eq_true_eq] at h
    simp only [Sparse.set]
    split
    · rename_i hlt
      split
      · exact hc
      · rename_i hv
        simp only [Sparse.wfFrom, Bool.and_eq_true, decide_eq_true_eq]
        exact ⟨⟨⟨hi, by omega⟩, hv⟩, ⟨⟨⟨by omega, h.1.1.2⟩, h.1.2⟩, h.2⟩⟩
    · split
      · rename_i hik
        split
        · exact Sparse.wfFrom_mono h.2 (by omega)
        · rename_i hv
          simp only [Sparse.wfFrom, Bool.and_eq_true, decide_eq_true_eq]
          exact ⟨⟨⟨by omega, by omega⟩, hv⟩, by rw [hik]; exact h.2⟩
      · rename_i hlt hik
        simp only [Sparse.wfFrom, Bool.and_eq_true, decide_eq_true_eq]
        exact ⟨⟨⟨h.1.1.1, h.1.1.2⟩, h.1.2⟩, ih h.2 (by omega)⟩

/-- A write keeps the canonical form. -/
theorem Sparse.wf_set (h : Sparse.wf d limit t = true) {i : Nat} {v : α} (hl : i < limit ∨ v = d) :
    Sparse.wf d limit (Sparse.set d t i v) = true := Sparse.wfFrom_set h (by omega) hl

theorem Sparse.wfFrom_mapAll (f : α → α) (h : Sparse.wfFrom d limit lo t = true) :
    Sparse.wfFrom d limit lo (Sparse.mapAll d f t) = true := by
  induction t generalizing lo with
  | nil => rfl
  | cons e t ih =>
    obtain ⟨k, w⟩ := e
    simp only [Sparse.wfFrom, Bool.and_eq_true, decide_eq_true_eq] at h
    simp only [Sparse.mapAll]
    split
    · exact Sparse.wfFrom_mono (ih h.2) (by omega)
    · rename_i hf
      simp only [Sparse.wfFrom, Bool.and_eq_true, decide_eq_true_eq]
      exact ⟨⟨⟨h.1.1.1, h.1.1.2⟩, hf⟩, ih h.2⟩

/-- A change of every record keeps the canonical form. -/
theorem Sparse.wf_mapAll (f : α → α) (h : Sparse.wf d limit t = true) :
    Sparse.wf d limit (Sparse.mapAll d f t) = true := Sparse.wfFrom_mapAll f h

theorem Sparse.get_mapAll_from (f : α → α) (hf : f d = d) (h : Sparse.wfFrom d limit lo t = true) (i : Nat) :
    Sparse.get d (Sparse.mapAll d f t) i = f (Sparse.get d t i) := by
  induction t generalizing lo with
  | nil => simp [Sparse.mapAll, Sparse.get, hf]
  | cons e t ih =>
    obtain ⟨k, w⟩ := e
    simp only [Sparse.wfFrom, Bool.and_eq_true, decide_eq_true_eq] at h
    simp only [Sparse.mapAll]
    split
    · rename_i hw
      simp only [Sparse.get]
      split
      · rename_i hik
        rw [Sparse.get_of_lt (Sparse.wfFrom_mapAll f h.2) (by omega), hw]
      · exact ih h.2
    · simp only [Sparse.get]
      split
      · rfl
      · exact ih h.2

/-- A read after a change of every record. -/
theorem Sparse.get_mapAll (f : α → α) (hf : f d = d) (h : Sparse.wf d limit t = true) (i : Nat) :
    Sparse.get d (Sparse.mapAll d f t) i = f (Sparse.get d t i) := Sparse.get_mapAll_from f hf h i

theorem Sparse.ext_from {u : List (Nat × α)} (ht : Sparse.wfFrom d limit lo t = true)
    (hu : Sparse.wfFrom d limit lo u = true) (h : ∀ i, Sparse.get d t i = Sparse.get d u i) : t = u := by
  induction t generalizing lo u with
  | nil =>
    cases u with
    | nil => rfl
    | cons e u =>
      obtain ⟨k, w⟩ := e
      simp only [Sparse.wfFrom, Bool.and_eq_true, decide_eq_true_eq] at hu
      have := h k
      simp only [Sparse.get, if_true] at this
      exact absurd this.symm hu.1.2
  | cons e t ih =>
    obtain ⟨k, v⟩ := e
    have ht' := ht
    simp only [Sparse.wfFrom, Bool.and_eq_true, decide_eq_true_eq] at ht
    cases u with
    | nil =>
      have := h k
      simp only [Sparse.get, if_true] at this
      exact absurd this ht.1.2
    | cons e u =>
      obtain ⟨m, w⟩ := e
      have hu' := hu
      simp only [Sparse.wfFrom, Bool.and_eq_true, decide_eq_true_eq] at hu
      have hkm : k = m := by
        rcases Nat.lt_trichotomy k m with hlt | heq | hgt
        · have hk := h k
          simp only [Sparse.get, if_true] at hk
          rw [if_neg (by omega), Sparse.get_of_lt hu.2 (by omega)] at hk
          exact absurd hk ht.1.2
        · exact heq
        · have hm := h m
          simp only [Sparse.get, if_true] at hm
          rw [if_neg (by omega), Sparse.get_of_lt ht.2 (by omega)] at hm
          exact absurd hm.symm hu.1.2
      subst hkm
      have hv : v = w := by
        have hk := h k
        simpa [Sparse.get] using hk
      subst hv
      congr 1
      refine ih ht.2 hu.2 fun i => ?_
      by_cases hi : i = k
      · subst hi
        rw [Sparse.get_of_lt ht.2 (by omega), Sparse.get_of_lt hu.2 (by omega)]
      · have := h i
        simpa [Sparse.get, hi] using this

/-- Tables in canonical form with equal contents are equal. -/
theorem Sparse.ext {u : List (Nat × α)} (ht : Sparse.wf d limit t = true) (hu : Sparse.wf d limit u = true)
    (h : ∀ i, Sparse.get d t i = Sparse.get d u i) : t = u := Sparse.ext_from ht hu h

/-- Writing back what an index reads as changes nothing. -/
theorem Sparse.set_get (h : Sparse.wf d limit t = true) (i : Nat) : Sparse.set d t i (Sparse.get d t i) = t := by
  by_cases hi : i < limit
  · refine Sparse.ext (limit := limit) (Sparse.wf_set h (Or.inl hi)) h fun j => ?_
    rw [Sparse.get_set h]
    split <;> simp_all
  · refine Sparse.ext (limit := limit) (Sparse.wf_set h (Or.inr (Sparse.get_of_ge h (by omega)))) h fun j => ?_
    rw [Sparse.get_set h]
    split <;> simp_all

/-- Of two writes to one index the later stands. -/
theorem Sparse.set_set (h : Sparse.wf d limit t = true) {i : Nat} (a b : α) (hi : i < limit) :
    Sparse.set d (Sparse.set d t i a) i b = Sparse.set d t i b := by
  have h1 := Sparse.wf_set h (v := a) (Or.inl hi)
  refine Sparse.ext (limit := limit) (Sparse.wf_set h1 (Or.inl hi)) (Sparse.wf_set h (Or.inl hi)) fun j => ?_
  rw [Sparse.get_set h1, Sparse.get_set h, Sparse.get_set h]
  split <;> rfl

/-- Writes to different indices commute. -/
theorem Sparse.set_comm (h : Sparse.wf d limit t = true) {i j : Nat} (a b : α) (hij : i ≠ j) (hi : i < limit) (hj : j < limit) :
    Sparse.set d (Sparse.set d t i a) j b = Sparse.set d (Sparse.set d t j b) i a := by
  have h1 := Sparse.wf_set h (v := a) (Or.inl hi)
  have h2 := Sparse.wf_set h (v := b) (Or.inl hj)
  refine Sparse.ext (limit := limit) (Sparse.wf_set h1 (Or.inl hj)) (Sparse.wf_set h2 (Or.inl hi)) fun m => ?_
  rw [Sparse.get_set h1, Sparse.get_set h2, Sparse.get_set h, Sparse.get_set h]
  split
  · rename_i hm
    rw [if_neg (by omega)]
  · rfl

/-- The concatenation over a table follows a write. -/
theorem Sparse.flatMap_set {β : Type} (g : α → List β) (hg : g d = []) (h : Sparse.wfFrom d limit lo t = true) (i : Nat)
    (v : α) : ((Sparse.set d t i v).flatMap (fun e => g e.2) ++ g (Sparse.get d t i)).Perm
      (t.flatMap (fun e => g e.2) ++ g v) := by
  induction t generalizing lo with
  | nil =>
    simp only [Sparse.set, Sparse.get, hg]
    split
    · rename_i hv
      simp [hv, hg]
    · simp
  | cons e t ih =>
    obtain ⟨k, w⟩ := e
    simp only [Sparse.wfFrom, Bool.and_eq_true, decide_eq_true_eq] at h
    simp only [Sparse.set, Sparse.get]
    split
    · rename_i hlt
      rw [if_neg (show ¬i = k by omega), Sparse.get_of_lt h.2 (by omega), hg]
      split
      · rename_i hv
        simp [hv, hg]
      · simp only [List.flatMap_cons, List.append_nil]
        exact List.perm_append_comm
    · split
      · rename_i hik
        split
        · rename_i hv
          simp only [hv, hg, List.flatMap_cons, List.append_nil]
          exact List.perm_append_comm
        · simp only [List.flatMap_cons]
          rw [List.append_assoc, List.append_assoc]
          refine (List.perm_append_comm.append_left _).trans ?_
          rw [← List.append_assoc, ← List.append_assoc]
          refine List.perm_append_comm.append_right _ |>.trans ?_
          rw [List.append_assoc, List.append_assoc]
          exact List.perm_append_comm.append_left _
      · simp only [List.flatMap_cons, List.append_assoc]
        exact (ih h.2).append_left _

/-- A sum over a table follows a write. -/
theorem Sparse.sum_set (f : α → Nat) (hf : f d = 0) (h : Sparse.wfFrom d limit lo t = true) (i : Nat) (v : α) :
    ((Sparse.set d t i v).map fun e => f e.2).sum + f (Sparse.get d t i) = (t.map fun e => f e.2).sum + f v := by
  induction t generalizing lo with
  | nil =>
    simp only [Sparse.set, Sparse.get]
    split
    · rename_i hv
      simp [hv, hf]
    · simp [hf]
  | cons e t ih =>
    obtain ⟨k, w⟩ := e
    simp only [Sparse.wfFrom, Bool.and_eq_true, decide_eq_true_eq] at h
    simp only [Sparse.set, Sparse.get]
    split
    · rename_i hlt
      rw [if_neg (show ¬i = k by omega), Sparse.get_of_lt h.2 (by omega), hf]
      split
      · rename_i hv
        simp [hv, hf]
      · simp only [List.map_cons, List.sum_cons]
        omega
    · split
      · split
        · rename_i hv
          simp only [hv, hf, List.map_cons, List.sum_cons]
          omega
        · simp only [List.map_cons, List.sum_cons]
          omega
      · have := ih h.2
        simp only [List.map_cons, List.sum_cons]
        omega

/-- A count over a table follows a write. -/
theorem Sparse.countP_set (p : α → Bool) (hp : p d = false) (h : Sparse.wfFrom d limit lo t = true) (i : Nat) (v : α) :
    (Sparse.set d t i v).countP (fun e => p e.2) + (p (Sparse.get d t i)).toNat =
      t.countP (fun e => p e.2) + (p v).toNat := by
  have key : ∀ u : List (Nat × α), u.countP (fun e => p e.2) = (u.map fun e => (p e.2).toNat).sum := by
    intro u
    induction u with
    | nil => rfl
    | cons e u ih =>
      rw [List.countP_cons, List.map_cons, List.sum_cons, ih]
      cases p e.2 <;> simp [Nat.add_comm]
  rw [key, key]
  exact Sparse.sum_set (fun a => (p a).toNat) (by simp [hp]) h i v

/-- A listed record is what its index reads as. -/
theorem Sparse.get_of_mem (h : Sparse.wfFrom d limit lo t = true) {k : Nat} {v : α} (hm : (k, v) ∈ t) :
    Sparse.get d t k = v := by
  induction t generalizing lo with
  | nil => cases hm
  | cons e t ih =>
    obtain ⟨m, w⟩ := e
    simp only [Sparse.wfFrom, Bool.and_eq_true, decide_eq_true_eq] at h
    simp only [Sparse.get]
    rcases List.mem_cons.1 hm with heq | hin
    · cases heq
      simp
    · have hk : k ≠ m := by
        intro hkm
        have h0 := ih h.2 hin
        rw [hkm, Sparse.get_of_lt h.2 (by omega)] at h0
        have : ∀ (u : List (Nat × α)) (l : Nat), Sparse.wfFrom d limit l u = true → ∀ e ∈ u, e.2 ≠ d := by
          intro u
          induction u with
          | nil => intro l _ e he; cases he
          | cons x u ihu =>
            intro l hx e he
            obtain ⟨a, b⟩ := x
            simp only [Sparse.wfFrom, Bool.and_eq_true, decide_eq_true_eq] at hx
            rcases List.mem_cons.1 he with h1 | h1
            · rw [h1]
              exact hx.1.2
            · exact ihu _ hx.2 e h1
        exact this t _ h.2 _ hin h0.symm
      rw [if_neg hk]
      exact ih h.2 hin

omit [DecidableEq α] in
/-- An index that does not read as `d` is listed. -/
theorem Sparse.mem_of_get {k : Nat} (h : Sparse.get d t k ≠ d) : (k, Sparse.get d t k) ∈ t := by
  induction t with
  | nil => exact absurd rfl h
  | cons e t ih =>
    obtain ⟨m, w⟩ := e
    simp only [Sparse.get] at h ⊢
    split
    · rename_i hk
      simp [hk]
    · rename_i hk
      rw [if_neg hk] at h
      exact List.mem_cons_of_mem _ (ih h)

end Sys2Proof.Machine
end

