-- ==== Sys2Proof/Laws/State.lean ====
section
/-! SUPPORT. What each named update of State leaves in each field, and in each record that is read by name. -/

namespace Sys2Proof.Machine

variable (s : State)

/-! ## Records read after an update of another part -/

@[simp] theorem State.tubeAt_setTake (k : Nat) (x : Take) (j : Nat) : (s.setTake k x).tubeAt j = s.tubeAt j := rfl
@[simp] theorem State.lane_setTake (k : Nat) (x : Take) (m : Fin 8) : (s.setTake k x).lane m = s.lane m := rfl
@[simp] theorem State.laneLine_setTake (k : Nat) (x : Take) (m : Fin 8) : (s.setTake k x).laneLine m = s.laneLine m := rfl
@[simp] theorem State.takeAt_setTube (i : Nat) (x : Tube) (j : Nat) : (s.setTube i x).takeAt j = s.takeAt j := rfl
@[simp] theorem State.lane_setTube (i : Nat) (x : Tube) (m : Fin 8) : (s.setTube i x).lane m = s.lane m := rfl
@[simp] theorem State.laneLine_setTube (i : Nat) (x : Tube) (m : Fin 8) : (s.setTube i x).laneLine m = s.laneLine m := rfl
@[simp] theorem State.takeAt_setLane (n : Fin 8) (l : Lane) (j : Nat) : (s.setLane n l).takeAt j = s.takeAt j := rfl
@[simp] theorem State.tubeAt_setLane (n : Fin 8) (l : Lane) (j : Nat) : (s.setLane n l).tubeAt j = s.tubeAt j := rfl
@[simp] theorem State.laneLine_setLane (n : Fin 8) (l : Lane) (m : Fin 8) : (s.setLane n l).laneLine m = s.laneLine m := rfl
@[simp] theorem State.takeAt_setLaneLine (n : Fin 8) (l : LaneLine) (j : Nat) : (s.setLaneLine n l).takeAt j = s.takeAt j := rfl
@[simp] theorem State.tubeAt_setLaneLine (n : Fin 8) (l : LaneLine) (j : Nat) : (s.setLaneLine n l).tubeAt j = s.tubeAt j := rfl
@[simp] theorem State.lane_setLaneLine (n : Fin 8) (l : LaneLine) (m : Fin 8) : (s.setLaneLine n l).lane m = s.lane m := rfl
@[simp] theorem State.takeAt_takeEvent (j : Nat) : (s.takeEvent).takeAt j = s.takeAt j := rfl
@[simp] theorem State.tubeAt_takeEvent (j : Nat) : (s.takeEvent).tubeAt j = s.tubeAt j := rfl
@[simp] theorem State.lane_takeEvent (m : Fin 8) : (s.takeEvent).lane m = s.lane m := rfl
@[simp] theorem State.laneLine_takeEvent (m : Fin 8) : (s.takeEvent).laneLine m = s.laneLine m := rfl
@[simp] theorem State.takeAt_notTaken (j : Nat) : (s.notTaken).takeAt j = s.takeAt j := rfl
@[simp] theorem State.tubeAt_notTaken (j : Nat) : (s.notTaken).tubeAt j = s.tubeAt j := rfl
@[simp] theorem State.lane_notTaken (m : Fin 8) : (s.notTaken).lane m = s.lane m := rfl
@[simp] theorem State.laneLine_notTaken (m : Fin 8) : (s.notTaken).laneLine m = s.laneLine m := rfl
@[simp] theorem State.takeAt_post (r : Report) (j : Nat) : (s.post r).takeAt j = s.takeAt j := rfl
@[simp] theorem State.tubeAt_post (r : Report) (j : Nat) : (s.post r).tubeAt j = s.tubeAt j := rfl
@[simp] theorem State.lane_post (r : Report) (m : Fin 8) : (s.post r).lane m = s.lane m := rfl
@[simp] theorem State.laneLine_post (r : Report) (m : Fin 8) : (s.post r).laneLine m = s.laneLine m := rfl
@[simp] theorem State.takeAt_leaveQueue (n : Fin 8) (j : Nat) : (s.leaveQueue n).takeAt j = s.takeAt j := rfl
@[simp] theorem State.tubeAt_leaveQueue (n : Fin 8) (j : Nat) : (s.leaveQueue n).tubeAt j = s.tubeAt j := rfl
@[simp] theorem State.lane_leaveQueue (n : Fin 8) (m : Fin 8) : (s.leaveQueue n).lane m = s.lane m := rfl
@[simp] theorem State.laneLine_leaveQueue (n : Fin 8) (m : Fin 8) : (s.leaveQueue n).laneLine m = s.laneLine m := rfl
@[simp] theorem State.takeAt_emptyQueue (j : Nat) : (s.emptyQueue).takeAt j = s.takeAt j := rfl
@[simp] theorem State.tubeAt_emptyQueue (j : Nat) : (s.emptyQueue).tubeAt j = s.tubeAt j := rfl
@[simp] theorem State.lane_emptyQueue (m : Fin 8) : (s.emptyQueue).lane m = s.lane m := rfl
@[simp] theorem State.laneLine_emptyQueue (m : Fin 8) : (s.emptyQueue).laneLine m = s.laneLine m := rfl

/-! ## The record just written -/

@[simp] theorem State.lane_setLane_self (n : Fin 8) (l : Lane) : (s.setLane n l).lane n = l := by
  simp [State.lane, State.setLane]

@[simp] theorem State.lane_setLane_ne {n m : Fin 8} (l : Lane) (h : m ≠ n) : (s.setLane n l).lane m = s.lane m := by
  have : n.val ≠ m.val := fun e => h (Fin.ext e.symm)
  simp [State.lane, State.setLane, this]

theorem State.lane_setLane (n m : Fin 8) (l : Lane) : (s.setLane n l).lane m = if m = n then l else s.lane m := by
  split
  · rename_i h
    subst h
    simp
  · rename_i h
    simp [h]

@[simp] theorem State.laneLine_setLaneLine_self (n : Fin 8) (l : LaneLine) : (s.setLaneLine n l).laneLine n = l := by
  simp [State.laneLine, State.setLaneLine]

@[simp] theorem State.laneLine_setLaneLine_ne {n m : Fin 8} (l : LaneLine) (h : m ≠ n) :
    (s.setLaneLine n l).laneLine m = s.laneLine m := by
  have : n.val ≠ m.val := fun e => h (Fin.ext e.symm)
  simp [State.laneLine, State.setLaneLine, this]

/-- Of two writes of one lane the later stands. -/
@[simp] theorem State.setLane_setLane (n : Fin 8) (l m : Lane) : (s.setLane n l).setLane n m = s.setLane n m := by
  simp [State.setLane]

/-- Of two writes of one lane line the later stands. -/
@[simp] theorem State.setLaneLine_setLaneLine (n : Fin 8) (l m : LaneLine) :
    (s.setLaneLine n l).setLaneLine n m = s.setLaneLine n m := by
  simp [State.setLaneLine]

/-- Writing back a lane changes nothing. -/
@[simp] theorem State.setLane_lane (n : Fin 8) : s.setLane n (s.lane n) = s := by
  simp [State.setLane, State.lane]

/-- Lane states agree when each lane agrees. -/
theorem State.lanes_ext {s t : State} (h : ∀ n, s.lane n = t.lane n) : s.lanes = t.lanes := by
  apply Vector.ext
  intro i hi
  exact h ⟨i, hi⟩

/-! ## setTake -/

@[simp] theorem State.setTake_mode (k : Nat) (x : Take) : (s.setTake k x).mode = s.mode := rfl
@[simp] theorem State.setTake_layout (k : Nat) (x : Take) : (s.setTake k x).layout = s.layout := rfl
@[simp] theorem State.setTake_strap (k : Nat) (x : Take) : (s.setTake k x).strap = s.strap := rfl
@[simp] theorem State.setTake_inFlight (k : Nat) (x : Take) : (s.setTake k x).inFlight = s.inFlight := rfl
@[simp] theorem State.setTake_issued (k : Nat) (x : Take) : (s.setTake k x).issued = s.issued := rfl
@[simp] theorem State.setTake_arbiter (k : Nat) (x : Take) : (s.setTake k x).arbiter = s.arbiter := rfl
@[simp] theorem State.setTake_lanes (k : Nat) (x : Take) : (s.setTake k x).lanes = s.lanes := rfl
@[simp] theorem State.setTake_takes (k : Nat) (x : Take) : (s.setTake k x).takes = Sparse.set Take.free s.takes k x := rfl
@[simp] theorem State.setTake_serialCounter (k : Nat) (x : Take) : (s.setTake k x).serialCounter = s.serialCounter := rfl
@[simp] theorem State.setTake_rejectMask (k : Nat) (x : Take) : (s.setTake k x).rejectMask = s.rejectMask := rfl
@[simp] theorem State.setTake_tubes (k : Nat) (x : Take) : (s.setTake k x).tubes = s.tubes := rfl
@[simp] theorem State.setTake_locked (k : Nat) (x : Take) : (s.setTake k x).locked = s.locked := rfl
@[simp] theorem State.setTake_plugSet (k : Nat) (x : Take) : (s.setTake k x).plugSet = s.plugSet := rfl
@[simp] theorem State.setTake_loader (k : Nat) (x : Take) : (s.setTake k x).loader = s.loader := rfl
@[simp] theorem State.setTake_pool (k : Nat) (x : Take) : (s.setTake k x).pool = s.pool := rfl
@[simp] theorem State.setTake_windows (k : Nat) (x : Take) : (s.setTake k x).windows = s.windows := rfl
@[simp] theorem State.setTake_amendments (k : Nat) (x : Take) : (s.setTake k x).amendments = s.amendments := rfl
@[simp] theorem State.setTake_notices (k : Nat) (x : Take) : (s.setTake k x).notices = s.notices := rfl
@[simp] theorem State.setTake_lines (k : Nat) (x : Take) : (s.setTake k x).lines = s.lines := rfl
@[simp] theorem State.setTake_laneLines (k : Nat) (x : Take) : (s.setTake k x).laneLines = s.laneLines := rfl
@[simp] theorem State.setTake_timebase (k : Nat) (x : Take) : (s.setTake k x).timebase = s.timebase := rfl
@[simp] theorem State.setTake_watches (k : Nat) (x : Take) : (s.setTake k x).watches = s.watches := rfl
@[simp] theorem State.setTake_link (k : Nat) (x : Take) : (s.setTake k x).link = s.link := rfl
@[simp] theorem State.setTake_pins (k : Nat) (x : Take) : (s.setTake k x).pins = s.pins := rfl
@[simp] theorem State.setTake_fresh (k : Nat) (x : Take) : (s.setTake k x).fresh = s.fresh := rfl
@[simp] theorem State.setTake_out (k : Nat) (x : Take) : (s.setTake k x).out = s.out := rfl
@[simp] theorem State.setTake_pending (k : Nat) (x : Take) : (s.setTake k x).pending = s.pending := rfl

/-! ## setTube -/

@[simp] theorem State.setTube_mode (i : Nat) (x : Tube) : (s.setTube i x).mode = s.mode := rfl
@[simp] theorem State.setTube_layout (i : Nat) (x : Tube) : (s.setTube i x).layout = s.layout := rfl
@[simp] theorem State.setTube_strap (i : Nat) (x : Tube) : (s.setTube i x).strap = s.strap := rfl
@[simp] theorem State.setTube_inFlight (i : Nat) (x : Tube) : (s.setTube i x).inFlight = s.inFlight := rfl
@[simp] theorem State.setTube_issued (i : Nat) (x : Tube) : (s.setTube i x).issued = s.issued := rfl
@[simp] theorem State.setTube_arbiter (i : Nat) (x : Tube) : (s.setTube i x).arbiter = s.arbiter := rfl
@[simp] theorem State.setTube_lanes (i : Nat) (x : Tube) : (s.setTube i x).lanes = s.lanes := rfl
@[simp] theorem State.setTube_takes (i : Nat) (x : Tube) : (s.setTube i x).takes = s.takes := rfl
@[simp] theorem State.setTube_serialCounter (i : Nat) (x : Tube) : (s.setTube i x).serialCounter = s.serialCounter := rfl
@[simp] theorem State.setTube_rejectMask (i : Nat) (x : Tube) : (s.setTube i x).rejectMask = s.rejectMask := rfl
@[simp] theorem State.setTube_tubes (i : Nat) (x : Tube) : (s.setTube i x).tubes = Sparse.set Tube.reset s.tubes i x := rfl
@[simp] theorem State.setTube_locked (i : Nat) (x : Tube) : (s.setTube i x).locked = s.locked := rfl
@[simp] theorem State.setTube_plugSet (i : Nat) (x : Tube) : (s.setTube i x).plugSet = s.plugSet := rfl
@[simp] theorem State.setTube_loader (i : Nat) (x : Tube) : (s.setTube i x).loader = s.loader := rfl
@[simp] theorem State.setTube_pool (i : Nat) (x : Tube) : (s.setTube i x).pool = s.pool := rfl
@[simp] theorem State.setTube_windows (i : Nat) (x : Tube) : (s.setTube i x).windows = s.windows := rfl
@[simp] theorem State.setTube_amendments (i : Nat) (x : Tube) : (s.setTube i x).amendments = s.amendments := rfl
@[simp] theorem State.setTube_notices (i : Nat) (x : Tube) : (s.setTube i x).notices = s.notices := rfl
@[simp] theorem State.setTube_lines (i : Nat) (x : Tube) : (s.setTube i x).lines = s.lines := rfl
@[simp] theorem State.setTube_laneLines (i : Nat) (x : Tube) : (s.setTube i x).laneLines = s.laneLines := rfl
@[simp] theorem State.setTube_timebase (i : Nat) (x : Tube) : (s.setTube i x).timebase = s.timebase := rfl
@[simp] theorem State.setTube_watches (i : Nat) (x : Tube) : (s.setTube i x).watches = s.watches := rfl
@[simp] theorem State.setTube_link (i : Nat) (x : Tube) : (s.setTube i x).link = s.link := rfl
@[simp] theorem State.setTube_pins (i : Nat) (x : Tube) : (s.setTube i x).pins = s.pins := rfl
@[simp] theorem State.setTube_fresh (i : Nat) (x : Tube) : (s.setTube i x).fresh = s.fresh := rfl
@[simp] theorem State.setTube_out (i : Nat) (x : Tube) : (s.setTube i x).out = s.out := rfl
@[simp] theorem State.setTube_pending (i : Nat) (x : Tube) : (s.setTube i x).pending = s.pending := rfl

/-! ## setLane -/

@[simp] theorem State.setLane_mode (n : Fin 8) (l : Lane) : (s.setLane n l).mode = s.mode := rfl
@[simp] theorem State.setLane_layout (n : Fin 8) (l : Lane) : (s.setLane n l).layout = s.layout := rfl
@[simp] theorem State.setLane_strap (n : Fin 8) (l : Lane) : (s.setLane n l).strap = s.strap := rfl
@[simp] theorem State.setLane_inFlight (n : Fin 8) (l : Lane) : (s.setLane n l).inFlight = s.inFlight := rfl
@[simp] theorem State.setLane_issued (n : Fin 8) (l : Lane) : (s.setLane n l).issued = s.issued := rfl
@[simp] theorem State.setLane_arbiter (n : Fin 8) (l : Lane) : (s.setLane n l).arbiter = s.arbiter := rfl
@[simp] theorem State.setLane_lanes (n : Fin 8) (l : Lane) : (s.setLane n l).lanes = s.lanes.set n l := rfl
@[simp] theorem State.setLane_takes (n : Fin 8) (l : Lane) : (s.setLane n l).takes = s.takes := rfl
@[simp] theorem State.setLane_serialCounter (n : Fin 8) (l : Lane) : (s.setLane n l).serialCounter = s.serialCounter := rfl
@[simp] theorem State.setLane_rejectMask (n : Fin 8) (l : Lane) : (s.setLane n l).rejectMask = s.rejectMask := rfl
@[simp] theorem State.setLane_tubes (n : Fin 8) (l : Lane) : (s.setLane n l).tubes = s.tubes := rfl
@[simp] theorem State.setLane_locked (n : Fin 8) (l : Lane) : (s.setLane n l).locked = s.locked := rfl
@[simp] theorem State.setLane_plugSet (n : Fin 8) (l : Lane) : (s.setLane n l).plugSet = s.plugSet := rfl
@[simp] theorem State.setLane_loader (n : Fin 8) (l : Lane) : (s.setLane n l).loader = s.loader := rfl
@[simp] theorem State.setLane_pool (n : Fin 8) (l : Lane) : (s.setLane n l).pool = s.pool := rfl
@[simp] theorem State.setLane_windows (n : Fin 8) (l : Lane) : (s.setLane n l).windows = s.windows := rfl
@[simp] theorem State.setLane_amendments (n : Fin 8) (l : Lane) : (s.setLane n l).amendments = s.amendments := rfl
@[simp] theorem State.setLane_notices (n : Fin 8) (l : Lane) : (s.setLane n l).notices = s.notices := rfl
@[simp] theorem State.setLane_lines (n : Fin 8) (l : Lane) : (s.setLane n l).lines = s.lines := rfl
@[simp] theorem State.setLane_laneLines (n : Fin 8) (l : Lane) : (s.setLane n l).laneLines = s.laneLines := rfl
@[simp] theorem State.setLane_timebase (n : Fin 8) (l : Lane) : (s.setLane n l).timebase = s.timebase := rfl
@[simp] theorem State.setLane_watches (n : Fin 8) (l : Lane) : (s.setLane n l).watches = s.watches := rfl
@[simp] theorem State.setLane_link (n : Fin 8) (l : Lane) : (s.setLane n l).link = s.link := rfl
@[simp] theorem State.setLane_pins (n : Fin 8) (l : Lane) : (s.setLane n l).pins = s.pins := rfl
@[simp] theorem State.setLane_fresh (n : Fin 8) (l : Lane) : (s.setLane n l).fresh = s.fresh := rfl
@[simp] theorem State.setLane_out (n : Fin 8) (l : Lane) : (s.setLane n l).out = s.out := rfl
@[simp] theorem State.setLane_pending (n : Fin 8) (l : Lane) : (s.setLane n l).pending = s.pending := rfl

/-! ## setLaneLine -/

@[simp] theorem State.setLaneLine_mode (n : Fin 8) (l : LaneLine) : (s.setLaneLine n l).mode = s.mode := rfl
@[simp] theorem State.setLaneLine_layout (n : Fin 8) (l : LaneLine) : (s.setLaneLine n l).layout = s.layout := rfl
@[simp] theorem State.setLaneLine_strap (n : Fin 8) (l : LaneLine) : (s.setLaneLine n l).strap = s.strap := rfl
@[simp] theorem State.setLaneLine_inFlight (n : Fin 8) (l : LaneLine) : (s.setLaneLine n l).inFlight = s.inFlight := rfl
@[simp] theorem State.setLaneLine_issued (n : Fin 8) (l : LaneLine) : (s.setLaneLine n l).issued = s.issued := rfl
@[simp] theorem State.setLaneLine_arbiter (n : Fin 8) (l : LaneLine) : (s.setLaneLine n l).arbiter = s.arbiter := rfl
@[simp] theorem State.setLaneLine_lanes (n : Fin 8) (l : LaneLine) : (s.setLaneLine n l).lanes = s.lanes := rfl
@[simp] theorem State.setLaneLine_takes (n : Fin 8) (l : LaneLine) : (s.setLaneLine n l).takes = s.takes := rfl
@[simp] theorem State.setLaneLine_serialCounter (n : Fin 8) (l : LaneLine) : (s.setLaneLine n l).serialCounter = s.serialCounter := rfl
@[simp] theorem State.setLaneLine_rejectMask (n : Fin 8) (l : LaneLine) : (s.setLaneLine n l).rejectMask = s.rejectMask := rfl
@[simp] theorem State.setLaneLine_tubes (n : Fin 8) (l : LaneLine) : (s.setLaneLine n l).tubes = s.tubes := rfl
@[simp] theorem State.setLaneLine_locked (n : Fin 8) (l : LaneLine) : (s.setLaneLine n l).locked = s.locked := rfl
@[simp] theorem State.setLaneLine_plugSet (n : Fin 8) (l : LaneLine) : (s.setLaneLine n l).plugSet = s.plugSet := rfl
@[simp] theorem State.setLaneLine_loader (n : Fin 8) (l : LaneLine) : (s.setLaneLine n l).loader = s.loader := rfl
@[simp] theorem State.setLaneLine_pool (n : Fin 8) (l : LaneLine) : (s.setLaneLine n l).pool = s.pool := rfl
@[simp] theorem State.setLaneLine_windows (n : Fin 8) (l : LaneLine) : (s.setLaneLine n l).windows = s.windows := rfl
@[simp] theorem State.setLaneLine_amendments (n : Fin 8) (l : LaneLine) : (s.setLaneLine n l).amendments = s.amendments := rfl
@[simp] theorem State.setLaneLine_notices (n : Fin 8) (l : LaneLine) : (s.setLaneLine n l).notices = s.notices := rfl
@[simp] theorem State.setLaneLine_lines (n : Fin 8) (l : LaneLine) : (s.setLaneLine n l).lines = s.lines := rfl
@[simp] theorem State.setLaneLine_laneLines (n : Fin 8) (l : LaneLine) : (s.setLaneLine n l).laneLines = s.laneLines.set n l := rfl
@[simp] theorem State.setLaneLine_timebase (n : Fin 8) (l : LaneLine) : (s.setLaneLine n l).timebase = s.timebase := rfl
@[simp] theorem State.setLaneLine_watches (n : Fin 8) (l : LaneLine) : (s.setLaneLine n l).watches = s.watches := rfl
@[simp] theorem State.setLaneLine_link (n : Fin 8) (l : LaneLine) : (s.setLaneLine n l).link = s.link := rfl
@[simp] theorem State.setLaneLine_pins (n : Fin 8) (l : LaneLine) : (s.setLaneLine n l).pins = s.pins := rfl
@[simp] theorem State.setLaneLine_fresh (n : Fin 8) (l : LaneLine) : (s.setLaneLine n l).fresh = s.fresh := rfl
@[simp] theorem State.setLaneLine_out (n : Fin 8) (l : LaneLine) : (s.setLaneLine n l).out = s.out := rfl
@[simp] theorem State.setLaneLine_pending (n : Fin 8) (l : LaneLine) : (s.setLaneLine n l).pending = s.pending := rfl

/-! ## takeEvent -/

@[simp] theorem State.takeEvent_mode : (s.takeEvent).mode = s.mode := rfl
@[simp] theorem State.takeEvent_layout : (s.takeEvent).layout = s.layout := rfl
@[simp] theorem State.takeEvent_strap : (s.takeEvent).strap = s.strap := rfl
@[simp] theorem State.takeEvent_inFlight : (s.takeEvent).inFlight = s.inFlight := rfl
@[simp] theorem State.takeEvent_issued : (s.takeEvent).issued = s.issued := rfl
@[simp] theorem State.takeEvent_arbiter : (s.takeEvent).arbiter = s.arbiter := rfl
@[simp] theorem State.takeEvent_lanes : (s.takeEvent).lanes = s.lanes := rfl
@[simp] theorem State.takeEvent_takes : (s.takeEvent).takes = s.takes := rfl
@[simp] theorem State.takeEvent_serialCounter : (s.takeEvent).serialCounter = s.serialCounter := rfl
@[simp] theorem State.takeEvent_rejectMask : (s.takeEvent).rejectMask = s.rejectMask := rfl
@[simp] theorem State.takeEvent_tubes : (s.takeEvent).tubes = s.tubes := rfl
@[simp] theorem State.takeEvent_locked : (s.takeEvent).locked = s.locked := rfl
@[simp] theorem State.takeEvent_plugSet : (s.takeEvent).plugSet = s.plugSet := rfl
@[simp] theorem State.takeEvent_loader : (s.takeEvent).loader = s.loader := rfl
@[simp] theorem State.takeEvent_pool : (s.takeEvent).pool = s.pool := rfl
@[simp] theorem State.takeEvent_windows : (s.takeEvent).windows = s.windows := rfl
@[simp] theorem State.takeEvent_amendments : (s.takeEvent).amendments = s.amendments := rfl
@[simp] theorem State.takeEvent_notices : (s.takeEvent).notices = s.notices := rfl
@[simp] theorem State.takeEvent_lines : (s.takeEvent).lines = s.lines := rfl
@[simp] theorem State.takeEvent_laneLines : (s.takeEvent).laneLines = s.laneLines := rfl
@[simp] theorem State.takeEvent_timebase : (s.takeEvent).timebase = s.timebase := rfl
@[simp] theorem State.takeEvent_watches : (s.takeEvent).watches = s.watches := rfl
@[simp] theorem State.takeEvent_link : (s.takeEvent).link = s.link := rfl
@[simp] theorem State.takeEvent_pins : (s.takeEvent).pins = s.pins := rfl
@[simp] theorem State.takeEvent_fresh : (s.takeEvent).fresh = s.fresh := rfl
@[simp] theorem State.takeEvent_out : (s.takeEvent).out = { Outputs.none with taken := true } := rfl
@[simp] theorem State.takeEvent_pending : (s.takeEvent).pending = s.pending := rfl

/-! ## notTaken -/

@[simp] theorem State.notTaken_mode : (s.notTaken).mode = s.mode := rfl
@[simp] theorem State.notTaken_layout : (s.notTaken).layout = s.layout := rfl
@[simp] theorem State.notTaken_strap : (s.notTaken).strap = s.strap := rfl
@[simp] theorem State.notTaken_inFlight : (s.notTaken).inFlight = s.inFlight := rfl
@[simp] theorem State.notTaken_issued : (s.notTaken).issued = s.issued := rfl
@[simp] theorem State.notTaken_arbiter : (s.notTaken).arbiter = s.arbiter := rfl
@[simp] theorem State.notTaken_lanes : (s.notTaken).lanes = s.lanes := rfl
@[simp] theorem State.notTaken_takes : (s.notTaken).takes = s.takes := rfl
@[simp] theorem State.notTaken_serialCounter : (s.notTaken).serialCounter = s.serialCounter := rfl
@[simp] theorem State.notTaken_rejectMask : (s.notTaken).rejectMask = s.rejectMask := rfl
@[simp] theorem State.notTaken_tubes : (s.notTaken).tubes = s.tubes := rfl
@[simp] theorem State.notTaken_locked : (s.notTaken).locked = s.locked := rfl
@[simp] theorem State.notTaken_plugSet : (s.notTaken).plugSet = s.plugSet := rfl
@[simp] theorem State.notTaken_loader : (s.notTaken).loader = s.loader := rfl
@[simp] theorem State.notTaken_pool : (s.notTaken).pool = s.pool := rfl
@[simp] theorem State.notTaken_windows : (s.notTaken).windows = s.windows := rfl
@[simp] theorem State.notTaken_amendments : (s.notTaken).amendments = s.amendments := rfl
@[simp] theorem State.notTaken_notices : (s.notTaken).notices = s.notices := rfl
@[simp] theorem State.notTaken_lines : (s.notTaken).lines = s.lines := rfl
@[simp] theorem State.notTaken_laneLines : (s.notTaken).laneLines = s.laneLines := rfl
@[simp] theorem State.notTaken_timebase : (s.notTaken).timebase = s.timebase := rfl
@[simp] theorem State.notTaken_watches : (s.notTaken).watches = s.watches := rfl
@[simp] theorem State.notTaken_link : (s.notTaken).link = s.link := rfl
@[simp] theorem State.notTaken_pins : (s.notTaken).pins = s.pins := rfl
@[simp] theorem State.notTaken_fresh : (s.notTaken).fresh = s.fresh := rfl
@[simp] theorem State.notTaken_out : (s.notTaken).out = Outputs.none := rfl
@[simp] theorem State.notTaken_pending : (s.notTaken).pending = s.pending := rfl

/-! ## post -/

@[simp] theorem State.post_mode (r : Report) : (s.post r).mode = s.mode := rfl
@[simp] theorem State.post_layout (r : Report) : (s.post r).layout = s.layout := rfl
@[simp] theorem State.post_strap (r : Report) : (s.post r).strap = s.strap := rfl
@[simp] theorem State.post_inFlight (r : Report) : (s.post r).inFlight = s.inFlight := rfl
@[simp] theorem State.post_issued (r : Report) : (s.post r).issued = s.issued := rfl
@[simp] theorem State.post_arbiter (r : Report) : (s.post r).arbiter = s.arbiter.askNotice (s.notices.create r).queue := rfl
@[simp] theorem State.post_lanes (r : Report) : (s.post r).lanes = s.lanes := rfl
@[simp] theorem State.post_takes (r : Report) : (s.post r).takes = s.takes := rfl
@[simp] theorem State.post_serialCounter (r : Report) : (s.post r).serialCounter = s.serialCounter := rfl
@[simp] theorem State.post_rejectMask (r : Report) : (s.post r).rejectMask = s.rejectMask := rfl
@[simp] theorem State.post_tubes (r : Report) : (s.post r).tubes = s.tubes := rfl
@[simp] theorem State.post_locked (r : Report) : (s.post r).locked = s.locked := rfl
@[simp] theorem State.post_plugSet (r : Report) : (s.post r).plugSet = s.plugSet := rfl
@[simp] theorem State.post_loader (r : Report) : (s.post r).loader = s.loader := rfl
@[simp] theorem State.post_pool (r : Report) : (s.post r).pool = s.pool := rfl
@[simp] theorem State.post_windows (r : Report) : (s.post r).windows = s.windows := rfl
@[simp] theorem State.post_amendments (r : Report) : (s.post r).amendments = s.amendments := rfl
@[simp] theorem State.post_notices (r : Report) : (s.post r).notices = s.notices.create r := rfl
@[simp] theorem State.post_lines (r : Report) : (s.post r).lines = s.lines := rfl
@[simp] theorem State.post_laneLines (r : Report) : (s.post r).laneLines = s.laneLines := rfl
@[simp] theorem State.post_timebase (r : Report) : (s.post r).timebase = s.timebase := rfl
@[simp] theorem State.post_watches (r : Report) : (s.post r).watches = s.watches := rfl
@[simp] theorem State.post_link (r : Report) : (s.post r).link = s.link := rfl
@[simp] theorem State.post_pins (r : Report) : (s.post r).pins = s.pins := rfl
@[simp] theorem State.post_fresh (r : Report) : (s.post r).fresh = s.fresh := rfl
@[simp] theorem State.post_out (r : Report) : (s.post r).out = s.out := rfl
@[simp] theorem State.post_pending (r : Report) : (s.post r).pending = s.pending := rfl

/-! ## leaveQueue -/

@[simp] theorem State.leaveQueue_mode (n : Fin 8) : (s.leaveQueue n).mode = s.mode := rfl
@[simp] theorem State.leaveQueue_layout (n : Fin 8) : (s.leaveQueue n).layout = s.layout := rfl
@[simp] theorem State.leaveQueue_strap (n : Fin 8) : (s.leaveQueue n).strap = s.strap := rfl
@[simp] theorem State.leaveQueue_inFlight (n : Fin 8) : (s.leaveQueue n).inFlight = s.inFlight := rfl
@[simp] theorem State.leaveQueue_issued (n : Fin 8) : (s.leaveQueue n).issued = s.issued := rfl
@[simp] theorem State.leaveQueue_arbiter (n : Fin 8) : (s.leaveQueue n).arbiter = s.arbiter := rfl
@[simp] theorem State.leaveQueue_lanes (n : Fin 8) : (s.leaveQueue n).lanes = s.lanes := rfl
@[simp] theorem State.leaveQueue_takes (n : Fin 8) : (s.leaveQueue n).takes = s.takes := rfl
@[simp] theorem State.leaveQueue_serialCounter (n : Fin 8) : (s.leaveQueue n).serialCounter = s.serialCounter := rfl
@[simp] theorem State.leaveQueue_rejectMask (n : Fin 8) : (s.leaveQueue n).rejectMask = s.rejectMask := rfl
@[simp] theorem State.leaveQueue_tubes (n : Fin 8) : (s.leaveQueue n).tubes = s.tubes := rfl
@[simp] theorem State.leaveQueue_locked (n : Fin 8) : (s.leaveQueue n).locked = s.locked := rfl
@[simp] theorem State.leaveQueue_plugSet (n : Fin 8) : (s.leaveQueue n).plugSet = s.plugSet := rfl
@[simp] theorem State.leaveQueue_loader (n : Fin 8) : (s.leaveQueue n).loader = s.loader := rfl
@[simp] theorem State.leaveQueue_pool (n : Fin 8) : (s.leaveQueue n).pool = { s.pool with queue := s.pool.queue.filter (· ≠ n) } := rfl
@[simp] theorem State.leaveQueue_windows (n : Fin 8) : (s.leaveQueue n).windows = s.windows := rfl
@[simp] theorem State.leaveQueue_amendments (n : Fin 8) : (s.leaveQueue n).amendments = s.amendments := rfl
@[simp] theorem State.leaveQueue_notices (n : Fin 8) : (s.leaveQueue n).notices = s.notices := rfl
@[simp] theorem State.leaveQueue_lines (n : Fin 8) : (s.leaveQueue n).lines = s.lines := rfl
@[simp] theorem State.leaveQueue_laneLines (n : Fin 8) : (s.leaveQueue n).laneLines = s.laneLines := rfl
@[simp] theorem State.leaveQueue_timebase (n : Fin 8) : (s.leaveQueue n).timebase = s.timebase := rfl
@[simp] theorem State.leaveQueue_watches (n : Fin 8) : (s.leaveQueue n).watches = s.watches := rfl
@[simp] theorem State.leaveQueue_link (n : Fin 8) : (s.leaveQueue n).link = s.link := rfl
@[simp] theorem State.leaveQueue_pins (n : Fin 8) : (s.leaveQueue n).pins = s.pins := rfl
@[simp] theorem State.leaveQueue_fresh (n : Fin 8) : (s.leaveQueue n).fresh = s.fresh := rfl
@[simp] theorem State.leaveQueue_out (n : Fin 8) : (s.leaveQueue n).out = s.out := rfl
@[simp] theorem State.leaveQueue_pending (n : Fin 8) : (s.leaveQueue n).pending = s.pending := rfl

/-! ## emptyQueue -/

@[simp] theorem State.emptyQueue_mode : (s.emptyQueue).mode = s.mode := rfl
@[simp] theorem State.emptyQueue_layout : (s.emptyQueue).layout = s.layout := rfl
@[simp] theorem State.emptyQueue_strap : (s.emptyQueue).strap = s.strap := rfl
@[simp] theorem State.emptyQueue_inFlight : (s.emptyQueue).inFlight = s.inFlight := rfl
@[simp] theorem State.emptyQueue_issued : (s.emptyQueue).issued = s.issued := rfl
@[simp] theorem State.emptyQueue_arbiter : (s.emptyQueue).arbiter = s.arbiter := rfl
@[simp] theorem State.emptyQueue_lanes : (s.emptyQueue).lanes = s.lanes := rfl
@[simp] theorem State.emptyQueue_takes : (s.emptyQueue).takes = s.takes := rfl
@[simp] theorem State.emptyQueue_serialCounter : (s.emptyQueue).serialCounter = s.serialCounter := rfl
@[simp] theorem State.emptyQueue_rejectMask : (s.emptyQueue).rejectMask = s.rejectMask := rfl
@[simp] theorem State.emptyQueue_tubes : (s.emptyQueue).tubes = s.tubes := rfl
@[simp] theorem State.emptyQueue_locked : (s.emptyQueue).locked = s.locked := rfl
@[simp] theorem State.emptyQueue_plugSet : (s.emptyQueue).plugSet = s.plugSet := rfl
@[simp] theorem State.emptyQueue_loader : (s.emptyQueue).loader = s.loader := rfl
@[simp] theorem State.emptyQueue_pool : (s.emptyQueue).pool = { s.pool with queue := [] } := rfl
@[simp] theorem State.emptyQueue_windows : (s.emptyQueue).windows = s.windows := rfl
@[simp] theorem State.emptyQueue_amendments : (s.emptyQueue).amendments = s.amendments := rfl
@[simp] theorem State.emptyQueue_notices : (s.emptyQueue).notices = s.notices := rfl
@[simp] theorem State.emptyQueue_lines : (s.emptyQueue).lines = s.lines := rfl
@[simp] theorem State.emptyQueue_laneLines : (s.emptyQueue).laneLines = s.laneLines := rfl
@[simp] theorem State.emptyQueue_timebase : (s.emptyQueue).timebase = s.timebase := rfl
@[simp] theorem State.emptyQueue_watches : (s.emptyQueue).watches = s.watches := rfl
@[simp] theorem State.emptyQueue_link : (s.emptyQueue).link = s.link := rfl
@[simp] theorem State.emptyQueue_pins : (s.emptyQueue).pins = s.pins := rfl
@[simp] theorem State.emptyQueue_fresh : (s.emptyQueue).fresh = s.fresh := rfl
@[simp] theorem State.emptyQueue_out : (s.emptyQueue).out = s.out := rfl
@[simp] theorem State.emptyQueue_pending : (s.emptyQueue).pending = s.pending := rfl

end Sys2Proof.Machine
end

