-- ==== Sys2Proof/Laws/Records.lean ====
section
/-! SUPPORT. The take and tube tables read by number: a record after a write, canonical form kept by each write, and tables of
equal records equal. -/

namespace Sys2Proof.Machine

variable {s : State}

/-- The take table is in canonical form. -/
abbrev State.takesForm (s : State) : Prop := Sparse.wf Take.free Config.takeSlots s.takes = true

/-- The tube table is in canonical form. -/
abbrev State.tubesForm (s : State) : Prop := Sparse.wf Tube.reset Config.tubeCount s.tubes = true

theorem State.takeAt_setTake (h : s.takesForm) (k j : Nat) (x : Take) :
    (s.setTake k x).takeAt j = if j = k then x else s.takeAt j := Sparse.get_set h k j x

theorem State.takeAt_setTake_self (h : s.takesForm) (k : Nat) (x : Take) : (s.setTake k x).takeAt k = x := by
  rw [State.takeAt_setTake h, if_pos rfl]

@[simp] theorem State.takeAt_setTake_ne {k j : Nat} (x : Take) (h : j ≠ k) : (s.setTake k x).takeAt j = s.takeAt j :=
  Sparse.get_set_ne s.takes x h

theorem State.tubeAt_setTube (h : s.tubesForm) (k j : Nat) (x : Tube) :
    (s.setTube k x).tubeAt j = if j = k then x else s.tubeAt j := Sparse.get_set h k j x

theorem State.tubeAt_setTube_self (h : s.tubesForm) (k : Nat) (x : Tube) : (s.setTube k x).tubeAt k = x := by
  rw [State.tubeAt_setTube h, if_pos rfl]

@[simp] theorem State.tubeAt_setTube_ne {k j : Nat} (x : Tube) (h : j ≠ k) : (s.setTube k x).tubeAt j = s.tubeAt j :=
  Sparse.get_set_ne s.tubes x h

/-- A write to a slot of the table keeps the canonical form. -/
theorem State.takesForm_setTake (h : s.takesForm) {k : Nat} (x : Take) (hk : k < Config.takeSlots) :
    (s.setTake k x).takesForm := Sparse.wf_set h (Or.inl hk)

/-- A write to a record of the register keeps the canonical form. -/
theorem State.tubesForm_setTube (h : s.tubesForm) {i : Nat} (x : Tube) (hi : i < Config.tubeCount) :
    (s.setTube i x).tubesForm := Sparse.wf_set h (Or.inl hi)

/-- A take that is not FREE has a slot of the table. -/
theorem State.slot_of_takeAt (h : s.takesForm) {k : Nat} (hk : s.takeAt k ≠ Take.free) : k < Config.takeSlots := by
  by_contra hn
  exact hk (Sparse.get_of_ge h (by omega))

/-- The index of a position is that of a record (R1). -/
theorem TubePos.index_lt (p : TubePos) : p.index < Config.tubeCount := by
  have h1 := p.row.isLt
  have h2 := p.col.isLt
  simp only [TubePos.index, Config.tubeCount]
  omega

/-- The index names one position (R1). -/
theorem TubePos.index_inj {p q : TubePos} (h : p.index = q.index) : p = q := by
  have h1 := p.row.isLt
  have h2 := p.col.isLt
  have h3 := q.row.isLt
  have h4 := q.col.isLt
  simp only [TubePos.index] at h
  cases p
  cases q
  simp only [TubePos.mk.injEq]
  constructor <;> (apply Fin.ext; simp only at *; omega)

/-- Writing back a take changes nothing. -/
theorem State.setTake_takeAt (h : s.takesForm) (k : Nat) : s.setTake k (s.takeAt k) = s := by
  have := Sparse.set_get h k
  simp only [State.setTake, State.takeAt, this]

/-- Writing back a tube changes nothing. -/
theorem State.setTube_tubeAt (h : s.tubesForm) (i : Nat) : s.setTube i (s.tubeAt i) = s := by
  have := Sparse.set_get h i
  simp only [State.setTube, State.tubeAt, this]

/-- Of two writes of one take the later stands. -/
theorem State.setTake_setTake (h : s.takesForm) {k : Nat} (x y : Take) (hk : k < Config.takeSlots) :
    (s.setTake k x).setTake k y = s.setTake k y := by
  have := Sparse.set_set h (i := k) x y hk
  simp only [State.setTake, this]

/-- Of two writes of one tube the later stands. -/
theorem State.setTube_setTube (h : s.tubesForm) {i : Nat} (x y : Tube) (hi : i < Config.tubeCount) :
    (s.setTube i x).setTube i y = s.setTube i y := by
  have := Sparse.set_set h (i := i) x y hi
  simp only [State.setTube, this]

/-- Tube tables in canonical form with equal records are equal. -/
theorem State.tubes_ext {t : State} (hs : s.tubesForm) (ht : t.tubesForm) (h : ∀ i, s.tubeAt i = t.tubeAt i) :
    s.tubes = t.tubes := Sparse.ext hs ht h

/-- Take tables in canonical form with equal records are equal. -/
theorem State.takes_ext {t : State} (hs : s.takesForm) (ht : t.takesForm) (h : ∀ k, s.takeAt k = t.takeAt k) :
    s.takes = t.takes := Sparse.ext hs ht h

end Sys2Proof.Machine
end

