-- ==== Sys2Proof/Laws/Ops.lean ====
section
/-! SUPPORT. What each shared operation can do, said once: the fields it may change, and its value where its conditions are
decided. -/

namespace Sys2Proof.Machine

variable {s : State}

/-! ## Requests -/

/-- A request outside RECEIVING is not taken: its bytes clock out what the link returns. -/
theorem State.request_ignored {c : Instr} {act : State → State × Status} (h : s.listening = false) :
    s.request c act = .next (s.ignoreRequest c) := by
  simp [State.request, h]

/-- Bytes clocked change the link, the free-value counter and the bytes returned alone. -/
theorem State.clockBytes_frame (bytes : List Byte) : s.clockBytes bytes =
    { s with link := (s.clockBytes bytes).link, fresh := (s.clockBytes bytes).fresh,
             out := { s.out with linkBytes := (s.clockBytes bytes).out.linkBytes } } := by
  unfold State.clockBytes; split <;> rfl

/-- The link ignores the clock while chip select is high. -/
theorem State.clockBytes_high {bytes : List Byte} (h : s.pins.selectLow = false) : s.clockBytes bytes = s := by
  simp [State.clockBytes, h]

/-- The link ignores the clock in power-on reset. -/
theorem State.clockBytes_held {bytes : List Byte} (h : s.pins.powerReset = true) : s.clockBytes bytes = s := by
  simp [State.clockBytes, h]

/-- Bytes clocked with chip select low and the part out of reset. -/
theorem State.clockBytes_low {bytes : List Byte} (h : s.pins.selectLow = true) (hp : s.pins.powerReset = false) :
    s.clockBytes bytes = { s with link := s.link.advance bytes.length, fresh := s.fresh + bytes.length,
                                  out := { s.out with linkBytes := s.clockedBytes bytes } } := by
  simp [State.clockBytes, h, hp]

/-- As many bytes are returned as are clocked. -/
@[simp] theorem Link.clock_length (l : Link) (n : Nat) : (l.clock n).2.length = n := by
  induction n generalizing l with
  | zero => rfl
  | succ n ih => simp [Link.clock, ih]

/-- In TRAILING the link returns the idle byte and stays as it is. -/
theorem Link.clock_trailing {l : Link} (h : l.phase = .trailing) (n : Nat) : l.clock n = (l, List.replicate n idleByte) := by
  induction n with
  | zero => rfl
  | succ n ih =>
    have e : l.clockOne = (l, idleByte) := by simp [Link.clockOne, h]
    rw [Link.clock, e, ih]
    rfl

/-- A request whose act leaves the outputs as it finds them. -/
theorem State.request_answers {c : Instr} {act : State → State × Status} {u : State} {e : Status}
    (h : s.listening = true) (ha : act s.takeEvent = (u, e)) (ho : u.out = { Outputs.none with taken := true }) :
    s.request c act = .next (u.answered c e []) := by
  simp only [State.request, h, if_true, ha, State.reply, State.answered, idleByte, ho, Outputs.none]

/-- A request's answer, where its act gives `u` and `t` is `u` but for the outputs. -/
theorem State.request_gives {c : Instr} {act : State → State × Status} {t u : State} {e : Status}
    (h : s.listening = true) (ha : act s.takeEvent = (u, e)) (ho : u.out = { Outputs.none with taken := true })
    (ht : { t with out := u.out } = u) : s.request c act = .next (t.answered c e []) := by
  rw [State.request_answers h ha ho, ← ht]
  rfl

/-- A refused request's answer: nothing changes. -/
theorem State.request_refuses {c : Instr} {act : State → State × Status} {e : Status} (h : s.listening = true)
    (ha : act s.takeEvent = (s.takeEvent, e)) : s.request c act = .next (s.answered c e []) :=
  State.request_gives h ha rfl rfl

/-- The answer hides what was on the outputs before. -/
theorem State.answered_congr {t u : State} {c : Instr} {e : Status} {payload : List Byte}
    (h : { t with out := Outputs.none } = { u with out := Outputs.none }) :
    t.answered c e payload = u.answered c e payload := by
  have key : ∀ x : State, x.answered c e payload = ({ x with out := Outputs.none } : State).answered c e payload := fun _ => rfl
  rw [key t, key u, h]

@[simp] theorem State.takeEvent_answered {c : Instr} {e : Status} {payload : List Byte} :
    s.takeEvent.answered c e payload = s.answered c e payload := rfl

/-- The checks of a request, all passed. -/
theorem State.checked_pass {checks : List (Bool × Status)} {f : State → State} (h : firstFailing checks = none) :
    s.checked checks f = (f s, .done) := by simp [State.checked, h, State.done]

/-- The checks of a request, one failing first. -/
theorem State.checked_fail {checks : List (Bool × Status)} {f : State → State} {e : Status}
    (h : firstFailing checks = some e) : s.checked checks f = (s, e) := by simp [State.checked, h, State.refused]

/-! ## Notices and the latch -/

/-- The latch test changes the latch, and may post. -/
theorem State.latchTest_frame (q : Bool) : s.latchTest q =
    { s with pool := { s.pool with armed := (s.latchTest q).pool.armed }, notices := (s.latchTest q).notices,
             arbiter := (s.latchTest q).arbiter } := by
  unfold State.latchTest
  split
  · split
    · split <;> rfl
    · rfl
  · split <;> rfl

/-- The latch test after an event changes no more than the latch test. -/
theorem State.latchAfter_frame (before : Nat) (q : Bool) : s.latchAfter before q =
    { s with pool := { s.pool with armed := (s.latchAfter before q).pool.armed }, notices := (s.latchAfter before q).notices,
             arbiter := (s.latchAfter before q).arbiter } := by
  unfold State.latchAfter
  split
  · rfl
  · exact State.latchTest_frame q

/-- A quiet latch test posts nothing. -/
theorem State.latchTest_quiet : s.latchTest true = { s with pool := { s.pool with armed := (s.latchTest true).pool.armed } } := by
  unfold State.latchTest
  split
  · split <;> rfl
  · split <;> rfl

/-- Where unreserved has not fallen below a settled latch's low mark, the latch test may arm the latch and does nothing else. -/
theorem State.latchTest_risen (q : Bool) (h : s.pool.armed = true → s.pool.lowMark ≤ s.pool.unreserved) :
    s.latchTest q = { s with pool := { s.pool with
      armed := s.pool.armed || decide (s.pool.highMark ≤ s.pool.unreserved) } } := by
  unfold State.latchTest
  cases ha : s.pool.armed
  · simp only [Bool.false_eq_true, if_false, Bool.false_or]
    split
    · rename_i hh
      simp [hh]
    · rename_i hh
      simp [hh, ← ha]
  · have := h ha
    simp only [if_true, Bool.true_or]
    rw [if_neg (by omega)]
    simp [← ha]

/-- Where unreserved has not risen to a settled latch's high mark, the latch test is the fallen latch's. -/
theorem State.latchTest_fallen (h : s.pool.armed = false → s.pool.unreserved < s.pool.highMark) :
    s.latchTest false = latchFallen s := by
  unfold State.latchTest latchFallen Pool.unreserved
  cases ha : s.pool.armed
  · have := h ha
    simp only [Pool.unreserved] at this
    simp [Nat.not_le.2 this]
  · simp [Report.poolLow]

/-! ## Leaving the queue -/

/-- A held start's claim is cleared, and nothing else changes. -/
theorem State.releaseHeld_frame (n : Fin 8) : s.releaseHeld n = { s with tubes := (s.releaseHeld n).tubes } := by
  unfold State.releaseHeld
  split <;> rfl

/-- A WAITING lane's departure, written out. -/
theorem State.refuseHeld_eq {n : Fin 8} {p : TubePos} {d : Direction} (c : RefuseCause)
    (h : (s.lane n).held = some (p, d)) : s.refuseHeld n c = heldRefused s n p c := by
  have h1 : (s.postHeld n c) = s.post (Report.startRefused n p c) := by
    simp [State.postHeld, h, State.refuse]
  unfold State.refuseHeld
  rw [h1]
  unfold State.dropHeld State.releaseHeld
  have h2 : (((s.post (Report.startRefused n p c)).leaveQueue n).lane n).held = some (p, d) := by simp [h]
  rw [h2]
  rfl

/-- A departure changes the queue, the lane, its tube's claim and the notices. -/
theorem State.refuseHeld_frame (n : Fin 8) (c : RefuseCause) : s.refuseHeld n c =
    { s with pool := { s.pool with queue := s.pool.queue.filter (· ≠ n) }, tubes := (s.refuseHeld n c).tubes,
             lanes := s.lanes.set n (s.lane n).standDown, notices := (s.refuseHeld n c).notices,
             arbiter := (s.refuseHeld n c).arbiter } := by
  unfold State.refuseHeld State.dropHeld State.postHeld
  split <;> (rw [State.releaseHeld_frame]; rfl)

/-! ## Openings and the admission check -/

/-- An opening changes the takes, the tubes, the serial counter and the lane. -/
theorem State.openTake_frame (o : Opening) : s.openTake o =
    { s with takes := (s.openTake o).takes, tubes := (s.openTake o).tubes, serialCounter := s.serialCounter + 1,
             lanes := s.lanes.set o.lane ((s.lane o.lane).atOpen o.slot) } := rfl

/-- The openings of an admission check change the takes, the tubes, the serial counter and the lanes. -/
theorem State.openAll_frame (os : List Opening) : s.openAll os =
    { s with takes := (s.openAll os).takes, tubes := (s.openAll os).tubes, serialCounter := s.serialCounter + os.length,
             lanes := (s.openAll os).lanes } := by
  induction os generalizing s with
  | nil => rfl
  | cons o os ih =>
    have h : s.openAll (o :: os) = (s.openTake o).openAll os := rfl
    rw [h, ih, State.openTake_frame]
    simp only [List.length_cons, show s.serialCounter + 1 + os.length = s.serialCounter + (os.length + 1) by omega]

/-- The decisions of an admission check change the pool's reservations, queue and latch, the refused lanes with their
tubes, and the notices. -/
theorem State.admitLoop_frame (q : List (Fin 8)) (os : List Opening) : (State.admitLoop q os s).1 =
    { s with pool := { s.pool with reserved := (State.admitLoop q os s).1.pool.reserved,
                                   queue := (State.admitLoop q os s).1.pool.queue,
                                   armed := (State.admitLoop q os s).1.pool.armed },
             tubes := (State.admitLoop q os s).1.tubes, lanes := (State.admitLoop q os s).1.lanes,
             notices := (State.admitLoop q os s).1.notices, arbiter := (State.admitLoop q os s).1.arbiter } := by
  induction q generalizing os s with
  | nil => rfl
  | cons h rest ih =>
    unfold State.admitLoop
    split
    · rfl
    · split
      · rw [ih]
        unfold State.admitHead
        rw [State.latchTest_frame]
      · rw [ih, State.refuseHeld_frame]

/-- An admission check changes the pool's reservations, queue and latch, takes, tubes, lanes, the serial counter and the
notices. -/
theorem State.admissionCheck_frame : s.admissionCheck =
    { s with pool := { s.pool with reserved := s.admissionCheck.pool.reserved, queue := s.admissionCheck.pool.queue,
                                   armed := s.admissionCheck.pool.armed },
             takes := s.admissionCheck.takes, tubes := s.admissionCheck.tubes, lanes := s.admissionCheck.lanes,
             serialCounter := s.admissionCheck.serialCounter, notices := s.admissionCheck.notices,
             arbiter := s.admissionCheck.arbiter } := by
  unfold State.admissionCheck State.admitDecide
  rw [State.openAll_frame, State.admitLoop_frame]

/-- The slot that the Take Table gives, and that it gives none. -/
theorem State.freeSlot_given (given : List Nat) (k : Nat) : s.freeSlot given = some k ↔ slotGiven s given k := by
  unfold State.freeSlot slotGiven
  by_cases h : Config.spentSerial ≤ s.serialCounter + given.length
  · simp [h, Nat.not_lt.2 h]
  · rw [if_neg h, List.find?_range_eq_some]
    simp only [Bool.and_eq_true, decide_eq_true_eq, Bool.not_eq_true', List.contains_eq_mem, decide_eq_false_iff_not,
      List.mem_range, Bool.and_eq_false_imp]
    have h' : s.serialCounter + given.length < 2 ^ 32 := by simpa using h
    constructor
    · rintro ⟨⟨hf, hg⟩, hk, hj⟩
      exact ⟨h', hk, hg, hf, fun j hl hn hf' => by simpa [hn] using hj j hl hf'⟩
    · rintro ⟨_, hk, hg, hf, hj⟩
      exact ⟨⟨hf, hg⟩, hk, fun j hl hf' => by
        by_contra hn
        simp only [Bool.not_eq_false', decide_eq_true_eq] at hn
        exact hj j hl hn hf'⟩

/-- An admitted head, where a disarmed latch is below the high mark. -/
theorem State.admitHead_eq {h : Fin 8} {rest : List (Fin 8)} (hl : s.pool.armed = false → s.pool.unreserved < s.pool.highMark) :
    s.admitHead h rest = headCounted s h rest := by
  unfold State.admitHead headCounted
  refine State.latchTest_fallen fun ha => ?_
  have := hl ha
  simp only [Pool.unreserved] at this ⊢
  omega

/-- A take's opening, written out. -/
theorem State.openTake_eq (o : Opening) : s.openTake o = takeOpens s o := rfl

/-- The decisions of an admission check, where the queue holds each of its lanes once, each with its held start, and the latch agrees
with the marks. -/
theorem State.admitLoop_decides (q : List (Fin 8)) (given : List Opening) (hq : s.pool.queue = q) (hn : q.Nodup)
    (hh : ∀ n ∈ q, (s.lane n).held.isSome = true) (hm : s.pool.lowMark ≤ s.pool.highMark)
    (hl : s.pool.armed = false → s.pool.unreserved < s.pool.highMark) :
    CheckDecides s given (State.admitLoop q given s).1 (State.admitLoop q given s).2 := by
  induction q generalizing s given with
  | nil => exact .empty hq
  | cons h rest ih =>
    obtain ⟨hr, hn⟩ := List.nodup_cons.1 hn
    obtain ⟨⟨p, d⟩, hp⟩ := Option.isSome_iff_exists.1 (hh h (by simp))
    unfold State.admitLoop
    split
    · exact .blocked hq ‹_›
    · rename_i hu
      rw [hp]
      cases hk : s.freeSlot (given.map Opening.slot) with
      | some k =>
        refine .admits hq hp (Nat.not_lt.1 hu) ((State.freeSlot_given _ _).1 hk) ?_
        rw [← State.admitHead_eq hl]
        refine ih _ ?_ hn ?_ ?_ ?_
        · unfold State.admitHead
          rw [State.latchTest_frame]
        · intro n hm'
          unfold State.admitHead
          rw [State.latchTest_frame]
          exact hh n (by simp [hm'])
        · unfold State.admitHead
          rw [State.latchTest_frame]
          exact hm
        · rw [State.admitHead_eq hl]
          unfold headCounted latchFallen
          split
          · rename_i hc
            intro _
            have := hc.2
            simp only [Pool.unreserved, State.post] at this ⊢
            omega
          · intro ha
            have := hl ha
            simp only [Pool.unreserved] at this ⊢
            omega
      | none =>
        refine .refuses hq hp (Nat.not_lt.1 hu) ?_ ?_
        · rintro ⟨k, h'⟩
          rw [(State.freeSlot_given _ _).2 h'] at hk
          cases hk
        · rw [← State.refuseHeld_eq .tableFull hp]
          refine ih _ ?_ hn ?_ ?_ ?_
          · rw [State.refuseHeld_frame]
            simp only [hq]
            rw [List.filter_cons_of_neg (by simp), List.filter_eq_self]
            exact fun n h' => by simpa using fun e : n = h => hr (e ▸ h')
          · intro n h'
            have hne : n ≠ h := fun e => hr (e ▸ h')
            rw [State.refuseHeld_frame]
            have := hh n (by simp [h'])
            simpa [State.lane, Fin.ext_iff, Vector.getElem_set, Ne.symm (Fin.val_ne_of_ne hne)] using this
          · rw [State.refuseHeld_frame]; exact hm
          · rw [State.refuseHeld_frame]; exact hl

/-- An admission check on an empty queue does nothing. -/
theorem State.admissionCheck_empty (h : s.pool.queue = []) : s.admissionCheck = s := by
  simp [State.admissionCheck, State.admitDecide, h, State.admitLoop, State.openAll]

/-! ## Seals -/

/-- A seal changes the takes, their tubes, the pool's reservations, queue and latch, the lanes, the serial counter and the notices. -/
theorem State.sealTake_frame (n : Fin 8) (cause : CloseCause) (q : Bool) : s.sealTake n cause q =
    { s with pool := { s.pool with reserved := (s.sealTake n cause q).pool.reserved,
                                   queue := (s.sealTake n cause q).pool.queue,
                                   armed := (s.sealTake n cause q).pool.armed },
             takes := (s.sealTake n cause q).takes, tubes := (s.sealTake n cause q).tubes,
             lanes := (s.sealTake n cause q).lanes, serialCounter := (s.sealTake n cause q).serialCounter,
             notices := (s.sealTake n cause q).notices, arbiter := (s.sealTake n cause q).arbiter } := by
  unfold State.sealTake
  split
  · rfl
  · rename_i k hk
    simp only [State.setLane, State.sealBegin, State.admitDecide, State.sealEnd]
    rw [State.openAll_frame]
    have h1 : ∀ (x : State) (t : Take), x.sealTube t = { x with tubes := (x.sealTube t).tubes } := by
      intro x t
      unfold State.sealTube
      split <;> rfl
    split
    · rw [h1]
      simp only [State.setTake]
      rw [State.admitLoop_frame]
      simp only [State.returnReservation]
      rw [State.latchAfter_frame]
    · simp only [State.post]
      rw [h1]
      simp only [State.setTake]
      rw [State.admitLoop_frame]
      simp only [State.returnReservation]
      rw [State.latchAfter_frame]

/-! ## Every command is answered by a next state -/

/-- A request is always answered by a next state. -/
theorem State.request_next (c : Instr) (act : State → State × Status) : ∃ t, s.request c act = .next t := by
  unfold State.request
  split <;> exact ⟨_, rfl⟩

/-- Every well-formed command is answered by a next state: no command stops the part. -/
theorem exec_next (c : Instr) (s : State) (h : c.wf = true) : ∃ t, exec c s = .next t := by
  cases c with
  | rigPortTransaction t =>
    simp only [Instr.wf] at h
    simp only [exec, execRigPortTransaction, h]
    simp only [Bool.not_true, Bool.false_eq_true, if_false]
    split <;> exact ⟨_, rfl⟩
  | badRequest frame =>
    simp only [exec, execBadRequest]
    split
    · split
      · exact State.request_next _ _
      · exact ⟨_, rfl⟩
    · exact ⟨_, rfl⟩
  | storePortGrant =>
    simp only [exec, execStorePortGrant]
    split
    · exact ⟨_, rfl⟩
    · split <;> exact ⟨_, rfl⟩
  | storePortReadReturn r =>
    simp only [exec, execStorePortReadReturn]
    split
    · exact ⟨_, rfl⟩
    · split <;> exact ⟨_, rfl⟩
  | chipSelectFall =>
    simp only [exec, execChipSelectFall]
    split
    · exact ⟨_, rfl⟩
    · split <;> exact ⟨_, rfl⟩
  | chipSelectRise clocked =>
    simp only [exec, execChipSelectRise]
    split
    · exact ⟨_, rfl⟩
    · split <;> exact ⟨_, rfl⟩
  | readEntry t i l =>
    simp only [exec, execReadEntry]
    split <;> exact ⟨_, rfl⟩
  | powerOnReset v => exact ⟨_, rfl⟩
  | powerOnResetEntry clocked =>
    simp only [exec, execPowerOnResetEntry]
    split <;> exact ⟨_, rfl⟩
  | rigReset clocked =>
    simp only [exec, execRigReset]
    split
    · exact ⟨_, rfl⟩
    · split <;> exact ⟨_, rfl⟩
  | rigResetRelease =>
    simp only [exec, execRigResetRelease]
    split <;> exact ⟨_, rfl⟩
  | senseWindowSample n l =>
    simp only [exec, execSenseWindowSample]
    split <;> exact ⟨_, rfl⟩
  | drivePhaseStart n =>
    simp only [exec, execDrivePhaseStart]
    split <;> exact ⟨_, rfl⟩
  | periodEnd n =>
    simp only [exec, execPeriodEnd]
    split <;> exact ⟨_, rfl⟩
  | idleTimerExpiry n =>
    simp only [exec, execIdleTimerExpiry]
    split <;> exact ⟨_, rfl⟩
  | drainTimerExpiry n =>
    simp only [exec, execDrainTimerExpiry]
    split <;> exact ⟨_, rfl⟩
  | admissionTimerExpiry n =>
    simp only [exec, execAdmissionTimerExpiry]
    split <;> exact ⟨_, rfl⟩
  | writeEntryLayout index e =>
    simp only [exec, execWriteEntryLayout]
    exact State.request_next _ _
  | writeEntryGlobal index e =>
    simp only [exec, execWriteEntryGlobal]
    exact State.request_next _ _
  | writeEntryLaneConfig index e =>
    simp only [exec, execWriteEntryLaneConfig]
    exact State.request_next _ _
  | writeEntryTube index e =>
    simp only [exec, execWriteEntryTube]
    exact State.request_next _ _
  | writeEntryWindow index e =>
    simp only [exec, execWriteEntryWindow]
    exact State.request_next _ _
  | writeKey index k =>
    simp only [exec, execWriteKey]
    exact State.request_next _ _
  | writeValue index v =>
    simp only [exec, execWriteValue]
    exact State.request_next _ _
  | writeBoth index k v =>
    simp only [exec, execWriteBoth]
    exact State.request_next _ _
  | disable index =>
    simp only [exec, execDisable]
    exact State.request_next _ _
  | writeEntryWatch index e =>
    simp only [exec, execWriteEntryWatch]
    exact State.request_next _ _
  | writeEntryLines index e =>
    simp only [exec, execWriteEntryLines]
    exact State.request_next _ _
  | writeEntryReadOnly t index =>
    simp only [exec, execWriteEntryReadOnly]
    exact State.request_next _ _
  | engage =>
    simp only [exec, execEngage]
    exact State.request_next _ _
  | bypass =>
    simp only [exec, execBypass]
    exact State.request_next _ _
  | enableLane index =>
    simp only [exec, execEnableLane]
    exact State.request_next _ _
  | disableLane index =>
    simp only [exec, execDisableLane]
    exact State.request_next _ _
  | acceptTake index serial =>
    simp only [exec, execAcceptTake]
    exact State.request_next _ _
  | rejectTake index serial =>
    simp only [exec, execRejectTake]
    exact State.request_next _ _
  | releaseTake index serial =>
    simp only [exec, execReleaseTake]
    exact State.request_next _ _
  | loadMap b f c =>
    simp only [exec, execLoadMap]
    exact State.request_next _ _
  | abortLoad =>
    simp only [exec, execAbortLoad]
    exact State.request_next _ _
  | lockCampaign =>
    simp only [exec, execLockCampaign]
    exact State.request_next _ _
  | clearAttention =>
    simp only [exec, execClearAttention]
    exact State.request_next _ _
  | clearHold index =>
    simp only [exec, execClearHold]
    exact State.request_next _ _

/-! ## The clock -/

/-- Events that come are put behind those a lane has not taken; a DISABLED lane is given none. -/
@[simp] theorem State.bringDue_laneLine (es : List LineEvent) (n : Fin 8) : (s.bringDue es).laneLine n =
    if (s.lane n).enabled then { s.laneLine n with due := (s.laneLine n).due ++ es } else s.laneLine n := by
  simp [State.bringDue, State.laneLine]

/-- A clock cycle changes the timebase and the events due alone. -/
theorem State.clockCycle_frame : s.clockCycle =
    { s with timebase := s.clockCycle.timebase, laneLines := s.clockCycle.laneLines, out := Outputs.none } := by
  unfold State.clockCycle; split <;> rfl

/-- So does the clock's run to the next instant that marks the period. -/
theorem State.timely_frame (n : Fin 8) : s.timely n =
    { s with timebase := (s.timely n).timebase, laneLines := (s.timely n).laneLines } := by
  unfold State.timely; split <;> rfl

/-- Where an event that has come waits, the clock does not run on. -/
theorem State.timely_of_due {n : Fin 8} (h : (s.laneLine n).due ≠ []) : s.timely n = s := by
  simp [State.timely, h]

/-- An event is taken only where it is the next (R166). -/
theorem State.comes_of_head {n : Fin 8} {e : LineEvent} (h : canCome s n e) (e' : LineEvent) :
    s.comes n e' = decide (e = e') := by
  obtain ⟨h1, h2, h3⟩ := h
  have hd : (s.laneLine n).due ≠ [] := by intro h0; simp [h0] at h3
  simp [State.comes, Lane.enabled, State.timely_of_due hd, h1, h2, h3]

/-! ## Checks in the statements' words -/

/-- ENGAGE's layout checks say what the statements say of a layout (R151). -/
theorem layoutValid_iff (l : Layout) : layoutValid l = true ↔ layoutGood l := by
  have apart : ∀ a n b m : Nat, 0 < n → 0 < m →
      ((∀ x, ¬((a ≤ x ∧ x < a + n) ∧ b ≤ x ∧ x < b + m)) ↔ (a + n ≤ b ∨ b + m ≤ a)) := by
    intro a n b m hn hm
    constructor
    · intro h
      by_contra hc
      push Not at hc
      exact h (max a b) ⟨⟨le_max_left _ _, by omega⟩, le_max_right _ _, by omega⟩
    · rintro h x ⟨⟨h1, h2⟩, h3, h4⟩
      omega
  simp only [layoutGood, layoutValid, layoutRegions, List.pairwise_cons, List.mem_cons, List.not_mem_nil, or_false,
    forall_eq_or_imp, forall_eq, allApart, Region.placed, Region.apart, List.all_cons, List.all_nil, Bool.and_true,
    Bool.and_eq_true, decide_eq_true_eq, Bool.or_eq_true, Config.apertureBytes, Config.segments, Config.segmentBytes]
  repeat rw [apart _ _ _ _ (by norm_num) (by norm_num)]
  simp

/-- An index above 7 names no lane. -/
theorem laneOf_none {n : Nat} (h : 7 < n) : laneOf n = none := by simp [laneOf]; omega

/-- An index of a lane names it. -/
theorem laneOf_val (n : Fin 8) : laneOf n.val = some n := by simp [laneOf]

/-- The layouts of the presets are good (R154). -/
theorem layoutGood_preset {straps : BitVec 2} (h : straps ≠ 0) : layoutGood (presetLayout straps) := by
  rw [← layoutValid_iff]
  revert straps; decide

/-! ## What the invariants read -/

/-- The books read the lanes, the takes, the tubes, the pool, the loader and the lane lines alone. -/
theorem Books.of_fields {t : State} (h : Books s) (e1 : t.lanes = s.lanes) (e2 : t.takes = s.takes) (e3 : t.tubes = s.tubes)
    (e4 : t.pool = s.pool) (e5 : t.loader = s.loader) (e6 : t.laneLines = s.laneLines) : Books t := by
  obtain ⟨h1, h2, h3, h4, ⟨a1, a2, a3⟩, ⟨b1, b2, b3⟩, ⟨c1, c2, c3, c4⟩, ⟨d1, d2, d3⟩, ⟨f1, f2, f3, f4, f5, f6⟩, ⟨g1, g2⟩,
    ⟨l1, l2, l3⟩⟩ := h
  simp only [State.takeAt, State.tubeAt, State.lane, State.laneLine] at *
  constructor
  all_goals first
    | (constructor <;> simp only [State.takeAt, State.tubeAt, State.lane, State.laneLine, e1, e2, e3, e4, e5, e6] <;> assumption)
    | (simp only [State.takeAt, e2]; assumption)
    | (rw [e3]; assumption)

/-- The tubes' agreement reads the lanes, the takes and the tubes alone. -/
theorem TubesMatch.of_fields {t : State} (h : TubesMatch s) (e1 : t.lanes = s.lanes) (e2 : t.takes = s.takes)
    (e3 : t.tubes = s.tubes) : TubesMatch t := by
  obtain ⟨h1, h2, h3, h4, h5⟩ := h
  simp only [State.takeAt, State.tubeAt, State.works, State.lane] at *
  constructor <;> simp only [State.takeAt, State.tubeAt, State.works, State.lane, e1, e2, e3] <;> assumption

end Sys2Proof.Machine
end

