-- ==== Sys2Proof/Tests/Slice0.lean ====
section
/-! SUPPORT. The model's own tests: ill-formed commands, words of requests and markers written out from the manual, and for
every statement that has hypotheses a state and operands that meet them. -/

namespace Sys2Proof.Tests

open Sys2Proof.Machine

/-! ## States the tests use -/

/-- Row 0, column 0. -/
def corner : TubePos := { row := 0, col := 0 }

/-- ENGAGED under preset 1, with the request of a frame awaited. -/
def engaged : State :=
  { State.reset with
    mode := .engaged, layout := presetLayout 1, strap := 1
    pins := { selectLow := true, rigReset := false, powerReset := false }
    link := { phase := .receiving, waitLeft := 0, reply := [] } }

/-- The part held in power-on reset. -/
def held : State := { State.reset with pins := { State.reset.pins with powerReset := true } }

/-- A frame in a phase, with one WAIT byte and two reply bytes still to come. -/
def framed (phase : LinkPhase) : State := { engaged with link := { phase := phase, waitLeft := 1, reply := [7, 8] } }

/-- Every segment. -/
def allFree : List Nat := List.range Config.segments

/-- The same part with a lane 0, takes, a tube 0 and a free list of the test's choosing. -/
def partWith (fl : List Nat) (l : Lane) (ts : List (Nat × Take)) (x : Tube) (q : List (Fin 8)) (reserved serial : Nat) : State :=
  { engaged with
    lanes := engaged.lanes.set 0 l, takes := ts, tubes := [(0, x)], serialCounter := serial
    pool := { engaged.pool with freeList := fl, freeCount := fl.length, queue := q, reserved := reserved } }

/-- The same with every segment free. -/
def part (l : Lane) (ts : List (Nat × Take)) (x : Tube) (q : List (Fin 8)) (reserved serial : Nat) : State :=
  partWith allFree l ts x q reserved serial

/-- Lane 0, ARMED. -/
def armedLane : Lane := { Lane.disabled (LaneConfig.reset 0) with state := .armed }

/-- Tube 0, in the map. -/
def mapped : Tube := { Tube.reset with presence := .inMap }

/-- Take 0 of lane 0, just opened. -/
def openTake : Take := Take.atOpen 1 { lane := 0, slot := 0, pos := corner, direction := .push } 8

/-- Take 0, sealed with nothing recorded. -/
def sealedTake : Take := { openTake with state := .sealed, remaining := 0, closeCause := some .endMarker }

/-- Lane 0 ARMED, tube 0 in the map. -/
def armed : State := part armedLane [] mapped [] 0 1

/-- Lane 0 WAITING with a start on tube 0. -/
def waiting : State :=
  part { armedLane with state := .waiting, held := some (corner, .push), pauseAdmission := true, admission := some 0
                        cfg := { LaneConfig.reset 0 with admission := 1 } }
    [] { mapped with claim := some 0 } [0] 0 1

/-- Lane 0 OPEN, recording take 0 of tube 0. -/
def opened : State :=
  part { armedLane with state := .opened, current := some 0, idle := some 19999 } [(0, openTake)]
    { (mapped.opened 0) with claim := some 0 } [] 8 2

/-- Lane 0 CLOSING with final sequence 7, recording take 0 of tube 0. -/
def closing : State :=
  part { armedLane with state := .closing, current := some 0, finalSeq := some 7, drain := some 9999 }
    [(0, { openTake with state := .closing })] { (mapped.opened 0) with claim := some 0 } [] 8 2

/-- Take 0 SEALED, the only take of tube 0. -/
def settled : State :=
  part armedLane [(0, sealedTake)] { (mapped.opened 0) with status := .pending, pending := 1 } [] 0 2

/-- Take 0 ACCEPTED. -/
def accepted : State :=
  part armedLane [(0, { sealedTake with state := .accepted })]
    { (mapped.opened 0) with status := .accepted, accepted := some 0, acceptMark := true } [] 0 2

/-! ### Their books -/

theorem lane_part (fl : List Nat) (l : Lane) (ts : List (Nat × Take)) (x : Tube) (q : List (Fin 8)) (r c : Nat) (n : Fin 8) :
    (partWith fl l ts x q r c).lane n = if n = 0 then l else Lane.disabled (LaneConfig.reset n) := by
  fin_cases n <;> rfl

theorem tubeAt_part (fl : List Nat) (l : Lane) (ts : List (Nat × Take)) (x : Tube) (q : List (Fin 8)) (r c i : Nat) :
    (partWith fl l ts x q r c).tubeAt i = if i = 0 then x else Tube.reset := rfl

theorem takeAt_part (fl : List Nat) (l : Lane) (t : Take) (x : Tube) (q : List (Fin 8)) (r c k : Nat) :
    (partWith fl l [(0, t)] x q r c).takeAt k = if k = 0 then t else Take.free := rfl

theorem takeAt_part_nil (fl : List Nat) (l : Lane) (x : Tube) (q : List (Fin 8)) (r c k : Nat) :
    (partWith fl l [] x q r c).takeAt k = Take.free := rfl

theorem laneLine_part (fl : List Nat) (l : Lane) (ts : List (Nat × Take)) (x : Tube) (q : List (Fin 8)) (r c : Nat) (n : Fin 8) :
    (partWith fl l ts x q r c).laneLine n = LaneLine.idle := by
  fin_cases n <;> rfl

theorem lane_disabled (n : Fin 8) :
    (Lane.disabled (LaneConfig.reset n)).current = none ∧ (Lane.disabled (LaneConfig.reset n)).held = none ∧
      (Lane.disabled (LaneConfig.reset n)).state = .disabled ∧ (Lane.disabled (LaneConfig.reset n)).idle = none ∧
      (Lane.disabled (LaneConfig.reset n)).drain = none ∧ (Lane.disabled (LaneConfig.reset n)).admission = none ∧
      (Lane.disabled (LaneConfig.reset n)).finalSeq = none ∧ (Lane.disabled (LaneConfig.reset n)).pauseAdmission = false :=
  ⟨rfl, rfl, rfl, rfl, rfl, rfl, rfl, rfl⟩

/-- The fields of a lane that `Books` speaks of agree with its state. -/
def laneGood (l : Lane) : Prop :=
  (∀ c, l.idle = some c → l.state = .opened ∧ c < l.cfg.idle) ∧ (∀ c, l.drain = some c → l.state = .closing ∧ c < l.cfg.drain) ∧
    (∀ c, l.admission = some c → l.state = .waiting ∧ c < l.cfg.admission) ∧
    (l.finalSeq.isSome = true → l.state = .closing) ∧ (l.pauseAdmission = true ↔ l.state = .waiting) ∧
    (l.held.isSome = true ↔ l.state = .waiting) ∧ l.state ≠ .disabled

theorem fields_part {fl : List Nat} {l : Lane} {ts : List (Nat × Take)} {x : Tube} {q : List (Fin 8)} {r c : Nat} (h : laneGood l) :
    LaneFieldsMatch (partWith fl l ts x q r c) := by
  obtain ⟨h1, h2, h3, h4, h5, _, h7⟩ := h
  constructor <;> intro n <;> simp only [lane_part, laneLine_part] <;> split <;>
    simp_all [Lane.disabled]

theorem queue_part {fl : List Nat} {l : Lane} {ts : List (Nat × Take)} {x : Tube} {q : List (Fin 8)} {r c : Nat} (h : laneGood l)
    (hq : q = if l.state = .waiting then [0] else []) : QueueMatchesLanes (partWith fl l ts x q r c) := by
  obtain ⟨_, _, _, _, _, h6, _⟩ := h
  have e : (partWith fl l ts x q r c).pool.queue = q := rfl
  constructor
  · intro n; simp only [lane_part]; split <;> simp_all [lane_disabled]
  · intro n; rw [e, hq]; simp only [lane_part]; by_cases hn : n = 0 <;> by_cases hw : l.state = .waiting <;>
      simp_all [lane_disabled]
  · rw [e, hq]; split <;> simp

theorem pool_part {fl : List Nat} {l : Lane} {ts : List (Nat × Take)} {x : Tube} {q : List (Fin 8)} {r c : Nat}
    (hr : r = (ts.map fun e => e.2.remaining).sum) (hs : r + 64 ≤ fl.length)
    (hc : (fl ++ ts.flatMap fun e => e.2.chain).Perm (List.range Config.segments)) :
    PoolBalances (partWith fl l ts x q r c) ∧ LatchSettled (partWith fl l ts x q r c) := by
  refine ⟨⟨rfl, hr, ?_, hc⟩, ⟨?_, fun _ => ?_, fun h => Bool.noConfusion h⟩⟩
  · show r ≤ fl.length; omega
  · show 64 ≤ 128; omega
  · show 64 ≤ fl.length - r; omega

/-- With every segment free the books need no chain. -/
theorem allFree_perm {t : Take} (h : t.chain = []) :
    (allFree ++ [((0 : Nat), t)].flatMap fun e => e.2.chain).Perm (List.range Config.segments) := by
  simp [h, allFree]

theorem load_part {fl : List Nat} {l : Lane} {ts : List (Nat × Take)} {x : Tube} {q : List (Fin 8)} {r c : Nat} :
    LoadInRange (partWith fl l ts x q r c) := by
  have e : (partWith fl l ts x q r c).loader = State.reset.loader := rfl
  refine ⟨?_, ?_, ?_⟩ <;> rw [e]
  · decide
  · decide
  · intro h; exact absurd h (by decide)

/-- The books of a part without a take. -/
theorem books_none {l : Lane} {x : Tube} {q : List (Fin 8)} {c : Nat} (h : laneGood l) (hc : l.current = none)
    (hr : l.recording = false) (hq : q = if l.state = .waiting then [0] else []) (hx : x ≠ Tube.reset)
    (ha : x.accepted = none) : Books (part l [] x q 0 c) := by
  have hp := @pool_part allFree l [] x q 0 c rfl (by simp [allFree, Config.segments]) (by simp [allFree])
  unfold part
  refine ⟨rfl, ?_, fun _ _ => rfl, fun _ _ => rfl, ⟨?_, ?_, ?_⟩, queue_part h hq, hp.1, hp.2, fields_part h, ⟨?_, ?_⟩, load_part⟩
  · have : (partWith allFree l [] x q 0 c).tubes = [(0, x)] := rfl
    simp [Sparse.wf, Sparse.wfFrom, this, hx]
  · intro n k; simp only [lane_part]; split <;> simp_all [lane_disabled]
  · intro n; simp only [lane_part]; split <;> simp_all [lane_disabled, Lane.recording]
  · intro k; simp [takeAt_part_nil, Take.free, TakeState.recording]
  · intro i k; rw [tubeAt_part]; split <;> simp [ha, Tube.reset]
  · intro k i hk; simp [takeAt_part_nil, Take.free] at hk

/-- The books of a part with take 0 alone. -/
theorem books_one {fl : List Nat} {l : Lane} {t : Take} {x : Tube} {c : Nat} (h : laneGood l) (hw : l.state ≠ .waiting)
    (hc : (l.current = some 0 ∧ t.lane = 0 ∧ (l.state = .opened ∧ t.state = .opened ∨ l.state = .closing ∧ t.state = .closing)) ∨
      (l.current = none ∧ l.recording = false ∧ t.state.recording = false ∧ t.remaining = 0))
    (hf : t.state ≠ .free) (hs : t.remaining + 64 ≤ fl.length)
    (hch : (fl ++ [((0 : Nat), t)].flatMap fun e => e.2.chain).Perm (List.range Config.segments)) (hx : x ≠ Tube.reset)
    (ha : ∀ k, x.accepted = some k ↔ k = 0 ∧ t.state = .accepted) (ht : t.tubeIndex = some 0) :
    Books (partWith fl l [(0, t)] x [] t.remaining c) := by
  have hp := @pool_part fl l [(0, t)] x [] t.remaining c (by simp) hs hch
  have hft : t ≠ Take.free := fun e => hf (by rw [e]; rfl)
  refine ⟨?_, ?_, ?_, ?_, ⟨?_, ?_, ?_⟩, queue_part h (by simp [hw]), hp.1, hp.2, fields_part h, ⟨?_, ?_⟩, load_part⟩
  · have : (partWith fl l [(0, t)] x [] t.remaining c).takes = [(0, t)] := rfl
    simp [Sparse.wf, Sparse.wfFrom, this, hft]
  · have : (partWith fl l [(0, t)] x [] t.remaining c).tubes = [(0, x)] := rfl
    simp [Sparse.wf, Sparse.wfFrom, this, hx]
  · intro k; rw [takeAt_part]; split <;> simp_all
  · intro k; rw [takeAt_part]; split <;> simp_all [TakeState.recording, Take.free]
    intro h1 h2; rcases hc with ⟨_, _, ⟨_, e⟩ | ⟨_, e⟩⟩ | ⟨_, _, _, e⟩ <;> simp_all
  · intro n k; simp only [lane_part, takeAt_part]; rcases hc with ⟨e, e1, e2⟩ | ⟨e, _⟩ <;> by_cases hn : n = 0 <;>
      simp_all [lane_disabled]
  · intro n; simp only [lane_part]; rcases hc with ⟨e, _⟩ | ⟨e, e2, _⟩ <;> split <;>
      simp_all [lane_disabled, Lane.recording]
  · intro k; simp only [takeAt_part, lane_part]
    by_cases hk : k = 0
    · subst hk; rcases hc with ⟨e, e1, _⟩ | ⟨_, _, e, _⟩ <;> simp_all
    · simp [hk, Take.free, TakeState.recording]
  · intro i k; rw [tubeAt_part, takeAt_part]; by_cases hi : i = 0 <;> simp_all [Tube.reset]
  · intro k i; rw [tubeAt_part, takeAt_part]; by_cases hk : k = 0 <;> simp_all [Take.free]

/-- The tubes of a part without a take. -/
theorem tubes_none {fl : List Nat} {l : Lane} {x : Tube} {q : List (Fin 8)} {c : Nat} (hc : l.current = none)
    (hh : l.held = none ∧ x.claim = none ∨ l.held = some (corner, .push) ∧ x.claim = some 0) (hs : x.status ≠ .inTest)
    (hp : x.pending = 0) (hy : x.history = []) : TubesMatch (partWith fl l [] x q 0 c) := by
  refine ⟨?_, ?_, ?_, ?_, ?_⟩
  · intro i n
    simp only [tubeAt_part, State.works, lane_part, takeAt_part_nil]
    by_cases hi : i = 0 <;> by_cases hn : n = 0 <;> rcases hh with ⟨h1, h2⟩ | ⟨h1, h2⟩ <;>
      simp_all [lane_disabled, Tube.reset, TubePos.index, corner, eq_comm]
  · intro i; simp only [tubeAt_part, takeAt_part_nil]; split <;> simp_all [Take.free, TakeState.recording, Tube.reset]
  · intro i; simp only [tubeAt_part]; split <;> simp_all [partWith, Tube.reset]
  · intro i k hk; simp only [tubeAt_part] at hk; split at hk <;> simp_all [Tube.reset]
  · intro i; simp only [tubeAt_part]; split <;> simp_all [Tube.reset]

/-- The tubes of a part with take 0 alone, a take of tube 0. -/
theorem tubes_one {fl : List Nat} {l : Lane} {t : Take} {x : Tube} {r c : Nat} (hl : l.held = none) (ht : t.tubeIndex = some 0)
    (hh : l.current = none ∧ x.claim = none ∧ t.state.recording = false ∧ x.status ≠ .inTest ∨
      l.current = some 0 ∧ x.claim = some 0 ∧ t.state.recording = true ∧ x.status = .inTest)
    (hp : x.pending = if t.state = .sealed then 1 else 0) (hy : x.history = [0]) :
    TubesMatch (partWith fl l [(0, t)] x [] r c) := by
  have hk : ∀ k i, ((partWith fl l [(0, t)] x [] r c).takeAt k).tubeIndex = some i ↔ k = 0 ∧ i = 0 := by
    intro k i; rw [takeAt_part]; by_cases h : k = 0
    · rw [if_pos h, ht]; simp [h, eq_comm]
    · rw [if_neg h]; simp [h, Take.free, Take.tubeIndex]
  have hr : ((partWith fl l [(0, t)] x [] r c).takeAt 0).state = t.state := rfl
  refine ⟨?_, ?_, ?_, ?_, ?_⟩
  · intro i n
    simp only [State.works, hk, tubeAt_part, lane_part]
    by_cases hi : i = 0 <;> by_cases hn : n = 0 <;> rcases hh with ⟨h1, h2, _⟩ | ⟨h1, h2, _⟩ <;>
      simp only [hi, hn, hl, h1, h2, if_true, if_false, lane_disabled] <;> simp [Tube.reset, eq_comm, hn]
  · intro i; simp only [hk]
    by_cases hi : i = 0
    · simp only [hi, and_true]
      rcases hh with ⟨_, _, h1, h2⟩ | ⟨_, _, h1, h2⟩
      · exact ⟨fun e => absurd e h2, fun ⟨k, e, h⟩ => by subst h; rw [hr, h1] at e; exact nomatch e⟩
      · exact ⟨fun _ => ⟨0, h1, rfl⟩, fun _ => h2⟩
    · simp [hi, tubeAt_part, Tube.reset]
  · intro i
    have e : (partWith fl l [(0, t)] x [] r c).takes = [(0, t)] := rfl
    rw [e, tubeAt_part]
    by_cases hi : i = 0 <;> by_cases hs : t.state = .sealed <;> simp [hi, hs, hp, ht, Tube.reset, eq_comm (a := (0 : Nat))]
  · intro i k; rw [hk, tubeAt_part]; by_cases hi : i = 0 <;> simp [hi, hy, Tube.reset]
  · intro i; simp only [tubeAt_part]; split <;> simp_all [Tube.reset]

theorem laneGood_armed : laneGood armedLane := by
  simp [laneGood, armedLane, Lane.disabled]

theorem books_armed : Books armed ∧ TubesMatch armed :=
  ⟨books_none laneGood_armed rfl rfl rfl (by decide) rfl,
    tubes_none rfl (Or.inl ⟨rfl, rfl⟩) (by decide) rfl rfl⟩

theorem books_waiting : Books waiting ∧ TubesMatch waiting :=
  ⟨books_none (by simp [laneGood, armedLane, Lane.disabled]) rfl rfl rfl (by decide) rfl,
    tubes_none rfl (Or.inr ⟨rfl, rfl⟩) (by decide) rfl rfl⟩

theorem books_opened : Books opened ∧ TubesMatch opened :=
  ⟨books_one (by simp [laneGood, armedLane, Lane.disabled, LaneConfig.reset]) (by decide)
      (Or.inl ⟨rfl, rfl, Or.inl ⟨rfl, rfl⟩⟩) (by decide) (by simp [allFree, Config.segments, openTake, Take.atOpen]) (allFree_perm rfl) (by decide)
      (by simp [Tube.opened, mapped, Tube.reset, openTake, Take.atOpen]) rfl,
    tubes_one rfl rfl (Or.inr ⟨rfl, rfl, rfl, rfl⟩) rfl rfl⟩

theorem books_closing : Books closing ∧ TubesMatch closing :=
  ⟨books_one (by simp [laneGood, armedLane, Lane.disabled, LaneConfig.reset]) (by decide)
      (Or.inl ⟨rfl, rfl, Or.inr ⟨rfl, rfl⟩⟩) (by decide) (by simp [allFree, Config.segments, openTake, Take.atOpen]) (allFree_perm rfl) (by decide)
      (by simp [Tube.opened, mapped, Tube.reset]) rfl,
    tubes_one rfl rfl (Or.inr ⟨rfl, rfl, rfl, rfl⟩) rfl rfl⟩

theorem books_settled : Books settled ∧ TubesMatch settled :=
  ⟨books_one laneGood_armed (by decide) (Or.inr ⟨rfl, rfl, rfl, rfl⟩) (by decide) (by simp [allFree, Config.segments, sealedTake]) (allFree_perm rfl) (by decide)
      (by simp [Tube.opened, mapped, Tube.reset, sealedTake]) rfl,
    tubes_one rfl rfl (Or.inl ⟨rfl, rfl, rfl, by decide⟩) rfl rfl⟩

theorem books_accepted : Books accepted ∧ TubesMatch accepted :=
  ⟨books_one laneGood_armed (by decide) (Or.inr ⟨rfl, rfl, rfl, rfl⟩) (by decide) (by simp [allFree, Config.segments, sealedTake]) (allFree_perm rfl) (by decide)
      (by simp [eq_comm]) rfl,
    tubes_one rfl rfl (Or.inl ⟨rfl, rfl, rfl, by decide⟩) rfl rfl⟩

/-- The ports of every part of the tests are sound. -/
theorem ports_part {fl : List Nat} {l : Lane} {ts : List (Nat × Take)} {x : Tube} {q : List (Fin 8)} {r c : Nat} :
    PortsSound (partWith fl l ts x q r c) := by
  refine ⟨?_, ?_, ?_, ?_, ?_, ?_⟩ <;> simp [partWith, engaged, State.reset]

/-! ## Ill-formed commands -/

/-- A read of lane 0's aperture. -/
def laneRead (size : Nat) : RigTxn := { addr := 0x00C0000000, source := 0, op := .read size }

/-- A write to an address of preset 1. -/
def writeAt (addr : Addr) (source : Source) (data : List Byte) : RigTxn := { addr := addr, source := source, op := .write data }

theorem test_wf_refuses_no_bytes : (Instr.rigPortTransaction (laneRead 0)).wf = false := by decide
theorem test_wf_refuses_65_bytes : (Instr.rigPortTransaction (laneRead 65)).wf = false := by decide
theorem test_wf_refuses_crossing_units :
    (Instr.rigPortTransaction { laneRead 2 with addr := 0x00C000003F }).wf = false := by decide
theorem test_wf_takes_whole_unit : (Instr.rigPortTransaction (laneRead 64)).wf = true := by decide
theorem test_wf_refuses_incomplete_frame : (Instr.badRequest [0x10, 0, 0, 0, 0, 0]).wf = false := by decide
theorem test_malformed_is_refused :
    exec (.rigPortTransaction (laneRead 0)) engaged = .refused .malformedTransaction := rfl

/-! ## Words written out from the manual -/

/-- A marker (R186): kind, lane, row, column, direction, a free byte, final sequence, check word, and free bytes of 0. -/
def marker (kind lane row column direction : Byte) (final check : BitVec 16) : List Byte :=
  [kind, lane, row, column, direction, 0] ++ leBytes 2 final.toNat ++ leBytes 2 check.toNat ++ zeros 54

/-- Chapter 12's worked example: TUBE_START on lane 3 and tube (40, 77) carries check word 0xAFD7. -/
theorem test_marker_words :
    marker 1 3 40 77 0 0 0xAFD7 = [0x01, 0x03, 0x28, 0x4D, 0x00, 0x00, 0x00, 0x00, 0xD7, 0xAF] ++ zeros 54 ∧
    (∀ d, (if d = 0xAFD7 then some (Marker.tubeStart 3 ⟨40, 77⟩ .push) else none) =
      (decodeMarker (marker 1 3 40 77 0 0 d)).toOption ∨ d ≠ 0xAFD7) ∧
    (decodeMarker (marker 1 3 40 77 2 0 0xAFD5)).toOption = none := by
  refine ⟨by decide, fun d => ?_, by decide⟩
  by_cases h : d = 0xAFD7
  · subst h; exact Or.inl (by decide)
  · exact Or.inr h

/-- The notice of that example: START_DEFERRED, running number 900, unreserved 5. -/
theorem test_notice_words : Notice.bytes ⟨900, Report.startDeferred 3 ⟨40, 77⟩ 5⟩ =
    [0x84, 0x03, 0, 0, 3, 0x09, 3, 0, 0, 0, 40, 77, 0, 0, 0, 0, 0, 0, 0, 0, 5] ++ zeros 11 := by decide

/-- READ_ENTRY of TAKE 20: 01 05 14 00 00 00 E6 (R189). -/
theorem test_request_words : requestBytes (.readEntry .take 20 0) = [0x01, 0x05, 0x14, 0x00, 0x00, 0x00, 0xE6] ∧
    requestBytes .engage = [0x10, 0x00, 0x00, 0x00, 0x00, 0x00, 0xF0] ∧
    requestBytes (.acceptTake 3 7) = [0x20, 0x00, 0x03, 0x00, 0x04, 0x00, 0x07, 0x00, 0x00, 0x00, 0xD2] := by decide

theorem test_no_word_spells_a_command : decodeTableWord 16 0x10 = none := rfl

/-- R154's three presets pass ENGAGE's checks, and strap value 0 does not. -/
theorem test_presets : layoutValid (presetLayout 0) = false ∧ layoutValid (presetLayout 1) = true ∧
    layoutValid (presetLayout 2) = true ∧ layoutValid (presetLayout 3) = true := by decide

/-! ## What the hypotheses of the statements allow -/

theorem meets_StepRunsFrontCommand :
    ({ State.reset with pending := [.engage, .bypass] } : State).pending = .engage :: [.bypass] := rfl

/-- An empty queue inside a tick, at the end of the sense window, and at the end of the period; and in power-on reset. -/
theorem meets_EmptyQueuePassesOneClockCycle :
    (∀ tb ∈ [State.reset.timebase, { State.reset.timebase with tick := 3, cycle := 24 },
        { State.reset.timebase with tick := 199, cycle := 24 }],
      ({ armed with timebase := tb } : State).pending = [] ∧ ({ armed with timebase := tb } : State).pins.powerReset = false ∧
      tb.cycle < tb.divider ∧ tb.tick < tb.period ∧ tb.window < tb.period) ∧
    held.pending = [] ∧ held.pins.powerReset = true := by decide +kernel

theorem meets_StrapsSelectLayoutAndMode : ∃ t, exec (.rigReset []) engaged = .next t := exec_next _ _ rfl

/-- The part held in power-on reset, presented with ENGAGE. -/
theorem meets_PartInPowerOnResetTakesNoEvent : State.reset.pins.powerReset = false ∧
    held.pins.powerReset = true ∧ (∀ straps, Instr.engage ≠ .powerOnReset straps) ∧ Instr.engage.wf = true :=
  ⟨rfl, rfl, (fun _ h => by cases h), rfl⟩

theorem meets_RigResetEndsWorkAndKeepsRecords :
    Books opened ∧ TubesMatch opened ∧ opened.pins.powerReset = false ∧ opened.pins.rigReset = false :=
  ⟨books_opened.1, books_opened.2, rfl, rfl⟩

theorem meets_RigResetIsTakenOncePerAssertion :
    ({ opened with pins := { opened.pins with rigReset := true } } : State).pins.rigReset = true ∧
    ({ opened with pins := { opened.pins with rigReset := true } } : State).pins.powerReset = false := ⟨rfl, rfl⟩

/-- A fall in IDLE; rises in every phase, in RECEIVING after 5 bytes, one byte short of a request, and one byte past one. -/
theorem meets_ChipSelectFramesRequests : State.reset.pins.selectLow = false ∧ State.reset.pins.powerReset = false ∧
    State.reset.link.phase = .idle ∧ engaged.pins.selectLow = true ∧ engaged.pins.powerReset = false ∧
    engaged.link.phase = .receiving ∧ (zeros 5).length < 6 ∧ (zeros 6).length < 7 + declaredLength (zeros 6) ∧
    6 ≤ (zeros 8).length ∧ 7 + declaredLength (zeros 8) ≤ (zeros 8).length ∧
    ∀ phase : LinkPhase, (framed phase).pins.selectLow = true ∧ (framed phase).link.phase = phase :=
  ⟨rfl, rfl, rfl, rfl, rfl, rfl, by decide, by decide, by decide, by decide, fun _ => ⟨rfl, rfl⟩⟩

/-- What a host receives that clocks one, three and four bytes of a frame in WORKING: WAIT, then the reply, then idle. -/
theorem test_frame_bytes : ((framed .working).clockBytes (zeros 1)).out.linkBytes = [0xA5] ∧
    ((framed .working).clockBytes (zeros 1)).link = { phase := .working, waitLeft := 0, reply := [7, 8] } ∧
    ((framed .working).clockBytes (zeros 2)).link = { phase := .replying, waitLeft := 0, reply := [8] } ∧
    ((framed .working).clockBytes (zeros 4)).out.linkBytes = [0xA5, 7, 8, 0xFF] ∧
    ((framed .working).clockBytes (zeros 3)).link = { phase := .trailing, waitLeft := 0, reply := [] } ∧
    ((framed .receiving).clockBytes (zeros 8)).out.linkBytes = List.replicate 7 0xFF ++ [0xA5] := by decide +kernel

/-- A request whose bytes sum to 0x10. -/
def badSum : List Byte := [0x10, 0, 0, 0, 0, 0, 0]

theorem meets_EveryRequestIsAnswered : isRequest .engage = true ∧ wellSent .engage = true ∧ engaged.listening = true ∧
    isRequest (.badRequest badSum) = true ∧ wellSent (.badRequest badSum) = true ∧ State.reset.listening = false ∧
    wellSent (.badRequest []) = false ∧ held.listening = false ∧ held.pins.powerReset = true ∧
    State.reset.pins.selectLow = false ∧ (framed .working).listening = false ∧ (framed .working).pins.powerReset = false ∧
    (framed .working).pins.selectLow = true ∧ (framed .replying).listening = false ∧ (framed .working).link.reply ≠ [] ∧
    (framed .replying).link.reply ≠ [] := by decide

/-- A bad sum; 1025 bytes declared; the command byte 0x03; the table selectors 0 and 12; a LAYOUT write of 24 bytes, a LOAD_MAP of 8
and an ENGAGE of 1; an amendment operation 5 on slot 8. -/
theorem meets_BadRequestGetsItsStatus : completeFrame badSum = true ∧ byteSum badSum ≠ 0 ∧
    (∀ f, f = frameOf 0x10 0 0 (zeros 1025) → completeFrame f = true ∧ byteSum f = 0 ∧ 1024 < declaredLength f) ∧
    (∀ f, f = frameOf 0x03 0 0 [] → completeFrame f = true ∧ byteSum f = 0 ∧ declaredLength f ≤ 1024 ∧
      byteAt f 0 ∉ [0x01, 0x02, 0x10, 0x11, 0x12, 0x13, 0x20, 0x21, 0x22, 0x30, 0x31, 0x32, 0x40, 0x41]) ∧
    (∀ f ∈ [frameOf 0x01 0 0 [], frameOf 0x02 12 0 []], completeFrame f = true ∧ byteSum f = 0 ∧
      declaredLength f ≤ 1024 ∧ byteAt f 0 ∈ [0x01, 0x02] ∧
      ¬(1 ≤ (byteAt f 1).toNat ∧ (byteAt f 1).toNat ≤ 11)) ∧
    (∀ f ∈ [frameOf 0x02 1 0 (zeros 24), frameOf 0x30 0 0 (zeros 8), frameOf 0x10 0 0 (zeros 1), frameOf 0x01 11 0 (zeros 44)],
      completeFrame f = true ∧ byteSum f = 0 ∧ declaredLength f ≤ 1024 ∧
      byteAt f 0 ∈ [0x01, 0x02, 0x10, 0x11, 0x12, 0x13, 0x20, 0x21, 0x22, 0x30, 0x31, 0x32, 0x40, 0x41] ∧
      (byteAt f 0 ∈ [0x01, 0x02] → 1 ≤ (byteAt f 1).toNat ∧ (byteAt f 1).toNat ≤ 11) ∧
      declaredLength f ≠ payloadNeeded (byteAt f 0) (byteAt f 1)) ∧
    ∀ f, f = writeFrame .amendment 8 (amendmentBytes 5 zeroKey 0) → completeFrame f = true ∧ byteSum f = 0 ∧
      byteAt f 0 = 0x02 ∧ byteAt f 1 = 0x08 ∧ declaredLength f = 24 ∧
      ¬(1 ≤ (byteAt f 6).toNat ∧ (byteAt f 6).toNat ≤ 4) ∧ 7 < (frameIndex f).toNat := by
  refine ⟨by decide, by decide, ?_, ?_, by decide, by decide +kernel, ?_⟩ <;> rintro f rfl <;> decide +kernel

/-- The lengths that the requests of R190 need are those of the requests' bytes. -/
theorem test_payload_lengths : (∀ sel : Fin 11, payloadNeeded 0x02 (BitVec.ofNat 8 (sel.val + 1)) =
      ((tableOf (BitVec.ofNat 8 (sel.val + 1))).map TableSel.entryLength).getD 0) ∧
    [0x10, 0x20, 0x21, 0x22, 0x30, 0x41].map (fun c => payloadNeeded c 0) = [0, 4, 4, 4, 9, 0] := by decide

theorem meets_RequestBytesReadBack : isRequest (.writeKey 7 ⟨7, 1023, 262143, 0xFFFFFFFF⟩) = true ∧
    wellSent (.writeKey 7 ⟨7, 1023, 262143, 0xFFFFFFFF⟩) = true := by decide

theorem meets_ReadsAndReadOnlyTablesChangeNothing : engaged.listening = true ∧
    TableSel.take.entries ≤ (1024 : BitVec 16).toNat ∧ (1023 : BitVec 16).toNat < TableSel.take.entries := by decide

theorem meets_LayoutWriteSetsBasesInBypass : engaged.listening = true := rfl

/-- The GLOBAL entry that the reset values make. -/
def globalNow : GlobalEntry :=
  { mask := 0x3204, lowMark := 64, highMark := 128, enables := 0xFF, plugs := 0, divider := 25, period := 200, window := 4 }

/-- Every field at its greatest value. -/
def globalTop : GlobalEntry :=
  { mask := 0x3FFF, lowMark := 4095, highMark := 4095, enables := 0xFF, plugs := 0xFFFF, divider := 1023, period := 4095,
    window := 4094 }

theorem globalTop_good : ¬globalOutOfRange globalTop ∧ ¬globalOutOfRange globalNow := by
  simp [globalOutOfRange, globalTop, globalNow]

theorem meets_GlobalWriteSetsFieldsAndTestsLatch : engaged.listening = true ∧ (1 : BitVec 16) ≠ 0 ∧
    globalOutOfRange { globalTop with window := 4095 } ∧ ¬globalOutOfRange globalTop ∧ ¬globalOutOfRange globalNow ∧
    globalTop.plugs ≠ engaged.plugSet ∧ globalNow.plugs = engaged.plugSet ∧ timebaseDiffers globalTop engaged.timebase ∧
    ¬timebaseDiffers globalNow engaged.timebase ∧ (armed.lane 0).state ≠ .disabled ∧
    (∀ n, (engaged.lane n).state = .disabled) ∧ opened.pool.armed = true ∧
    opened.pool.freeCount - opened.pool.reserved < globalTop.lowMark.toNat ∧
    globalNow.lowMark.toNat ≤ opened.pool.freeCount - opened.pool.reserved := by
  refine ⟨rfl, by decide, ?_, globalTop_good.1, globalTop_good.2, by decide, by decide, ?_, ?_, by decide, by decide, rfl,
    ?_, ?_⟩
  · simp [globalOutOfRange, globalTop]
  · simp [timebaseDiffers, globalTop, engaged, State.reset]
  · simp [timebaseDiffers, globalNow, engaged, State.reset]
  · simp [opened, part, partWith, allFree, Config.segments, globalTop]
  · simp [opened, part, partWith, allFree, Config.segments, globalNow]

/-- A LANE_CONFIG entry with fields at their limits. -/
def configTop : LaneConfigEntry :=
  { dataSource := 15, markerSource := 15, channels := 16, detector := 15, threshold := 1, release := 1, landmarkSpacing := 0,
    tolerance := 0, sampleSpacing := 1, reservation := 64, idle := 0, drain := 0, admission := 0 }

theorem meets_LaneConfigWriteSetsDisabledLane : engaged.listening = true ∧ 7 < (8 : BitVec 16).toNat ∧
    (7 : BitVec 16).toNat = (7 : Fin 8).val ∧ (0 : BitVec 16).toNat = (0 : Fin 8).val ∧ (armed.lane 0).state ≠ .disabled ∧
    (armed.lane 7).state = .disabled ∧ laneConfigOutOfRange { configTop with reservation := 65 } ∧
    ¬laneConfigOutOfRange configTop := by
  refine ⟨rfl, by decide, rfl, rfl, by decide, rfl, ?_, ?_⟩ <;> simp [laneConfigOutOfRange, configTop]

theorem meets_TubeWriteSetsMapFields : engaged.listening = true ∧ byteAt (zeros 29) 6 = byteAt (zeros 29 ++ [1]) 6 ∧
    byteAt (zeros 29) 7 = byteAt (zeros 29 ++ [1]) 7 ∧ byteAt (zeros 29) 8 = byteAt (zeros 29 ++ [1]) 8 ∧
    frameIndex (zeros 29) = frameIndex (zeros 29 ++ [1]) := by decide

/-- A WINDOW entry of a mode, take 0 and position (127, 127). -/
def windowTop (mode : Byte) (take : BitVec 16) (serial : BitVec 32) : WindowEntry :=
  { mode := mode, row := 127, column := 127, take := take, serial := serial }

theorem meets_WindowWriteReplacesBinding : settled.listening = true ∧ 15 < (16 : BitVec 16).toNat ∧
    (15 : BitVec 16).toNat = (15 : Fin 16).val ∧ 2 < (windowTop 3 0 0).mode.toNat ∧
    (windowTop 1 1024 0).mode = 1 ∧ 1023 < (windowTop 1 1024 0).take.toNat ∧
    (windowTop 1 1023 0).mode = 1 ∧ (windowTop 1 1023 0).take.toNat ≤ 1023 ∧ (settled.takeAt 1023).state = .free ∧
    (settled.takeAt 0).state ≠ .free ∧ (windowTop 1 0 2).serial ≠ 0 ∧
    (windowTop 1 0 2).serial.toNat ≠ (settled.takeAt 0).serial ∧
    (windowTop 1 0 1).serial.toNat = (settled.takeAt 0).serial ∧ (windowTop 0 0 0).mode = 0 ∧ (windowTop 2 0 0).mode = 2 ∧
    (⟨127, 127⟩ : TubePos).row.val = (windowTop 2 0 0).row.toNat ∧ Sparse.wf Take.free Config.takeSlots settled.takes = true ∧
    settled.windows.toList.countP (fun v => decide (v = .take 0)) = (settled.takeAt 0).bindings := by decide +kernel

theorem bindings_settled : BindingsMatch settled := by
  intro k
  have : settled.windows.toList.countP (fun v => decide (v = .take k)) = 0 := by
    rw [List.countP_eq_zero]
    simp [settled, part, partWith, engaged, State.reset]
  rw [this, settled, part, takeAt_part]; split <;> rfl

theorem meets_AmendmentWritesChangeTheirSlot : settled.listening = true ∧ 7 < (8 : BitVec 16).toNat ∧
    (7 : BitVec 16).toNat = (7 : Fin 8).val ∧ keyRefusal settled ⟨7, 0, 262143, 1⟩ = none ∧
    keyRefusal settled ⟨8, 0, 0, 0⟩ = some .badValue ∧ keyRefusal settled ⟨0, 1023, 0, 0⟩ = some .refusedState ∧
    (∀ f ∈ [writeFrame .amendment 7 (amendmentBytes 0 zeroKey 0), writeFrame .amendment 7 (amendmentBytes 5 zeroKey 0)],
      completeFrame f = true ∧ byteSum f = 0 ∧ byteAt f 0 = 0x02 ∧ byteAt f 1 = 0x08 ∧ declaredLength f = 24 ∧
      (frameIndex f).toNat ≤ 7 ∧ ¬(1 ≤ (byteAt f 6).toNat ∧ (byteAt f 6).toNat ≤ 4)) := by decide +kernel

/-- A WATCH entry of a mode, from one source, with every action. -/
def watchEntry (mode : Byte) : WatchEntry :=
  { mode := mode, dirFilter := 2, sourceKind := 1, source := 15, actions := 7, holdLane := 7, clear := 1, compare := 0, mask := 0 }

theorem meets_WatchWriteSetsUnit : engaged.listening = true ∧ 3 < (4 : BitVec 16).toNat ∧
    2 < (watchEntry 3).mode.toNat ∧ (3 : BitVec 16).toNat = (3 : Fin 4).val ∧ (watchEntry 2).mode.toNat = WatchMode.range.code ∧
    (watchEntry 2).dirFilter.toNat = DirFilter.both.code ∧ (watchEntry 2).sourceKind = 1 ∧ (watchEntry 2).source.toNat ≤ 15 ∧
    (watchEntry 2).holdLane.toNat = (7 : Fin 8).val ∧ (watchEntry 2).actions.toNat ≤ 7 ∧ (watchEntry 2).clear.toNat ≤ 1 := by
  decide

theorem meets_LinesWriteActsUnlessLaneEnabled : armed.listening = true ∧ 11 < (12 : BitVec 16).toNat ∧
    1 < (⟨2, 0⟩ : LinesEntry).direction.toNat ∧ (11 : BitVec 16).toNat = (11 : Fin 12).val ∧
    (⟨1, 1⟩ : LinesEntry).direction.toNat = LineDirection.output.code ∧ (⟨1, 1⟩ : LinesEntry).level.toNat = Level.high.code ∧
    (0 : Fin 8).val = (0 : Fin 12).val ∧ (7 : Fin 8).val = (7 : Fin 12).val ∧ (armed.lane 0).state ≠ .disabled ∧
    (armed.lane 7).state = .disabled := by decide

theorem meets_EngageChecksLayout : engaged.listening = true ∧ engaged.mode = .engaged ∧
    ({ engaged with mode := .bypass } : State).mode = .bypass ∧ layoutGood engaged.layout ∧
    ¬layoutGood (presetLayout 0) :=
  ⟨rfl, rfl, rfl, layoutGood_preset (straps := 1) (by decide), by rw [← layoutValid_iff]; decide⟩

theorem meets_BypassDisablesEveryLane : opened.listening = true ∧ opened.mode = .engaged ∧ Books opened ∧ TubesMatch opened ∧
    ({ opened with mode := .bypass } : State).mode = .bypass := ⟨rfl, rfl, books_opened.1, books_opened.2, rfl⟩

theorem meets_EnableLaneArmsLane : armed.listening = true ∧ 7 < (8 : BitVec 16).toNat ∧
    (7 : BitVec 16).toNat = (7 : Fin 8).val ∧ armed.mode = .engaged ∧ (armed.lane 0).state ≠ .disabled ∧
    (armed.lane 7).state = .disabled ∧ (armed.lane 7).cfg.detector < (armed.lane 7).cfg.channels ∧
    (armed.lane 7).cfg.release < (armed.lane 7).cfg.threshold ∧
    ∀ l, l = { Lane.disabled (LaneConfig.reset 7) with cfg := { LaneConfig.reset 7 with detector := 4 } } →
      l.state = .disabled ∧ l.cfg.channels ≤ l.cfg.detector := by
  refine ⟨rfl, by decide, rfl, rfl, by decide, rfl, by decide, by decide, ?_⟩
  rintro l rfl; decide

theorem meets_DisableLaneActsByState : opened.listening = true ∧ 7 < (8 : BitVec 16).toNat ∧
    (0 : BitVec 16).toNat = (0 : Fin 8).val ∧ (engaged.lane 0).state = .disabled ∧ (armed.lane 0).state = .armed ∧
    (waiting.lane 0).state = .waiting ∧ (waiting.lane 0).held = some (corner, .push) ∧ recordsTake opened 0 0 ∧
    recordsTake closing 0 0 ∧ Books opened ∧ TubesMatch opened ∧ Books closing ∧ TubesMatch closing :=
  ⟨rfl, by decide, rfl, rfl, rfl, rfl, rfl, ⟨rfl, Or.inl rfl⟩, ⟨rfl, Or.inr rfl⟩, books_opened.1, books_opened.2,
    books_closing.1, books_closing.2⟩

theorem meets_ClearCommandsClearOneThing : engaged.listening = true ∧ 7 < (8 : BitVec 16).toNat ∧
    (7 : BitVec 16).toNat = (7 : Fin 8).val := by decide

/-- Take 0 with a state and a count of fixed bindings. -/
def settledAs (st : TakeState) (bindings : Nat) : State :=
  part armedLane [(0, { sealedTake with state := st, bindings := bindings })] (mapped.opened 0) [] 0 2

theorem meets_AcceptTakeSupersedesEarlierTake : settled.listening = true ∧ Books settled ∧
    takeRefusal settled 1024 0 = some .badIndex ∧ takeRefusal settled 0 2 = some .badValue ∧
    takeRefusal settled 1023 0 = none ∧ (settled.takeAt 1023).state = .free ∧ takeRefusal settled 0 1 = none ∧
    (settled.takeAt 0).state = .sealed ∧ (settled.takeAt 0).tube = some corner ∧ Books accepted ∧
    takeRefusal accepted 0 0 = none ∧ (accepted.takeAt 0).state = .accepted :=
  ⟨rfl, books_settled.1, by decide, by decide, by decide, by decide, by decide, rfl, rfl, books_accepted.1, by decide, rfl⟩

theorem books_settledAs (st : TakeState) (b : Nat) (h : st = .rejected ∨ st = .superseded) : Books (settledAs st b) := by
  rcases h with rfl | rfl <;>
  exact books_one laneGood_armed (by decide) (Or.inr ⟨rfl, rfl, rfl, rfl⟩) (by simp) (by simp [allFree, Config.segments, sealedTake])
      (allFree_perm rfl) (by decide) (by simp [Tube.opened, mapped, Tube.reset]) rfl

theorem meets_RejectTakeClearsTubesResult : settled.listening = true ∧ Books settled ∧ takeRefusal settled 0 1 = none ∧
    takeRefusal settled 1024 0 = some .badIndex ∧ (settled.takeAt 0).state = .sealed ∧ (settled.takeAt 0).tube = some corner ∧
    (settled.takeAt 1023).state = .free ∧ Books accepted ∧ (accepted.takeAt 0).state = .accepted ∧
    Books (settledAs .rejected 0) ∧ ((settledAs .rejected 0).takeAt 0).state = .rejected ∧
    takeRefusal (settledAs .rejected 0) 0 0 = none :=
  ⟨rfl, books_settled.1, by decide, by decide, rfl, rfl, by decide, books_accepted.1, rfl,
    books_settledAs _ _ (Or.inl rfl), rfl, by decide⟩

theorem meets_ReleaseTakeFreesSlotAndSegments : settled.listening = true ∧ Books settled ∧ takeRefusal settled 0 1 = none ∧
    takeRefusal settled 1024 0 = some .badIndex ∧ (settled.takeAt 0).state = .sealed ∧ (settled.takeAt 0).bindings = 0 ∧
    (settled.takeAt 0).tube = some corner ∧ (settled.takeAt 1023).state = .free ∧ Books (settledAs .superseded 1) ∧
    0 < ((settledAs .superseded 1).takeAt 0).bindings ∧ takeRefusal (settledAs .superseded 1) 0 0 = none :=
  ⟨rfl, books_settled.1, by decide, by decide, rfl, rfl, rfl, by decide, books_settledAs _ _ (Or.inr rfl), by decide, by decide⟩

/-- Lane 0 WAITING with a reservation of its own, beside a serial counter. -/
def waitingFor (reservation serial : Nat) : State :=
  part { armedLane with state := .waiting, held := some (corner, .push), pauseAdmission := true
                        cfg := { LaneConfig.reset 0 with reservation := reservation } }
    [] { mapped with claim := some 0 } [0] 0 serial

theorem books_waitingFor (r c : Nat) : Books (waitingFor r c) ∧ TubesMatch (waitingFor r c) :=
  ⟨books_none (by simp [laneGood, armedLane, Lane.disabled]) rfl rfl rfl (by decide) rfl,
    tubes_none rfl (Or.inr ⟨rfl, rfl⟩) (by decide) rfl rfl⟩

theorem unreserved_waitingFor (r c : Nat) : (waitingFor r c).pool.freeCount - (waitingFor r c).pool.reserved = 4096 := by
  simp [waitingFor, part, partWith, allFree, Config.segments]

/-- An empty queue; a head that just fits and one that just does not; and a head with no serial left to give. -/
theorem meets_AdmissionCheckTakesHeadsInOrder : Books armed ∧ TubesMatch armed ∧ armed.pool.queue = [] ∧
    (∀ r c, Books (waitingFor r c) ∧ TubesMatch (waitingFor r c) ∧ (waitingFor r c).pool.queue = [0] ∧
      ((waitingFor r c).lane 0).held = some (corner, .push) ∧ ((waitingFor r c).lane 0).cfg.reservation = r ∧
      (waitingFor r c).pool.freeCount - (waitingFor r c).pool.reserved = 4096) ∧
    opensAt (waitingFor 4096 4294967295) 0 ∧ ¬∃ k, opensAt (waitingFor 4096 4294967296) k := by
  refine ⟨books_armed.1, books_armed.2, rfl, fun r c => ⟨(books_waitingFor r c).1, (books_waitingFor r c).2, rfl, rfl, rfl,
    unreserved_waitingFor r c⟩, ⟨by decide, by decide, rfl, fun j hj => absurd hj (Nat.not_lt_zero j)⟩, ?_⟩
  rintro ⟨k, h, _⟩
  exact absurd h (by decide)

/-- A check that admits its head into slot 0, and one that refuses it. -/
theorem test_check_decides :
    (∃ x, CheckDecides (waitingFor 8 2) [] x [{ lane := 0, slot := 0, pos := corner, direction := .push }] ∧
      x.pool.queue = [] ∧ x.pool.reserved = 8) ∧
    ∃ x, CheckDecides (waitingFor 8 4294967296) [] x [] ∧ x.pool.queue = [] ∧ (x.lane 0).state = .armed := by
  have h (c : Nat) := State.admitLoop_decides (s := waitingFor 8 c) [0] [] rfl (by decide)
    (fun n hn => by rw [List.mem_singleton.1 hn]; rfl) (show 64 ≤ 128 by decide)
    (fun h => Bool.noConfusion h)
  refine ⟨?_, ?_⟩
  · have e : (State.admitLoop [0] [] (waitingFor 8 2)).2 = [{ lane := 0, slot := 0, pos := corner, direction := .push }] := by
      decide +kernel
    exact ⟨_, e ▸ h 2, by decide +kernel, by decide +kernel⟩
  · have e : (State.admitLoop [0] [] (waitingFor 8 4294967296)).2 = [] := by decide +kernel
    exact ⟨_, e ▸ h 4294967296, by decide +kernel, by decide +kernel⟩

theorem meets_MapLoadStartsAndAborts : engaged.listening = true ∧ engaged.locked = false ∧ engaged.loader.running = false ∧
    (∀ n, (engaged.lane n).state = .disabled ∨ (engaged.lane n).state = .armed) ∧ (waiting.lane 0).state = .waiting ∧
    ({ engaged with locked := true } : State).listening = true ∧
    ({ engaged with loader := { engaged.loader with running := true } } : State).listening = true := by decide

theorem meets_CampaignLockFreezesMap : engaged.listening = true ∧ engaged.loader.running = false ∧
    Books { armed with locked := true } ∧ PortsSound { armed with locked := true } ∧
    (∀ straps, Instr.engage ≠ .powerOnReset straps) ∧
    (∃ t, exec .engage { armed with locked := true } = .next t) ∧
    ({ engaged with loader := { engaged.loader with running := true } } : State).listening = true := by
  refine ⟨rfl, rfl, Books.of_fields books_armed.1 rfl rfl rfl rfl rfl rfl, ?_, (fun _ h => by cases h), exec_next _ _ rfl, rfl⟩
  refine ⟨?_, ?_, ?_, ?_, ?_, ?_⟩ <;> simp [armed, part, partWith, engaged, State.reset]

/-- A unit of eight good entries for the tubes from index `i` on. -/
def mapUnit (i : Nat) : Vector Byte 64 :=
  Vector.ofFn fun b : Fin 64 =>
    if b.val % 8 = 0 then BitVec.ofNat 8 ((i + b.val / 8) / 128)
    else if b.val % 8 = 1 then BitVec.ofNat 8 ((i + b.val / 8) % 128) else 0

/-- A map load of `remaining` entries from tube 120 on, whose first unit has been asked for. -/
def loading (read : LoaderRead) (running : Bool) (remaining : Nat) : State :=
  { armed with
    loader := { running := running, base := 0, next := 120, remaining := remaining, applied := 0, read := read }
    issued := [.loader] }

theorem armed_idle : ∀ n, (armed.lane n).state = .disabled ∨ (armed.lane n).state = .armed := by decide

theorem books_loading (read : LoaderRead) (remaining : Nat) (h : 0 < remaining) (h' : remaining ≤ 16264) :
    Books (loading read true remaining) := by
  obtain ⟨h1, h2, h3, h4, ⟨a1, a2, a3⟩, ⟨b1, b2, b3⟩, ⟨c1, c2, c3, c4⟩, ⟨d1, d2, d3⟩, ⟨f1, f2, f3, f4, f5, f6⟩, ⟨g1, g2⟩, _⟩ :=
    books_armed.1
  refine ⟨h1, h2, h3, h4, ⟨a1, a2, a3⟩, ⟨b1, b2, b3⟩, ⟨c1, c2, c3, c4⟩, ⟨d1, d2, d3⟩, ⟨f1, f2, f3, f4, f5, f6⟩, ⟨g1, g2⟩,
    ⟨?_, fun _ => h, fun _ => armed_idle⟩⟩
  show 120 + remaining ≤ 16384
  omega

/-- Good entries up to the one before the last of the row; one bad entry at once, by an error; a discarded unit. -/
theorem ports_loading (remaining : Nat) : PortsSound (loading .live true remaining) := by
  refine ⟨?_, ?_, ?_, ?_, ?_, ?_⟩ <;> simp [loading, armed, part, partWith, engaged, State.reset]

theorem meets_MapUnitAppliesEntriesInOrder : (∀ read running m, (loading read running m).pins.powerReset = false ∧
      (loading read running m).issued = [.loader] ∧ (loading read running m).loader.read = read ∧
      (loading read running m).loader.running = running) ∧
    Books (loading .live true 8) ∧ Books (loading .live true 9) ∧ Books (loading .live true 1) ∧
    (∀ m, PortsSound (loading .live true m)) ∧
    (∀ j < 8, (returnOf (.data (mapUnit 120)))[8 * j]? = some 0 ∧
      (byteAt (returnOf (.data (mapUnit 120))) (8 * j + 1)).toNat = 120 + j) ∧
    (∀ j < 8, entryGood (returnOf (.data (mapUnit 120))) j (120 + j)) ∧ ¬entryGood (returnOf .error) 0 120 := by
  refine ⟨fun _ _ _ => ⟨rfl, rfl, rfl, rfl⟩, books_loading _ _ (by decide) (by decide), books_loading _ _ (by decide) (by decide),
    books_loading _ _ (by decide) (by decide), ports_loading, by decide +kernel, ?_, ?_⟩
  · unfold entryGood; decide +kernel
  · unfold entryGood; decide +kernel

/-! ### The rig port -/

theorem taken_part {fl : List Nat} {l : Lane} {ts : List (Nat × Take)} {x : Tube} {q : List (Fin 8)} {r c : Nat} {t : RigTxn}
    (h1 : 1 ≤ t.op.size) (h2 : t.addr.toNat % 64 + t.op.size ≤ 64) : RigTaken (partWith fl l ts x q r c) t :=
  ⟨h1, h2, rfl, by simp [partWith, engaged, State.reset]⟩

theorem layoutGood_engaged : layoutGood engaged.layout := layoutGood_preset (straps := 1) (by decide)

/-- An address of every class of preset 1, its first or its last unit. -/
theorem meets_TransactionsAreForwardedOrGuarded :
    (∀ a ∈ ([0x0080000000, 0x00BFFFFFC0, 0x00E0010000, 0x00E0017FC0, 0x00D0000000, 0x00DFFFFFC0] : List Addr),
      RigTaken armed (writeAt a 0 (zeros 64)) ∧ (writeAt a 0 (zeros 64)).op = .write (zeros 64)) ∧
    PortsSound armed ∧ armed.mode = .engaged ∧ layoutGood armed.layout ∧
    within 0x00BFFFFFC0 armed.layout.capture (2 ^ 30) ∧ within 0x00E0017FC0 armed.layout.ring (2 ^ 15) ∧
    within 0x00DFFFFFC0 armed.layout.review (2 ^ 28) ∧ within 0x00E000FFC0 armed.layout.marker (2 ^ 16) ∧
    (zeros 63).length ≠ 64 ∧ RigTaken armed (writeAt 0x00E000FFC0 0 (zeros 63)) ∧
    RigTaken armed { laneRead 64 with addr := 0x00E000FFC0 } ∧
    RigTaken armed { laneRead 64 with addr := 0x00C8000000 } ∧ ¬within 0x00C8000000 armed.layout.lane (2 ^ 27) ∧
    ¬within 0x00C8000000 armed.layout.review (2 ^ 28) ∧ ¬within 0x00C8000000 armed.layout.capture (2 ^ 30) ∧
    ¬within 0x00C8000000 armed.layout.marker (2 ^ 16) ∧ ¬within 0x00C8000000 armed.layout.ring (2 ^ 15) ∧
    PortsSound { armed with mode := .bypass } ∧ RigTaken { armed with mode := .bypass } (laneRead 1) := by
  refine ⟨?_, ports_part, rfl, layoutGood_engaged, by unfold within; decide, by unfold within; decide, by unfold within; decide,
    by unfold within; decide, by decide, taken_part (by decide) (by decide), taken_part (by decide) (by decide),
    taken_part (by decide) (by decide), by unfold within; decide, by unfold within; decide, by unfold within; decide,
    by unfold within; decide, by unfold within; decide, ?_, ?_⟩
  · intro a ha
    refine ⟨?_, rfl⟩
    fin_cases ha <;> exact taken_part (by decide) (by decide)
  · refine ⟨?_, ?_, ?_, ?_, ?_, ?_⟩ <;> simp [armed, part, partWith, engaged, State.reset]
  · exact ⟨by decide, by decide, rfl, by simp [armed, part, partWith, engaged, State.reset]⟩

/-- Unit 0 in MATCH with mask 0 matches every address, and no other unit is on. -/
theorem meets_WatchHitsCountCaptureAndAct :
    (∀ v, ¬unitHit armed (laneRead 1) v) ∧
    ∃ s : State, ∀ x, unitHit s (laneRead 1) x ↔ x = 0 := by
  have off : ∀ v : Fin 4, armed.watches[v].mode = .off := by decide
  refine ⟨fun v h => ?_, { armed with watches := armed.watches.set 0 { Watch.reset with mode := .matching } }, fun x => ?_⟩
  · rcases h.2.2.2 with ⟨h, _⟩ | ⟨h, h', _⟩ | ⟨h, h', _⟩
    · rw [off v] at h; exact nomatch h
    · have := off 0; rw [show armed.watches[(0 : Fin 4)] = armed.watches[0] from rfl] at this; rw [this] at h'; exact nomatch h'
    · have := off 2; rw [show armed.watches[(2 : Fin 4)] = armed.watches[2] from rfl] at this; rw [this] at h'; exact nomatch h'
  · fin_cases x <;>
      simp [unitHit, laneRead, armed, part, partWith, engaged, State.reset, Watch.reset]

/-- Units 1 and 3 in MATCH with mask 0, holding lane 0 and posting: both hits of one read. -/
def twoUnits : State :=
  let on : Watch := { Watch.reset with mode := .matching, notice := true }
  { armed with watches := #v[Watch.reset, { on with hold := true }, Watch.reset, { on with oneShot := true }] }

theorem test_two_watch_units_hit : twoUnits.watchHits (laneRead 64) = [1, 3] ∧
    ((twoUnits.watch (laneRead 64)).notices.queue.map fun n => (n.number, n.report.cause)) =
      [(1, some (.watch 1)), (2, some (.watch 3))] ∧
    ((twoUnits.watch (laneRead 64)).lane 0).pauseWatch = true ∧
    ((twoUnits.watch (laneRead 64)).watches.toList.map fun w => (w.hits, w.mode)) =
      [(0, .off), (1, .matching), (0, .off), (1, .off)] := by decide +kernel

theorem freeList_part (fl : List Nat) (l : Lane) (ts : List (Nat × Take)) (x : Tube) (q : List (Fin 8)) (r c : Nat) :
    (partWith fl l ts x q r c).takeEvent.pool.freeList = fl := rfl

theorem watch_part {fl : List Nat} {l : Lane} {ts : List (Nat × Take)} {x : Tube} {q : List (Fin 8)} {r c : Nat} (t : RigTxn) :
    (partWith fl l ts x q r c).takeEvent.watch t = (partWith fl l ts x q r c).takeEvent := by
  have h : (partWith fl l ts x q r c).takeEvent.watchHits t = [] := rfl
  rw [State.watch, h]; rfl

theorem reaches_part {fl : List Nat} {l : Lane} {ts : List (Nat × Take)} {x : Tube} {q : List (Fin 8)} {r c : Nat} {t : RigTxn}
    {n : Fin 8} {off : Nat} (h : off < 2 ^ 24) (ha : t.addr.toNat = 0x00C0000000 + n.val * 2 ^ 24 + off) :
    ReachesLane (partWith fl l ts x q r c) t n off := ⟨rfl, h, ha⟩

/-- Lane 0 OPEN with a next offset, its take with flags. -/
def openedAt (next : Nat) (flags : Flags) : State :=
  part { armedLane with state := .opened, current := some 0, nextOffset := next } [(0, { openTake with flags := flags })]
    { (mapped.opened 0) with claim := some 0 } [] 8 2

/-- A write to lane 7, DISABLED, at its last unit; strays; and a foreign write, a partial one, one to a truncated take, a
rewrite and a gap, each decided by the watched state. -/
theorem meets_LaneWriteChecksDecideTheWrite :
    (RigTaken armed (writeAt 0x00C7FFFFC0 0 (zeros 64)) ∧ PortsSound armed ∧
      ReachesLane armed (writeAt 0x00C7FFFFC0 0 (zeros 64)) 7 0xFFFFC0 ∧
      ((armed.takeEvent.watch (writeAt 0x00C7FFFFC0 0 (zeros 64))).lane 7).state = .disabled) ∧
    (∀ b, ∀ s, s = part { armedLane with stray := b } [] mapped [] 0 1 → RigTaken s (writeAt 0x00C0000000 0 (zeros 1)) ∧
      PortsSound s ∧ ReachesLane s (writeAt 0x00C0000000 0 (zeros 1)) 0 0 ∧
      ((s.takeEvent.watch (writeAt 0x00C0000000 0 (zeros 1))).lane 0).state = .armed ∧
      ((s.takeEvent.watch (writeAt 0x00C0000000 0 (zeros 1))).lane 0).stray = b) ∧
    (∀ (src : Source) (data : List Byte) (next : Nat) (flags : Flags) (t : RigTxn) (s w : State),
      t = writeAt 0x00C0000040 src data → s = openedAt next flags → 1 ≤ data.length → data.length ≤ 64 →
      w = s.takeEvent.watch t →
      RigTaken s t ∧ PortsSound s ∧ ReachesLane s t 0 64 ∧ t.op = .write data ∧ recordsTake w 0 0 ∧
        (w.takeAt 0).flags = flags ∧ (w.lane 0).nextOffset = next ∧ (w.lane 0).cfg.dataSource = 0 ∧ t.source = src) := by
  refine ⟨⟨taken_part (by decide) (by decide), ports_part, reaches_part (by decide) (by decide), by decide⟩, ?_, ?_⟩
  · rintro b s rfl
    exact ⟨taken_part (by decide) (by decide), ports_part, reaches_part (by decide) (by decide), rfl, rfl⟩
  · rintro src data next flags t s w rfl rfl h1 h2 rfl
    refine ⟨taken_part h1 ?_, ports_part, reaches_part (by decide) (by show (0x00C0000040 : Addr).toNat = _; decide), rfl,
      ⟨rfl, Or.inl rfl⟩, rfl, rfl, rfl, rfl⟩
    show 0x00C0000040 % 64 + data.length ≤ 64
    omega

/-- Every segment but segment 0. -/
def restFree : List Nat := (List.range 4095).map Nat.succ

theorem allFree_eq : allFree = 0 :: restFree := by
  show List.range (4095 + 1) = _
  rw [List.range_succ_eq_map]; rfl

theorem restFree_perm {t : Take} (h : t.chain = [0]) :
    (restFree ++ [((0 : Nat), t)].flatMap fun e => e.2.chain).Perm (List.range Config.segments) := by
  have e : List.range Config.segments = [0] ++ restFree := by
    rw [show List.range Config.segments = allFree from rfl, allFree_eq, List.singleton_append]
  simp only [List.flatMap_cons, h, List.flatMap_nil, List.append_nil, e]
  exact List.perm_append_comm

/-- Lane 0 OPEN with one unit written, in segment 0. -/
def growing : State :=
  partWith restFree { armedLane with state := .opened, current := some 0, nextOffset := 64 }
    [(0, { openTake with chain := [0], remaining := 7, written := 64 })] { (mapped.opened 0) with claim := some 0 } [] 7 2

theorem books_growing : Books growing ∧ TubesMatch growing :=
  ⟨books_one (by simp [laneGood, armedLane, Lane.disabled]) (by decide) (Or.inl ⟨rfl, rfl, Or.inl ⟨rfl, rfl⟩⟩) (by decide)
      (by simp [restFree]) (restFree_perm rfl) (by decide)
      (by simp [Tube.opened, mapped, Tube.reset, openTake, Take.atOpen]) rfl,
    tubes_one rfl rfl (Or.inr ⟨rfl, rfl, rfl, rfl⟩) rfl rfl⟩

/-- A unit that is a whole block of one sample with sequence 7 on four channels. -/
def lastUnit : List Byte := [0xE7, 0xC3, 0x07, 0x00, 0x01, 0x00, 0x04, 0x00] ++ zeros 56

/-- The first unit of a take from its reservation, the next one inside the segment, the one that completes the final
block, and one with no segment left to give. -/
theorem meets_InOrderWriteRecordsTheUnit :
    (∀ t s w, t = writeAt 0x00C0000000 0 lastUnit → (s = opened ∨ s = closing) → w = s.takeEvent.watch t →
      RigTaken s t ∧ PortsSound s ∧ Books s ∧ TubesMatch s ∧ ReachesLane s t 0 0 ∧ recordsTake w 0 0 ∧
      t.source = (w.lane 0).cfg.dataSource ∧ (w.takeAt 0).flags &&& Flag.truncated.set = 0 ∧ 0 = (w.lane 0).nextOffset ∧
      ∃ x, segmentTaken w x 0 0 [0] 7) ∧
    (∀ w, w = closing.takeEvent.watch (writeAt 0x00C0000000 0 lastUnit) → (parsed w 0 0 [0] 7 lastUnit).2 = some 7 ∧
      (w.lane 0).state = .closing ∧ (w.lane 0).finalSeq = some 7) ∧
    (∀ t w, t = writeAt 0x00C0000040 0 lastUnit → w = growing.takeEvent.watch t →
      RigTaken growing t ∧ PortsSound growing ∧ Books growing ∧ TubesMatch growing ∧ ReachesLane growing t 0 64 ∧
      recordsTake w 0 0 ∧ 64 = (w.lane 0).nextOffset ∧ segmentTaken w w 0 64 [0] 7) ∧
    ∀ t s w, t = writeAt 0x00C0000000 0 lastUnit → w = s.takeEvent.watch t →
      s = partWith [] { armedLane with state := .opened, current := some 0 } [(0, { openTake with remaining := 0 })] mapped [] 0 2 →
      RigTaken s t ∧ PortsSound s ∧ recordsTake w 0 0 ∧ 0 / 262144 = (w.takeAt 0).chain.length ∧ (w.takeAt 0).remaining = 0 ∧
      w.pool.freeCount ≤ w.pool.reserved := by
  refine ⟨?_, ?_, ?_, ?_⟩
  · rintro t s w rfl hs rfl
    rcases hs with rfl | rfl
    · refine ⟨taken_part (by decide) (by decide), ports_part, books_opened.1, books_opened.2, reaches_part (by decide) (by decide),
        ⟨rfl, Or.inl rfl⟩, rfl, rfl, rfl, ?_⟩
      rw [opened, part, watch_part]
      exact ⟨_, Or.inr ⟨rfl, 0, restFree, (freeList_part allFree _ _ _ _ _ _).trans allFree_eq, rfl, Or.inl ⟨by decide, rfl, rfl⟩⟩⟩
    · refine ⟨taken_part (by decide) (by decide), ports_part, books_closing.1, books_closing.2, reaches_part (by decide) (by decide),
        ⟨rfl, Or.inr rfl⟩, rfl, rfl, rfl, ?_⟩
      rw [closing, part, watch_part]
      exact ⟨_, Or.inr ⟨rfl, 0, restFree, (freeList_part allFree _ _ _ _ _ _).trans allFree_eq, rfl, Or.inl ⟨by decide, rfl, rfl⟩⟩⟩
  · rintro w rfl; decide +kernel
  · rintro t w rfl rfl
    exact ⟨taken_part (by decide) (by decide), ports_part, books_growing.1, books_growing.2, reaches_part (by decide) (by decide),
      ⟨rfl, Or.inl rfl⟩, rfl, Or.inl ⟨by decide, rfl, rfl, rfl⟩⟩
  · rintro t s w rfl rfl rfl
    exact ⟨taken_part (by decide) (by decide), ports_part, ⟨rfl, Or.inl rfl⟩, rfl, rfl, by decide⟩

/-- Reads through a lane that records none and one that records; and through a window on a FREE take, on a kept one, on a tube
with an accepted take, and on nothing. -/
theorem meets_ReadsOfTakesAreTranslatedOrFilled :
    (∀ s, s = armed ∨ s = growing → RigTaken s (laneRead 64) ∧ PortsSound s ∧ ReachesLane s (laneRead 64) 0 0) ∧
    ((armed.takeEvent.watch (laneRead 64)).lane 0).state = .armed ∧
    recordsTake (growing.takeEvent.watch (laneRead 64)) 0 0 ∧
    ∀ (v : Window) (s : State) (t : RigTxn), t = { laneRead 64 with addr := 0x00DFFFFFC0 } →
      s = { accepted with windows := accepted.windows.set 15 v } →
      RigTaken s t ∧ PortsSound s ∧ ReachesWindow s t 15 0xFFFFC0 ∧ s.windows[15] = v ∧ (s.takeAt 0).state = .accepted ∧
        (s.takeAt 1023).state = .free ∧ (s.tubeAt corner.index).accepted = some 0 ∧ (s.tubeAt 1).accepted = none := by
  refine ⟨?_, by decide, ⟨rfl, Or.inl rfl⟩, ?_⟩
  · rintro s (rfl | rfl) <;>
      exact ⟨taken_part (by decide) (by decide), ports_part, reaches_part (by decide) (by decide)⟩
  · rintro v s t rfl rfl
    refine ⟨⟨by decide, by decide, rfl, by show [].length < 32; decide⟩, ?_, ⟨rfl, layoutGood_engaged, by decide, ?_⟩, ?_, rfl, rfl,
      rfl, rfl⟩
    · refine ⟨?_, ?_, ?_, ?_, ?_, ?_⟩ <;> simp [accepted, part, partWith, engaged, State.reset]
    · show (0x00DFFFFFC0 : Addr).toNat = (presetLayout 1).review.toNat + 15 * 2 ^ 24 + 0xFFFFC0
      decide
    · simp

/-- Two enabled slots on one eighth of unit 0, and a byte that none covers. -/
theorem meets_LowestAmendmentSlotIsLaidOver :
    ∀ s : State, s = { engaged with amendments := engaged.amendments.map fun _ => ⟨0, 0, 7, 0x1122334455667788, true⟩ } →
      (zeros 64).length = 64 ∧ 0 % 64 + 64 ≤ 64 ∧
      (∀ a : Fin 8, s.amendments[a].enabled = true ∧ s.amendments[a].take = 0 ∧ s.amendments[a].unit = 0 / 64 ∧
        s.amendments[a].eighth = (0 % 64 + 63) / 8) ∧
      (∀ b : Fin 8, b < 0 → ¬(s.amendments[b].enabled = true ∧ s.amendments[b].take = 0)) ∧
      ∀ a : Fin 8, ¬(s.amendments[a].enabled = true ∧ s.amendments[a].take = 0 ∧ s.amendments[a].unit = 0 / 64 ∧
        s.amendments[a].eighth = (0 % 64 + 55) / 8) := by
  rintro s rfl
  simp [engaged, State.reset, zeros]

/-! ### The store port -/

/-- One forwarded read, and the two internal requesters waiting with counts. -/
def asking (flights : List Flight) (notice loader : Option Nat) : State :=
  { armed with inFlight := flights, arbiter := { notice := notice, loader := loader } }

theorem meets_GrantsGoInTurn : armed.pins.powerReset = false ∧ ¬streamWaits armed ∧ armed.arbiter.notice = none ∧
    armed.arbiter.loader = none ∧
    streamTurn (asking [.answered .writeDone, .stream (.read 0 1) [none]] (some 3) (some 3)) ∧
    loaderTurn (asking [.stream (.read 0 1) [none]] (some 3) (some 4)) ∧ loaderTurn (asking [] none (some 0)) := by
  refine ⟨rfl, ?_, rfl, rfl, ⟨⟨_, _, List.mem_cons_of_mem _ List.mem_cons_self⟩, ?_, ?_⟩,
    ⟨4, rfl, Or.inl ⟨by decide, ?_⟩⟩, ⟨0, rfl, Or.inr ⟨by decide, ?_, rfl⟩⟩⟩
  · rintro ⟨a, o, h⟩; exact absurd h (by simp [armed, part, partWith, engaged, State.reset])
  · rintro c h; cases h; decide
  · rintro c h; cases h; decide
  · rintro c h; cases h; decide
  · rintro ⟨a, o, h⟩; exact absurd h (by simp [asking])

/-- A notice at the head of the queue, at the last slot of the ring. -/
theorem meets_NoticesAreQueuedAndWritten :
    ∀ s : State, s = { asking [] (some 4) none with
        notices := { armed.notices with queue := [⟨1, Report.poolLow 8⟩], writeIndex := 1023 } } →
      s.pins.powerReset = false ∧ noticeTurn s ∧ s.notices.queue = ⟨1, Report.poolLow 8⟩ :: [] ∧ s.notices.writeIndex < 1024 := by
  rintro s rfl
  exact ⟨rfl, ⟨4, rfl, Or.inl (by decide)⟩, rfl, by decide⟩

/-- The last byte of a unit is awaited behind nothing. -/
theorem meets_ReadDataCompletesOldestRead : armed.pins.powerReset = false ∧ armed.issued = [] ∧
    ∀ s : State, s = { asking [.awaiting 63 1 [none]] none none with issued := [.rig] } →
      s.pins.powerReset = false ∧ s.issued = .rig :: [] ∧ s.inFlight = [] ++ .awaiting 63 1 [none] :: [] ∧
      (∀ f ∈ ([] : List Flight), f.waits = false) ∧ (63 : Addr).toNat % 64 + 1 ≤ 64 := by
  refine ⟨rfl, rfl, ?_⟩
  rintro s rfl
  exact ⟨rfl, rfl, rfl, by simp, by decide⟩

/-! ### Markers -/

/-- A marker's write to the last unit of the marker window. -/
def markWrite (source : Source) (bs : List Byte) : RigTxn := writeAt 0x00E000FFC0 source bs

theorem marks_part {fl : List Nat} {l : Lane} {ts : List (Nat × Take)} {x : Tube} {q : List (Fin 8)} {r c : Nat} {src : Source}
    {bs : List Byte} (h : bs.length = 64) :
    RigTaken (partWith fl l ts x q r c) (markWrite src bs) ∧ PortsSound (partWith fl l ts x q r c) ∧
      WritesMarker (partWith fl l ts x q r c) (markWrite src bs) 1023 bs := by
  refine ⟨taken_part ?_ ?_, ports_part, rfl, layoutGood_engaged, by decide, ?_, rfl, h⟩
  · show 1 ≤ bs.length; omega
  · show 0x00E000FFC0 % 64 + bs.length ≤ 64; omega
  · show (0x00E000FFC0 : Addr).toNat = (presetLayout 1).marker.toNat + 64 * 1023
    decide

/-- Lane 0's TUBE_START, TUBE_END with final sequence 7, and ABANDON, on tube 0; and markers with no good reading. -/
def start : List Byte := marker 1 0 0 0 0 0 0xFFFF
def finish : List Byte := marker 2 0 0 0 0 7 0xFFF7
def abandon : List Byte := marker 3 0 0 0 0 0 0xFFFD

theorem start_good : markerOf start 1 ∧ markerOf finish 2 ∧ markerOf abandon 3 ∧ markerAt start corner ∧
    markerAt finish corner ∧ markerFinal finish = 7 ∧ (byteAt start 4).toNat = Direction.push.code ∧ start.length = 64 ∧
    finish.length = 64 ∧ abandon.length = 64 ∧ byteAt start 1 = 0 ∧ byteAt finish 1 = 0 ∧ byteAt abandon 1 = 0 := by
  unfold markerOf markerAt; decide

/-- A bad check word; the kinds 0 and 6; a lane, a row and a direction one above their range; sources of no authority. -/
theorem meets_InvalidMarkerOnlyPosts :
    (∀ bs : List Byte, bs.length = 64 → RigTaken armed (markWrite 0 bs) ∧ PortsSound armed ∧
      WritesMarker armed (markWrite 0 bs) 1023 bs) ∧
    (∀ kind, ¬markerOf (marker 1 0 0 0 0 0 0) kind) ∧ (marker 1 0 0 0 0 0 0).length = 64 ∧
    markerOf (marker 0 0 0 0 0 0 0) 0 ∧ markerOf (marker 6 0 0 0 0 0 0xFFFA) 6 ∧
    (markerOf (marker 3 8 0 0 0 0 0xF7FD) 3 ∧ 7 < (byteAt (marker 3 8 0 0 0 0 0xF7FD) 1).toNat) ∧
    (markerOf (marker 5 0 128 0 0 0 0xFF7B) 5 ∧ 127 < (byteAt (marker 5 0 128 0 0 0 0xFF7B) 2).toNat) ∧
    (markerOf (marker 1 0 0 0 2 0 0xFFFD) 1 ∧ 1 < (byteAt (marker 1 0 0 0 2 0 0xFFFD) 4).toNat) ∧
    markerOf start 1 ∧ (byteAt start 1).toNat = (0 : Fin 8).val ∧ (∃ p, markerAt start p) ∧ (byteAt start 4).toNat ≤ 1 ∧
    (markWrite 0 start).source ≠ ((armed.takeEvent.watch (markWrite 0 start)).lane 0).cfg.markerSource ∧
    markerOf (marker 4 0 0 0 0 0 0xFFFC) 4 ∧ markerAt (marker 4 0 0 0 0 0 0xFFFC) corner ∧
    (armed.takeEvent.watch (markWrite 0 start)).plugSet.getLsbD 0 = false := by
  refine ⟨fun bs h => marks_part h, ?_, by decide, ?_, ?_, ?_, ?_, ?_, start_good.1, rfl, ⟨corner, start_good.2.2.2.1⟩, by decide,
    by decide, ?_, ?_, rfl⟩
  · rintro kind ⟨h, _⟩; exact absurd h (by decide)
  all_goals first | (unfold markerOf; decide) | (unfold markerAt; decide)

/-- The part with every source in the plug authority set. -/
def plugging (s : State) : State := { s with plugSet := 0xFFFF }

theorem meets_PlugMarkersSetPlugState : markerOf (marker 4 0 0 0 0 0 0xFFFC) 4 ∧ markerOf (marker 5 0 0 0 0 0 0xFFFB) 5 ∧
    markerAt (marker 4 0 0 0 0 0 0xFFFC) corner ∧
    (∀ s t w, (s = armed ∨ s = waiting) → t = markWrite 15 (marker 4 0 0 0 0 0 0xFFFC) → w = (plugging s).takeEvent.watch t →
      RigTaken (plugging s) t ∧ PortsSound (plugging s) ∧ WritesMarker (plugging s) t 1023 (marker 4 0 0 0 0 0 0xFFFC) ∧
      w.plugSet.getLsbD t.source.toNat = true ∧ w.loader.running = false ∧
      ((w.tubeAt corner.index).claim ≠ none ↔ s = waiting)) ∧
    PortsSound (plugging (loading .live true 9)) ∧
    ((plugging (loading .live true 9)).takeEvent.watch (markWrite 15 (marker 4 0 0 0 0 0 0xFFFC))).loader.running = true := by
  refine ⟨by unfold markerOf; decide, by unfold markerOf; decide, by unfold markerAt; decide, ?_, ?_, rfl⟩
  · rintro s t w hs rfl rfl
    have h : RigTaken s (markWrite 15 (marker 4 0 0 0 0 0 0xFFFC)) ∧ PortsSound s ∧
        WritesMarker s (markWrite 15 (marker 4 0 0 0 0 0 0xFFFC)) 1023 (marker 4 0 0 0 0 0 0xFFFC) := by
      rcases hs with rfl | rfl <;> exact marks_part (by decide)
    obtain ⟨⟨a1, a2, a3, a4⟩, ⟨b1, b2, b3, b4, b5, b6⟩, ⟨c1, c2, c3, c4, c5, c6⟩⟩ := h
    refine ⟨⟨a1, a2, a3, a4⟩, ⟨b1, b2, b3, b4, b5, b6⟩, ⟨c1, c2, c3, c4, c5, c6⟩, ?_⟩
    rcases hs with rfl | rfl
    · refine ⟨rfl, rfl, fun h => absurd rfl h, fun h => ?_⟩
      exact absurd (congrArg (fun x : State => x.tubes) h) (by decide)
    · exact ⟨rfl, rfl, fun _ => rfl, fun _ => by decide⟩
  · refine ⟨?_, ?_, ?_, ?_, ?_, ?_⟩ <;> simp [plugging, loading, armed, part, partWith, engaged, State.reset]

theorem unreserved_part (fl : List Nat) (l : Lane) (ts : List (Nat × Take)) (x : Tube) (q : List (Fin 8)) (r c : Nat) :
    (partWith fl l ts x q r c).takeEvent.pool.freeCount - (partWith fl l ts x q r c).takeEvent.pool.reserved = fl.length - r := rfl

/-- The start of lane 0 on tube 0, presented to the part in every state of the lane. -/
theorem starts_part {fl : List Nat} {l : Lane} {ts : List (Nat × Take)} {x : Tube} {q : List (Fin 8)} {r c : Nat} {w : State}
    (h : l.cfg.markerSource = 8) (hw : w = (partWith fl l ts x q r c).takeEvent.watch (markWrite 8 start)) :
    RigTaken (partWith fl l ts x q r c) (markWrite 8 start) ∧ PortsSound (partWith fl l ts x q r c) ∧
      WritesMarker (partWith fl l ts x q r c) (markWrite 8 start) 1023 start ∧ laneMarker w (markWrite 8 start) start 1 0 ∧
      markerAt start corner ∧ (byteAt start 4).toNat = Direction.push.code := by
  have hm := start_good
  refine ⟨(marks_part hm.2.2.2.2.2.2.2.1).1, ports_part, (marks_part hm.2.2.2.2.2.2.2.1).2.2, ⟨hm.1, rfl, ?_⟩, hm.2.2.2.1, rfl⟩
  rw [hw, watch_part]; exact h.symm

/-- The same part with the reservation of lane 0 at its greatest that fits. -/
theorem meets_TubeStartOpensTake : ∀ w, w = armed.takeEvent.watch (markWrite 8 start) → Books armed ∧
    RigTaken armed (markWrite 8 start) ∧ PortsSound armed ∧ WritesMarker armed (markWrite 8 start) 1023 start ∧
    laneMarker w (markWrite 8 start) start 1 0 ∧ markerAt start corner ∧ (byteAt start 4).toNat = Direction.push.code ∧
    (w.lane 0).state = .armed ∧ startRefusal w 0 corner = none ∧ w.pool.queue = [] ∧
    (w.lane 0).cfg.reservation ≤ w.pool.freeCount - w.pool.reserved ∧ opensAt w 0 := by
  intro w hw
  obtain ⟨h1, h2, h3, h4, h5, h6⟩ := starts_part rfl hw
  refine ⟨books_armed.1, h1, h2, h3, h4, h5, h6, ?_⟩
  subst hw
  rw [armed, part, watch_part]
  refine ⟨rfl, rfl, rfl, ?_, by decide, by decide, rfl, fun j hj => absurd hj (Nat.not_lt_zero j)⟩
  rw [unreserved_part, allFree, List.length_range]
  decide

/-- A DISABLED lane, a recording one, a tube outside the map in ARMED and WAITING, and no serial left to give. -/
theorem meets_TubeStartRefusedChangesNothing :
    (∀ (st : LaneState) (ts : List (Nat × Take)) (x : Tube) (c : Nat) (s w : State),
      s = part { armedLane with state := st } ts x [] 0 c → w = s.takeEvent.watch (markWrite 8 start) →
      RigTaken s (markWrite 8 start) ∧ PortsSound s ∧ WritesMarker s (markWrite 8 start) 1023 start ∧
        laneMarker w (markWrite 8 start) start 1 0 ∧ (w.lane 0).state = st ∧ w.serialCounter = c ∧
        w.tubeAt corner.index = x) ∧
    laneMarker (armed.takeEvent.watch (markWrite 15 (marker 1 7 0 0 0 0 0xF8FF))) (markWrite 15 (marker 1 7 0 0 0 0 0xF8FF))
      (marker 1 7 0 0 0 0 0xF8FF) 1 7 ∧ (armed.lane 7).state = .disabled ∧
    Books opened ∧ Books closing ∧ Books armed ∧ Books (part armedLane [] { mapped with plug := .plugged } [] 0 1) ∧
    startRefusal (part armedLane [] { mapped with plug := .plugged } [] 0 1) 0 corner = some .plugged ∧
    Books (part armedLane [] mapped [] 0 4294967296) ∧ ¬∃ k, opensAt (part armedLane [] mapped [] 0 4294967296) k := by
  refine ⟨?_, ⟨by unfold markerOf; decide, by decide, by decide⟩, rfl, books_opened.1, books_closing.1, books_armed.1,
    books_none laneGood_armed rfl rfl rfl (by decide) rfl, rfl, books_none laneGood_armed rfl rfl rfl (by decide) rfl, ?_⟩
  · rintro st ts x c s w rfl hw
    obtain ⟨h1, h2, h3, h4, _⟩ := starts_part (l := { armedLane with state := st }) rfl hw
    refine ⟨h1, h2, h3, h4, ?_⟩
    subst hw; rw [part, watch_part]
    exact ⟨rfl, rfl, rfl⟩
  · rintro ⟨k, h, _⟩; exact absurd h (by decide)

/-- A start on another tube is deferred by a reservation one segment too large, and replaces the held start of tube 0. -/
theorem meets_TubeStartDefersOrReplaces :
    (∀ s w, s = part { armedLane with cfg := { LaneConfig.reset 0 with reservation := 4097 } } [] mapped [] 0 1 →
      w = s.takeEvent.watch (markWrite 8 start) →
      Books s ∧ RigTaken s (markWrite 8 start) ∧ PortsSound s ∧ WritesMarker s (markWrite 8 start) 1023 start ∧
      laneMarker w (markWrite 8 start) start 1 0 ∧ startRefusal w 0 corner = none ∧ (w.lane 0).state = .armed ∧
      w.pool.freeCount - w.pool.reserved < (w.lane 0).cfg.reservation) ∧
    ∀ w, w = waiting.takeEvent.watch (markWrite 8 start) → Books waiting ∧ RigTaken waiting (markWrite 8 start) ∧
      PortsSound waiting ∧ WritesMarker waiting (markWrite 8 start) 1023 start ∧
      laneMarker w (markWrite 8 start) start 1 0 ∧ startRefusal w 0 corner = none ∧ (w.lane 0).state = .waiting ∧
      (w.lane 0).held = some (corner, .push) := by
  refine ⟨?_, ?_⟩
  · rintro s w rfl hw
    obtain ⟨h1, h2, h3, h4, _⟩ := starts_part (l := { armedLane with cfg := { LaneConfig.reset 0 with reservation := 4097 } }) rfl hw
    refine ⟨books_none (by simp [laneGood, armedLane, Lane.disabled]) rfl rfl rfl (by decide) rfl, h1, h2, h3, h4, ?_⟩
    subst hw; rw [part, watch_part]
    refine ⟨rfl, rfl, ?_⟩
    rw [unreserved_part, allFree, List.length_range]
    decide
  · rintro w hw
    obtain ⟨h1, h2, h3, h4, _⟩ := starts_part (l := { armedLane with
      state := .waiting, held := some (corner, .push), pauseAdmission := true, admission := some 0
      cfg := { LaneConfig.reset 0 with admission := 1 } }) rfl hw
    refine ⟨books_waiting.1, h1, h2, h3, h4, ?_⟩
    subst hw; rw [waiting, part, watch_part]
    exact ⟨rfl, rfl, rfl⟩

/-- The end of lane 0, presented to the part in every state of the lane. -/
theorem ends_part {fl : List Nat} {l : Lane} {ts : List (Nat × Take)} {x : Tube} {q : List (Fin 8)} {r c : Nat} {w : State}
    {bs : List Byte} {kind : Nat} (hb : bs = finish ∧ kind = 2 ∨ bs = abandon ∧ kind = 3) (h : l.cfg.markerSource = 8)
    (hw : w = (partWith fl l ts x q r c).takeEvent.watch (markWrite 8 bs)) :
    RigTaken (partWith fl l ts x q r c) (markWrite 8 bs) ∧ PortsSound (partWith fl l ts x q r c) ∧
      WritesMarker (partWith fl l ts x q r c) (markWrite 8 bs) 1023 bs ∧ laneMarker w (markWrite 8 bs) bs kind 0 := by
  have hm := start_good
  rcases hb with ⟨rfl, rfl⟩ | ⟨rfl, rfl⟩
  · refine ⟨(marks_part hm.2.2.2.2.2.2.2.2.1).1, ports_part, (marks_part hm.2.2.2.2.2.2.2.2.1).2.2, hm.2.1, rfl, ?_⟩
    rw [hw, watch_part]; exact h.symm
  · refine ⟨(marks_part hm.2.2.2.2.2.2.2.2.2.1).1, ports_part, (marks_part hm.2.2.2.2.2.2.2.2.2.1).2.2, hm.2.2.1, rfl, ?_⟩
    rw [hw, watch_part]; exact h.symm

/-- The part in each lane state that the end of a recording tells apart, with the lane's last completed sequence. -/
def ending (st : TakeState) (lst : LaneState) (final last : Option (BitVec 16)) : State :=
  part { armedLane with state := lst, current := some 0, finalSeq := final, lastSeq := last }
    [(0, { openTake with state := st })] { (mapped.opened 0) with claim := some 0 } [] 8 2

theorem books_ending (final last : Option (BitVec 16)) : Books (ending .closing .closing final last) ∧
    TubesMatch (ending .closing .closing final last) :=
  ⟨books_one (by simp [laneGood, armedLane, Lane.disabled]) (by simp) (Or.inl ⟨rfl, rfl, Or.inr ⟨rfl, rfl⟩⟩) (by simp)
      (by simp [allFree, Config.segments, openTake, Take.atOpen]) (allFree_perm rfl) (by decide)
      (by simp [Tube.opened, mapped, Tube.reset]) rfl,
    tubes_one rfl rfl (Or.inr ⟨rfl, rfl, rfl, rfl⟩) rfl rfl⟩

/-- TUBE_END and ABANDON in ARMED, WAITING, OPEN and CLOSING; a final sequence that has completed last, and one that has not. -/
theorem meets_TubeEndClosesTake_AbandonSealsOrCancels :
    (∀ bs kind, bs = finish ∧ kind = 2 ∨ bs = abandon ∧ kind = 3 → ∀ s, s = armed ∨ s = waiting ∨ s = opened ∨ s = closing →
      RigTaken s (markWrite 8 bs) ∧ PortsSound s ∧ WritesMarker s (markWrite 8 bs) 1023 bs ∧ Books s ∧ TubesMatch s ∧
      laneMarker (s.takeEvent.watch (markWrite 8 bs)) (markWrite 8 bs) bs kind 0) ∧
    markerAt finish corner ∧ markerFinal finish = 7 ∧ (waiting.lane 0).held = some (corner, .push) ∧
    recordsTake opened 0 0 ∧ (opened.takeAt 0).tube = some corner ∧ (opened.lane 0).finalSeq = none ∧
    (opened.lane 0).lastSeq ≠ some 7 ∧ (closing.lane 0).finalSeq ≠ none ∧
    (∀ last, Books (ending .closing .closing none last) ∧ TubesMatch (ending .closing .closing none last) ∧
      recordsTake (ending .closing .closing none last) 0 0 ∧ ((ending .closing .closing none last).lane 0).lastSeq = last ∧
      RigTaken (ending .closing .closing none last) (markWrite 8 finish)) ∧
    (∀ bs kind, bs = marker 2 7 0 0 0 7 0xF8F7 ∧ kind = 2 ∨ bs = marker 3 7 0 0 0 0 0xF8FD ∧ kind = 3 → bs.length = 64 ∧
      laneMarker (armed.takeEvent.watch (markWrite 15 bs)) (markWrite 15 bs) bs kind 7) ∧ (armed.lane 7).state = .disabled := by
  refine ⟨?_, start_good.2.2.2.2.1, rfl, rfl, ⟨rfl, Or.inl rfl⟩, rfl, rfl, by decide, by decide, ?_, ?_, rfl⟩
  · rintro bs kind hb s (rfl | rfl | rfl | rfl)
    · obtain ⟨h1, h2, h3, h4⟩ := ends_part (fl := allFree) (l := armedLane) (ts := []) (x := mapped) (q := []) (r := 0) (c := 1) hb rfl rfl
      exact ⟨h1, h2, h3, books_armed.1, books_armed.2, h4⟩
    · obtain ⟨h1, h2, h3, h4⟩ := ends_part (fl := allFree) (ts := []) (x := { mapped with claim := some 0 }) (q := [0]) (r := 0) (c := 1)
        (l := { armedLane with state := .waiting, held := some (corner, .push), pauseAdmission := true, admission := some 0
                               cfg := { LaneConfig.reset 0 with admission := 1 } }) hb rfl rfl
      exact ⟨h1, h2, h3, books_waiting.1, books_waiting.2, h4⟩
    · obtain ⟨h1, h2, h3, h4⟩ := ends_part (fl := allFree) (ts := [(0, openTake)]) (x := { (mapped.opened 0) with claim := some 0 })
        (q := []) (r := 8) (c := 2) (l := { armedLane with state := .opened, current := some 0, idle := some 19999 }) hb rfl rfl
      exact ⟨h1, h2, h3, books_opened.1, books_opened.2, h4⟩
    · obtain ⟨h1, h2, h3, h4⟩ := ends_part (fl := allFree) (ts := [(0, { openTake with state := .closing })])
        (x := { (mapped.opened 0) with claim := some 0 }) (q := []) (r := 8) (c := 2)
        (l := { armedLane with state := .closing, current := some 0, finalSeq := some 7, drain := some 9999 }) hb rfl rfl
      exact ⟨h1, h2, h3, books_closing.1, books_closing.2, h4⟩
  · exact fun last => ⟨(books_ending none last).1, (books_ending none last).2, ⟨rfl, Or.inr rfl⟩, rfl,
      (marks_part start_good.2.2.2.2.2.2.2.2.1).1⟩
  · rintro bs kind (⟨rfl, rfl⟩ | ⟨rfl, rfl⟩) <;>
      exact ⟨by decide, ⟨by unfold markerOf; decide, by decide, by decide⟩⟩

/-! ### Parser, detector, lines -/

/-- Chapter 5's lane 6. -/
def laneSix : LaneConfig :=
  { LaneConfig.reset 6 with channels := 2, detector := 1, threshold := 8000, release := 6000, landmarkSpacing := 40 }

/-- A pair of signed 16-bit values after one of zeros: a sample of chapter 5's example. -/
def pair (x y : Int) : List Byte := zeros 4 ++ leBytes 2 (BitVec.ofInt 16 x).toNat ++ leBytes 2 (BitVec.ofInt 16 y).toNat

/-- Chapter 5's block A, unit 0. -/
def blockA0 : List Byte :=
  [0xE7, 0xC3, 0x00, 0x00, 0x08, 0x00, 0x02, 0x00, 0x10, 0x27, 0x00, 0x00, 0x33, 0x27, 0x00, 0x00] ++
    pair 1200 (-800) ++ pair 3000 2500 ++ pair 4100 (-3500) ++ pair (-5000) 3200 ++ pair (-4000) 3000 ++ pair 2900 (-3000)

/-- Chapter 5's block A, unit 1. -/
def blockA1 : List Byte := pair (-4100) 4000 ++ pair 3500 4000 ++ zeros 48

/-- Take 40 after both units, as chapter 5's tables give it: one landmark at 10015, the crossing at 10030 ignored. -/
theorem test_two_units_of_block_A :
    let w := (({ track := Track.start, take := Take.free } : Work).takeUnit laneSix blockA0)
    let v := w.1.takeUnit laneSix blockA1
    w.2 = none ∧ w.1.take.landmarkList = [10015] ∧ w.1.track.detector = .below ∧ w.1.take.samples = 0 ∧ v.2 = some 0 ∧
      v.1.track.parser = .atHeader ∧ v.1.track.detector = .above ∧ v.1.track.lastLandmark = some 10015 ∧ v.1.take.blocks = 1 ∧
      v.1.take.samples = 8 ∧ v.1.take.landmarks = 1 ∧ v.1.take.flags = 0 := by decide +kernel

/-- A header of one unit and of two, bytes that are none, and a block's last unit. -/
theorem meets_ParserTakesUnitsAndCompletesBlocks : headerValid blockA0 laneSix.channels ∧ headerValid lastUnit 4 ∧
    ¬headerValid blockA1 laneSix.channels ∧ Track.start.parser = .atHeader ∧
    leField blockA0 4 2 = 8 ∧ (16 + leField blockA0 4 2 * 2 * 4 + 63) / 64 = 2 ∧ (16 + leField lastUnit 4 2 * 4 * 4 + 63) / 64 = 1 ∧
    ∃ b, ((({ track := Track.start, take := Take.free } : Work).takeUnit laneSix blockA0).1).track.parser = .inBlock b ∧
      b.remaining = 1 := by
  refine ⟨by unfold headerValid; decide, by unfold headerValid; decide, by unfold headerValid; decide, rfl, by decide, by decide,
    by decide, ⟨0, 8, 10000, 10035, 1, 6⟩, ?_, rfl⟩
  decide +kernel

/-- Magnitudes at the threshold and just below, at the release level and just above; a crossing at the spacing and just
within it. -/
theorem meets_DetectorCountsCrossingsAsLandmarks : 7999 < laneSix.threshold ∧ laneSix.threshold ≤ 8000 ∧
    6000 ≤ laneSix.release ∧ laneSix.release < 6001 ∧ ((39 : Int) - 0).natAbs < laneSix.landmarkSpacing ∧
    laneSix.landmarkSpacing ≤ ((40 : Int) - 0).natAbs ∧ Track.start.detector = .below := by decide

/-- The part whose lane lines hold what a test gives. -/
def lined (s : State) (l : LaneLine) : State := s.setLaneLine 0 l

/-- The lists of fields leave no byte of an entry out. -/
def fieldsCover : Nat → List Field → Option Nat
  | off, [] => some off
  | off, f :: fs => if f.1 = off then fieldsCover (off + f.2.1) fs else none

theorem test_fields_cover_the_entries :
    (∀ table ∈ [TableSel.layout, .global, .laneConfig, .laneStatus, .tube, .window, .amendment, .watch, .lines, .status],
      fieldsCover 0 (entryFields settled table 0 0) = some table.entryLength) ∧
    fieldsCover 0 (entryFields settled .lines 11 0) = some 8 ∧ fieldsCover 0 (noticeFields ⟨1, Report.poolLow 0⟩) = some 32 := by
  refine ⟨?_, by decide, by decide⟩
  intro table h
  fin_cases h <;> decide +kernel

theorem test_fields_cover_the_take_entry : fieldsCover 0 (takeFields sealedTake) = some 364 := by decide +kernel

/-- A part whose lane 0 has one event of each kind to take. -/
def timed (s : State) (e : LineEvent) : State := lined s { prev := some .home, driveLow := false, due := [e] }

theorem lane_timed (s : State) (e : LineEvent) (n : Fin 8) : (timed s e).lane n = s.lane n := rfl

/-- What lane line 0 holds does not matter to the books while lane 0 is enabled. -/
theorem books_timed {s : State} {e : LineEvent} (h : Books s ∧ TubesMatch s) (hs : (s.lane 0).state ≠ .disabled) :
    Books (timed s e) ∧ TubesMatch (timed s e) := by
  refine ⟨?_, TubesMatch.of_fields h.2 rfl rfl rfl⟩
  obtain ⟨h1, h2, h3, h4, ⟨a1, a2, a3⟩, ⟨b1, b2, b3⟩, ⟨c1, c2, c3, c4⟩, ⟨d1, d2, d3⟩, ⟨f1, f2, f3, f4, f5, f6⟩, ⟨g1, g2⟩,
    ⟨l1, l2, l3⟩⟩ := h.1
  refine ⟨h1, h2, h3, h4, ⟨a1, a2, a3⟩, ⟨b1, b2, b3⟩, ⟨c1, c2, c3, c4⟩, ⟨d1, d2, d3⟩, ⟨f1, f2, f3, f4, f5, ?_⟩, ⟨g1, g2⟩, ⟨l1, l2, l3⟩⟩
  intro n hn
  have hne : n ≠ 0 := fun h0 => hs (by rw [lane_timed] at hn; rw [← h0]; exact hn)
  refine ⟨(f6 n hn).1, ?_⟩
  have : (timed s e).laneLine n = s.laneLine n := by
    rw [timed, lined, State.laneLine_setLaneLine_ne _ _ hne]
  rw [this]; exact (f6 n hn).2

theorem range_part {fl : List Nat} {l : Lane} {ts : List (Nat × Take)} {x : Tube} {q : List (Fin 8)} {r c : Nat} :
    TimebaseInRange (partWith fl l ts x q r c) := by
  constructor <;> simp [partWith, engaged, State.reset]

/-- A sample that changes nothing and one that is the home-sensed event of an OPEN lane; a drive start with and without a pause
reason, in the drive phase; the sense window; a lane with nothing due; an event that is not the next; a DISABLED lane. -/
theorem meets_SampleAndDriveFollowLineAndPauses : canCome (timed opened .sample) 0 .sample ∧
    ((timed opened .sample).laneLine 0).prev = some .home ∧ ((timed opened .sample).lane 0).home = .away ∧
    ((timed opened .sample).lane 0).state = .opened ∧ ((timed opened .sample).lane 0).current = some 0 ∧
    canCome (timed waiting .driveStart) 0 .driveStart ∧ ((timed waiting .driveStart).lane 0).pauseAdmission = true ∧
    ({ timed waiting .driveStart with timebase := { State.reset.timebase with tick := 4 } } : State).timebase.window ≤ 4 ∧
    canCome (timed armed .driveStart) 0 .driveStart ∧ ((timed armed .driveStart).lane 0).pauseAdmission = false ∧
    (0 : Fin 12).val = (0 : Fin 8).val ∧ (armed.lane 7).state = .disabled ∧
    armed.timebase.tick < armed.timebase.window ∧ (armed.lane 0).state ≠ .disabled ∧ armed.pins.powerReset = false ∧
    (armed.laneLine 0).due = [] ∧ TimebaseInRange armed ∧ timeCommand 0 (.senseWindowSample 0 .low) ∧
    timeCommand 0 (.periodEnd 0) ∧ LineEvent.sample ≠ .driveStart := by
  refine ⟨by unfold canCome; decide, rfl, rfl, rfl, rfl, by unfold canCome; decide, rfl, by decide, by unfold canCome; decide, rfl,
    rfl, rfl, by decide, by decide, rfl, rfl, range_part, Or.inl ⟨_, rfl⟩, Or.inr (by simp), by decide⟩

/-- From reset on with lane 0 ARMED, DRIVE_PHASE_START and PERIOD_END are not taken before the sample; the sample comes with the
end of the sense window, and the drive start, the period end and the next sample after it, each once. -/
theorem test_time_events_come_in_their_order :
    armed.comes 0 .driveStart = false ∧ armed.comes 0 .periodEnd = false ∧ armed.comes 0 .sample = true ∧
    (armed.takeTimeEvent 0).timebase.tick = 4 ∧ (armed.takeTimeEvent 0).comes 0 .sample = false ∧
    (armed.takeTimeEvent 0).comes 0 .driveStart = true ∧
    ((armed.takeTimeEvent 0).takeTimeEvent 0).comes 0 .periodEnd = true ∧
    (((armed.takeTimeEvent 0).takeTimeEvent 0).takeTimeEvent 0).timebase.tick = 0 ∧
    (((armed.takeTimeEvent 0).takeTimeEvent 0).takeTimeEvent 0).comes 0 .sample = true := by decide +kernel

theorem meets_PeriodEndAdvancesTimers : canCome (timed armed .periodEnd) 0 .periodEnd ∧ (armed.lane 0).idle = none ∧
    (∀ s, s = timed (part { armedLane with state := .opened, idle := some 19998 } [] mapped [] 0 1) .periodEnd →
      canCome s 0 .periodEnd ∧ ∀ c, (s.lane 0).idle = some c → c + 1 < (s.lane 0).cfg.idle) := by
  refine ⟨by unfold canCome; decide, rfl, ?_⟩
  rintro s rfl
  refine ⟨⟨rfl, by decide, rfl⟩, fun c h => ?_⟩
  cases h; decide

/-- The period ends that bring the idle, the drain and the admission timer to their timeouts. -/
theorem meets_TimerExpiriesSealOrRefuse :
    (∀ s, s = opened ∨ s = closing ∨ s = waiting → canCome (timed s .periodEnd) 0 .periodEnd ∧ Books (timed s .periodEnd) ∧
      TubesMatch (timed s .periodEnd)) ∧
    recordsTake (timed opened .periodEnd) 0 0 ∧ (opened.lane 0).idle = some 19999 ∧ 19999 + 1 = (opened.lane 0).cfg.idle ∧
    recordsTake (timed closing .periodEnd) 0 0 ∧ (closing.lane 0).drain = some 9999 ∧ 9999 + 1 = (closing.lane 0).cfg.drain ∧
    (waiting.lane 0).held = some (corner, .push) ∧ (waiting.lane 0).admission = some 0 ∧
    0 + 1 = (waiting.lane 0).cfg.admission := by
  refine ⟨?_, ⟨rfl, Or.inl rfl⟩, rfl, rfl, ⟨rfl, Or.inr rfl⟩, rfl, rfl, rfl, rfl, rfl⟩
  rintro s (rfl | rfl | rfl)
  · exact ⟨by unfold canCome; decide, books_timed books_opened (by decide)⟩
  · exact ⟨by unfold canCome; decide, books_timed books_closing (by decide)⟩
  · exact ⟨by unfold canCome; decide, books_timed books_waiting (by decide)⟩

/-! ### Invariants -/

/-- A state of the invariants with a command in front, and the step it takes. -/
def stepping : State := { opened with pending := [.engage] }

theorem ports_stepping : PortsSound stepping := by
  refine ⟨?_, ?_, ?_, ?_, ?_, ?_⟩ <;> simp [stepping, opened, part, partWith, engaged, State.reset]

theorem meets_invariants : Books stepping ∧ TubesMatch stepping ∧ PortsSound stepping ∧ ∃ t, step stepping = .next t :=
  ⟨Books.of_fields books_opened.1 rfl rfl rfl rfl rfl rfl, TubesMatch.of_fields books_opened.2 rfl rfl rfl,
    ports_stepping, exec_next .engage opened rfl⟩

theorem meets_PowerOnStateIsSound : ∃ t, exec (.powerOnReset 3) State.reset = .next t := exec_next _ _ rfl

/-- Every lane's configuration, where lane 0 keeps that of the reset. -/
theorem configs_part {l : Lane} {ts : List (Nat × Take)} {x : Tube} {q : List (Fin 8)} {r c : Nat} (h : l.cfg = LaneConfig.reset 0) :
    ConfigsInRange (part l ts x q r c) ∧ EnabledConfigsConsistent (part l ts x q r c) := by
  refine ⟨fun n => ?_, fun n hn => ?_⟩
  · have : ((part l ts x q r c).lane n).cfg = LaneConfig.reset n := by
      rw [part, lane_part]; split
      · next h0 => rw [h0, h]
      · rfl
    rw [this]; constructor <;> simp [LaneConfig.reset]
  · rw [part, lane_part] at hn ⊢; split
    · rw [h]; simp [LaneConfig.reset]
    · next h0 => simp [h0, lane_disabled] at hn

/-- What the remaining invariants of the steps suppose, at the same state. -/
theorem meets_invariants_of_steps : BindingsMatch settled ∧ NoticesInRange stepping ∧ ArbiterSound stepping ∧
    EngagedLayoutValid stepping ∧ FrameSound stepping ∧ LockStopsLoads stepping ∧ BypassRestsLanes State.reset ∧
    TimebaseInRange stepping ∧ ConfigsInRange stepping ∧ EnabledConfigsConsistent stepping := by
  have hc := @configs_part { armedLane with state := .opened, current := some 0, idle := some 19999 }
    [(0, openTake)] { (mapped.opened 0) with claim := some 0 } [] 8 2 rfl
  refine ⟨bindings_settled, ⟨by decide, by decide, ?_, by decide⟩, ⟨?_, ?_, by decide⟩, fun _ => ?_,
    ⟨fun _ => rfl, fun h => Bool.noConfusion h, ?_⟩, fun _ => rfl, fun _ => by decide, ?_, hc.1, hc.2⟩
  · intro n h; exact absurd h (by simp [stepping, opened, part, partWith, engaged, State.reset])
  · intro c h; exact nomatch h
  · intro c h; exact nomatch h
  · show layoutValid (presetLayout 1) = true; decide
  · rintro (h | h) <;> exact nomatch h
  · obtain ⟨h1, h2, h3, h4, h5⟩ := @range_part allFree { armedLane with state := .opened, current := some 0, idle := some 19999 }
      [(0, openTake)] { (mapped.opened 0) with claim := some 0 } [] 8 2
    exact ⟨h1, h2, h3, h4, h5⟩

/-- A frame in REPLYING, and one held in power-on reset. -/
theorem meets_FrameSound : FrameSound (framed .replying) ∧ FrameSound held :=
  ⟨⟨fun _ => rfl, fun h => Bool.noConfusion h, fun _ => by simp [framed]⟩,
    ⟨fun h => absurd rfl h, fun _ => rfl, fun h => by rcases h with h | h <;> exact nomatch h⟩⟩

theorem serials_settled : SerialsDistinct settled := by
  refine ⟨?_, ?_, by decide, by decide⟩
  · intro k h; rw [settled, part, takeAt_part] at h ⊢
    by_cases hk : k = 0
    · simp only [hk, if_true]; exact ⟨by decide, by decide⟩
    · simp [hk, Take.free] at h
  · intro j k hj hk _; rw [settled, part, takeAt_part] at hj hk
    by_cases h1 : j = 0 <;> by_cases h2 : k = 0 <;> simp_all [Take.free]

theorem chains_growing : ChainsMatchLengths growing := by
  refine ⟨fun k h => ?_, fun n k h => ?_⟩
  · rw [growing, takeAt_part] at h ⊢
    by_cases hk : k = 0
    · subst hk; decide
    · simp [hk, Take.free] at h
  · rw [growing, lane_part] at h
    by_cases hn : n = 0
    · subst hn; cases h; decide
    · simp [hn, lane_disabled] at h

/-- A sealed take of no data. -/
theorem chains_settled : ChainsMatchLengths settled := by
  refine ⟨fun k h => ?_, fun n k h => ?_⟩
  · rw [settled, part, takeAt_part] at h ⊢
    by_cases hk : k = 0
    · subst hk; decide
    · simp [hk, Take.free] at h
  · rw [settled, part, lane_part] at h
    by_cases hn : n = 0
    · subst hn; exact nomatch h
    · simp [hn, lane_disabled] at h

/-- Two bytes of one chain. -/
theorem meets_StoredBytesNeverShareAnAddress : Books growing ∧ layoutGood growing.layout ∧
    0 / 262144 < (growing.takeAt 0).chain.length ∧ 262143 / 262144 < (growing.takeAt 0).chain.length ∧ (0 ≠ 0 ∨ 0 ≠ 262143) :=
  ⟨books_growing.1, layoutGood_engaged, by decide, by decide, by decide⟩

end Sys2Proof.Tests
end

section
/-! The TUBE write (R15): what each byte's reading gives, what the checks of a request that reads a value decide, and the
settled statement. -/

namespace Sys2Proof.Machine

variable {s : State}

/-! ## The bytes of a TUBE entry -/

/-- A byte is one of the encodings 0 and 1, or above both. -/
theorem byte_zero_one_or_above (b : Byte) : b = 0 ∨ b = 1 ∨ 1 < b.toNat := by bv_omega

/-- The presence byte has the two encodings 0 and 1 (R188). -/
theorem presenceOf_eq (b : Byte) :
    presenceOf b = if 1 < b.toNat then none else some (if b = 1 then .inMap else .notInMap) := by
  obtain rfl | rfl | h := byte_zero_one_or_above b
  · rfl
  · rfl
  · rw [if_pos h, presenceOf]
    split <;> grind

/-- The plug byte has the two encodings 0 and 1 (R188). -/
theorem plugOf_eq (b : Byte) :
    plugOf b = if 1 < b.toNat then none else some (if b = 1 then .plugged else .unplugged) := by
  obtain rfl | rfl | h := byte_zero_one_or_above b
  · rfl
  · rfl
  · rw [if_pos h, plugOf]
    split <;> grind

/-- Map fields give no tube where one of the three is out of range (R15, check 5). -/
theorem Tube.mapFields_none {t : Tube} {p g x : Byte} (h : 1 < p.toNat ∨ 1 < g.toNat ∨ 47 < x.toNat) :
    t.mapFields p g x = none := by
  unfold Tube.mapFields
  rw [presenceOf_eq, plugOf_eq]
  obtain hp | hg | hx := h
  · rw [if_pos hp]
  · rw [if_pos hg]
    split <;> grind
  · split
    next => exact if_neg (by omega)
    next => rfl

/-- Map fields in range give the tube with those three set. -/
theorem Tube.mapFields_some {t : Tube} {p g x : Byte} (h : ¬(1 < p.toNat ∨ 1 < g.toNat ∨ 47 < x.toNat)) :
    t.mapFields p g x = some { t with
      presence := if p = 1 then .inMap else .notInMap
      plug := if g = 1 then .plugged else .unplugged
      expected := x.toNat } := by
  obtain ⟨hp, hg, hx⟩ : ¬1 < p.toNat ∧ ¬1 < g.toNat ∧ x.toNat ≤ 47 := by omega
  simp [Tube.mapFields, presenceOf_eq, plugOf_eq, hp, hg, hx, Tube.mapped]

/-! ## Requests whose last check reads a value -/

/-- The first failing check refuses, whatever the value read. -/
theorem State.checkedValue_fail {α : Type} {checks : List (Bool × Status)} {v : Option α} {f : α → State → State}
    {e : Status} (h : firstFailing checks = some e) : s.checkedValue checks v f = (s, e) := by
  simp [State.checkedValue, h, State.refused]

/-- With the checks passed, a field out of its values gives BAD_VALUE. -/
theorem State.checkedValue_none {α : Type} {checks : List (Bool × Status)} {f : α → State → State}
    (h : firstFailing checks = none) : s.checkedValue checks none f = (s, .badValue) := by
  simp [State.checkedValue, h, State.refused]

/-- With the checks passed, the value read takes effect. -/
theorem State.checkedValue_some {α : Type} {checks : List (Bool × Status)} {a : α} {f : α → State → State}
    (h : firstFailing checks = none) : s.checkedValue checks (some a) f = (f a s, .done) := by
  simp [State.checkedValue, h, State.done]

/-! ## The command -/

/-- The checks of a TUBE write before its fields are read, in the order of R15. -/
def tubeWriteChecks (s : State) (i : Nat) : List (Bool × Status) :=
  [(decide (Config.tubeCount ≤ i), .badIndex), (s.locked, .refusedLocked), (s.loader.running, .refusedState),
    ((s.tubeAt i).claim.isSome, .refusedState)]

/-- Taking the event does not change what the checks see. -/
@[simp] theorem tubeWriteChecks_takeEvent (i : Nat) : tubeWriteChecks s.takeEvent i = tubeWriteChecks s i := rfl

theorem firstFailing_tubeWriteChecks (s : State) (i : Nat) : firstFailing (tubeWriteChecks s i) =
    if 16383 < i then some .badIndex
    else if s.locked = true then some .refusedLocked
    else if s.loader.running = true then some .refusedState
    else if (s.tubeAt i).claim ≠ none then some .refusedState
    else none := by
  simp [tubeWriteChecks, firstFailing, Option.isSome_iff_ne_none, Nat.lt_iff_add_one_le]

/-- A TUBE write is a request of these checks, then of its fields read as map fields. -/
theorem exec_writeEntryTube (index : BitVec 16) (e : TubeEntry) (s : State) :
    exec (.writeEntryTube index e) s = s.request (.writeEntryTube index e) fun s =>
      s.checkedValue (tubeWriteChecks s index.toNat)
        ((s.tubeAt index.toNat).mapFields e.presence e.plug e.expected) fun t s => s.setTube index.toNat t := rfl

section
variable {index : BitVec 16} {e : TubeEntry}

/-- A TUBE write that fails a check changes nothing. -/
theorem exec_writeEntryTube_fails {st : Status} (h : s.listening = true)
    (hf : firstFailing (tubeWriteChecks s index.toNat) = some st) :
    exec (.writeEntryTube index e) s = .next (s.answered (.writeEntryTube index e) st []) := by
  rw [exec_writeEntryTube]
  exact State.request_refuses h (State.checkedValue_fail hf)

/-- A TUBE write of a field out of range changes nothing. -/
theorem exec_writeEntryTube_badValue (h : s.listening = true)
    (hf : firstFailing (tubeWriteChecks s index.toNat) = none)
    (hv : 1 < e.presence.toNat ∨ 1 < e.plug.toNat ∨ 47 < e.expected.toNat) :
    exec (.writeEntryTube index e) s = .next (s.answered (.writeEntryTube index e) .badValue []) := by
  rw [exec_writeEntryTube]
  refine State.request_refuses h ?_
  rw [Tube.mapFields_none hv]
  exact State.checkedValue_none hf

/-- A TUBE write that passes its checks sets the three map fields of its tube. -/
theorem exec_writeEntryTube_done (h : s.listening = true)
    (hf : firstFailing (tubeWriteChecks s index.toNat) = none)
    (hv : ¬(1 < e.presence.toNat ∨ 1 < e.plug.toNat ∨ 47 < e.expected.toNat)) :
    exec (.writeEntryTube index e) s = .next ((s.setTube index.toNat { s.tubeAt index.toNat with
      presence := if e.presence = 1 then .inMap else .notInMap
      plug := if e.plug = 1 then .plugged else .unplugged
      expected := e.expected.toNat }).answered (.writeEntryTube index e) .done []) := by
  rw [exec_writeEntryTube]
  refine State.request_gives (u := s.takeEvent.setTube _ _) h ?_ rfl rfl
  rw [Tube.mapFields_some hv]
  exact State.checkedValue_some hf

end

/-- Of a TUBE write's payload only bytes 6 to 8 of the request are read (R190). -/
theorem writeOf_tube_congr {f g : List Byte} (h6 : byteAt f 6 = byteAt g 6) (h7 : byteAt f 7 = byteAt g 7)
    (h8 : byteAt f 8 = byteAt g 8) (hi : frameIndex f = frameIndex g) : writeOf f .tube = writeOf g .tube := by
  simp only [writeOf, tubeEntryOf, h6, h7, h8, hi]

/-- Settles O16: the checks of R15 one after the other, then the write. -/
theorem tubeWriteSetsMapFields : Obligations.TubeWriteSetsMapFields := by
  refine ⟨fun index e s h => ?_, fun f g => writeOf_tube_congr⟩
  have hf := firstFailing_tubeWriteChecks s index.toNat
  split_ifs at hf with hindex hlocked hloading hclaim
  · rw [if_pos hindex, exec_writeEntryTube_fails h hf]
  · rw [if_neg hindex, if_pos hlocked, exec_writeEntryTube_fails h hf]
  · rw [if_neg hindex, if_neg hlocked, if_pos hloading, exec_writeEntryTube_fails h hf]
  · rw [if_neg hindex, if_neg hlocked, if_neg hloading, if_pos hclaim, exec_writeEntryTube_fails h hf]
  · rw [if_neg hindex, if_neg hlocked, if_neg hloading, if_neg hclaim]
    split
    next hfields => exact exec_writeEntryTube_badValue h hf hfields
    next hfields => exact exec_writeEntryTube_done h hf hfields

end Sys2Proof.Machine
end

section
/-! ACCEPT_TAKE (R36–R39, R9): what the checks of a verdict decide, what each part of its effect leaves in the take and tube
tables, and the settled statement. -/

namespace Sys2Proof.Machine

variable {s : State}

/-! ## The checks of a verdict -/

/-- The checks of R36 come first, then the command's own. -/
theorem firstFailing_takeChecks_append (s : State) (index : BitVec 16) (serial : BitVec 32) (own : List (Bool × Status)) :
    firstFailing (s.takeChecks index serial ++ own) = (takeRefusal s index serial).or (firstFailing own) := by
  have hserial : serial ≠ 0 ↔ serial.toNat ≠ 0 := by simp [← BitVec.toNat_inj]
  simp only [State.takeChecks, List.cons_append, List.nil_append, firstFailing, State.wrongSerial, takeRefusal,
    Config.takeSlots, Nat.lt_iff_add_one_le, hserial, Bool.and_eq_true, decide_eq_true_eq]
  split_ifs <;> rfl

section
variable {index : BitVec 16} {serial : BitVec 32} {f : State → State}

/-- A verdict that fails a check of R36 changes nothing. -/
theorem State.verdict_fails {e : Status} (v : Verdict) (h : takeRefusal s index serial = some e) :
    s.verdict index serial v f = (s, e) :=
  State.checked_fail (by rw [firstFailing_takeChecks_append, h]; rfl)

/-- A verdict that the take's state refuses changes nothing. -/
theorem State.verdict_refused (h : takeRefusal s index serial = none) :
    s.verdict index serial .refused f = (s, .refusedState) :=
  State.checked_fail (by rw [firstFailing_takeChecks_append, h]; rfl)

/-- A verdict that the take already has is DONE and changes nothing. -/
theorem State.verdict_already (h : takeRefusal s index serial = none) : s.verdict index serial .already f = (s, .done) :=
  State.checked_pass (by rw [firstFailing_takeChecks_append, h]; rfl)

/-- A verdict that is taken has its effect. -/
theorem State.verdict_taken (h : takeRefusal s index serial = none) : s.verdict index serial .taken f = (f s, .done) :=
  State.checked_pass (by rw [firstFailing_takeChecks_append, h]; rfl)

/-- Taking the event does not change what the checks see. -/
@[simp] theorem takeRefusal_takeEvent : takeRefusal s.takeEvent index serial = takeRefusal s index serial := rfl

end

/-! ## The take's state and its tube's record -/

/-- Setting a take's state changes the take table alone. -/
theorem State.setTakeState_frame (s : State) (k : Nat) (st : TakeState) :
    s.setTakeState k st = { s with takes := (s.setTakeState k st).takes } := rfl

@[simp] theorem State.tubeAt_setTakeState (k : Nat) (st : TakeState) (i : Nat) :
    (s.setTakeState k st).tubeAt i = s.tubeAt i := rfl

/-- A take's state is set, and no other field of it and no other take changes. -/
theorem State.takeAt_setTakeState (h : s.takesForm) (k j : Nat) (st : TakeState) :
    (s.setTakeState k st).takeAt j = if j = k then { s.takeAt k with state := st } else s.takeAt j :=
  State.takeAt_setTake h k j _

/-- A change of the record of a take's tube changes the tube table alone. -/
theorem State.modTubeOf_frame (s : State) (k : Nat) (f : Tube → Tube) :
    s.modTubeOf k f = { s with tubes := (s.modTubeOf k f).tubes } := by
  unfold State.modTubeOf; split <;> rfl

@[simp] theorem State.takeAt_modTubeOf (k : Nat) (f : Tube → Tube) (j : Nat) :
    (s.modTubeOf k f).takeAt j = s.takeAt j := by
  rw [State.modTubeOf_frame]; rfl

/-- Of the tube table only the record of the take's tube changes. -/
theorem State.tubeAt_modTubeOf (h : s.tubesForm) {k : Nat} {p : TubePos} (hp : (s.takeAt k).tube = some p)
    (f : Tube → Tube) (i : Nat) :
    (s.modTubeOf k f).tubeAt i = if i = p.index then f (s.tubeAt p.index) else s.tubeAt i := by
  simp only [State.modTubeOf, hp, State.tubeAt_setTube h]

/-- The tube's update by ACCEPT_TAKE in the statements' words (R9). -/
theorem Tube.accept_eq (t : Tube) (k : Nat) (st : TakeState) :
    t.accept k st = tubeAfterVerdict t (some k) true (pendingAfter t st) := by
  by_cases h : t.status = .inTest <;>
    simp [Tube.accept, Tube.uncount, Tube.settle, Tube.recompute, tubeAfterVerdict, pendingAfter, standing, h]

/-! ## Supersession -/

/-- The take superseded is the tube's accepted take, where that is another one (R9, step 1). -/
theorem State.rival_eq_some {k u : Nat} {p : TubePos} (hp : (s.takeAt k).tube = some p) :
    s.rival k = some u ↔ (s.tubeAt p.index).accepted = some u ∧ u ≠ k := by
  simp [State.rival, hp, Option.filter_eq_some_iff]

/-- An accepted take has a slot of the table. -/
theorem Books.slot_of_accepted (h : Books s) {i u : Nat} (hu : (s.tubeAt i).accepted = some u) : u < Config.takeSlots := by
  refine State.slot_of_takeAt h.takesForm fun hfree => ?_
  have hstate := (h.accepted.names i u hu).1
  rw [hfree] at hstate
  exact nomatch hstate

/-- Supersession changes the take table alone. -/
theorem State.supersede_frame (s : State) (k : Nat) : s.supersede k = { s with takes := (s.supersede k).takes } := by
  unfold State.supersede; split <;> rfl

@[simp] theorem State.tubeAt_supersede (k i : Nat) : (s.supersede k).tubeAt i = s.tubeAt i := by
  rw [State.supersede_frame]; rfl

section
variable {k : Nat} {p : TubePos}

theorem State.takesForm_supersede (h : Books s) (hp : (s.takeAt k).tube = some p) : (s.supersede k).takesForm := by
  unfold State.supersede
  split
  next u hu =>
    obtain ⟨hacc, -⟩ := (State.rival_eq_some hp).mp hu
    exact State.takesForm_setTake h.takesForm _ (h.slot_of_accepted hacc)
  next => exact h.takesForm

/-- The tube's earlier accepted take becomes SUPERSEDED; no other take changes (R39). -/
theorem State.takeAt_supersede (h : s.takesForm) (k j : Nat) : (s.supersede k).takeAt j =
    if s.rival k = some j then { s.takeAt j with state := .superseded } else s.takeAt j := by
  unfold State.supersede
  split
  next u hu =>
    rw [State.takeAt_setTakeState h, hu]
    by_cases hj : j = u
    · rw [if_pos hj, if_pos (congrArg some hj.symm), hj]
    · rw [if_neg hj, if_neg (fun he => hj (Option.some_inj.mp he).symm)]
  next hu => rw [hu, if_neg (Option.some_ne_none j).symm]

/-- The take that is accepted is not superseded. -/
theorem State.takeAt_supersede_self (h : Books s) (hp : (s.takeAt k).tube = some p) :
    (s.supersede k).takeAt k = s.takeAt k := by
  rw [State.takeAt_supersede h.takesForm, if_neg (fun hk => ((State.rival_eq_some hp).mp hk).2 rfl)]

/-! ## The effect of ACCEPT_TAKE -/

/-- ACCEPT_TAKE changes the take and tube tables alone. -/
theorem State.accept_frame (s : State) (k : Nat) :
    s.accept k = { s with takes := (s.accept k).takes, tubes := (s.accept k).tubes } := by
  rw [State.accept, State.modTubeOf_frame, State.setTakeState_frame, State.supersede_frame]

/-- Each take after ACCEPT_TAKE (R38, R39). -/
theorem State.takeAt_accept (h : Books s) (hp : (s.takeAt k).tube = some p) (j : Nat) :
    (s.accept k).takeAt j = if j = k then { s.takeAt k with state := .accepted }
      else if (s.tubeAt p.index).accepted = some j then { s.takeAt j with state := .superseded } else s.takeAt j := by
  rw [State.accept, State.takeAt_modTubeOf, State.takeAt_setTakeState (State.takesForm_supersede h hp),
    State.takeAt_supersede_self h hp]
  by_cases hj : j = k
  · rw [if_pos hj, if_pos hj]
  · rw [if_neg hj, if_neg hj, State.takeAt_supersede h.takesForm]
    simp only [State.rival_eq_some hp, hj, ne_eq, not_false_eq_true, and_true]

/-- Each tube after ACCEPT_TAKE (R9). -/
theorem State.tubeAt_accept (h : Books s) (hp : (s.takeAt k).tube = some p) (i : Nat) :
    (s.accept k).tubeAt i = if i = p.index
      then tubeAfterVerdict (s.tubeAt p.index) (some k) true (pendingAfter (s.tubeAt p.index) (s.takeAt k).state)
      else s.tubeAt i := by
  have htube : (((s.supersede k).setTakeState k .accepted).takeAt k).tube = some p := by
    rw [State.takeAt_setTakeState (State.takesForm_supersede h hp), if_pos rfl, State.takeAt_supersede_self h hp, ← hp]
  have hform : ((s.supersede k).setTakeState k .accepted).tubesForm := by
    rw [State.setTakeState_frame, State.supersede_frame]; exact h.tubesForm
  rw [State.accept, State.tubeAt_modTubeOf hform htube, State.tubeAt_setTakeState, State.tubeAt_setTakeState,
    State.tubeAt_supersede, State.tubeAt_supersede, Tube.accept_eq]

end

/-! ## The command -/

/-- ACCEPT_TAKE is a verdict decided by the take's state (R37). -/
theorem exec_acceptTake (index : BitVec 16) (serial : BitVec 32) (s : State) :
    exec (.acceptTake index serial) s = s.request (.acceptTake index serial) fun s =>
      s.verdict index serial (acceptBy (s.takeAt index.toNat).state) (State.accept index.toNat) := rfl

section
variable {index : BitVec 16} {serial : BitVec 32}

/-- ACCEPT_TAKE that fails a check of R36 changes nothing. -/
theorem exec_acceptTake_fails {e : Status} (h : s.listening = true) (he : takeRefusal s index serial = some e) :
    exec (.acceptTake index serial) s = .next (s.answered (.acceptTake index serial) e []) := by
  rw [exec_acceptTake]
  exact State.request_refuses h (State.verdict_fails _ he)

/-- ACCEPT_TAKE of a take whose state refuses it changes nothing. -/
theorem exec_acceptTake_refused (h : s.listening = true) (hc : takeRefusal s index serial = none)
    (hv : acceptBy (s.takeAt index.toNat).state = .refused) :
    exec (.acceptTake index serial) s = .next (s.answered (.acceptTake index serial) .refusedState []) := by
  rw [exec_acceptTake]
  refine State.request_refuses h ?_
  rw [State.takeAt_takeEvent, hv]
  exact State.verdict_refused hc

/-- ACCEPT_TAKE of an ACCEPTED take changes nothing. -/
theorem exec_acceptTake_already (h : s.listening = true) (hc : takeRefusal s index serial = none)
    (hv : acceptBy (s.takeAt index.toNat).state = .already) :
    exec (.acceptTake index serial) s = .next (s.answered (.acceptTake index serial) .done []) := by
  rw [exec_acceptTake]
  refine State.request_gives (u := s.takeEvent) h ?_ rfl rfl
  rw [State.takeAt_takeEvent, hv]
  exact State.verdict_already hc

/-- ACCEPT_TAKE that is taken has the effect of R38. -/
theorem exec_acceptTake_taken (h : s.listening = true) (hc : takeRefusal s index serial = none)
    (hv : acceptBy (s.takeAt index.toNat).state = .taken) :
    exec (.acceptTake index serial) s =
      .next ((s.takeEvent.accept index.toNat).answered (.acceptTake index serial) .done []) := by
  rw [exec_acceptTake]
  refine State.request_answers h ?_ (by rw [State.accept_frame]; rfl)
  rw [State.takeAt_takeEvent, hv]
  exact State.verdict_taken hc

end

/-- Settles O26: the checks of R36, then R37's table by the take's state; the taken case reads the tables after the
effect of R38 and R9. -/
theorem acceptTakeSupersedesEarlierTake : Obligations.AcceptTakeSupersedesEarlierTake := by
  rintro index serial s _ _ hl hb rfl rfl
  refine ⟨fun e he => exec_acceptTake_fails hl he, fun hc hx => exec_acceptTake_refused hl hc ?_,
    fun hc hx => exec_acceptTake_already hl hc ?_, fun p hc hx hp => ?_⟩
  · obtain hx | hx | hx | hx := hx <;> rw [hx] <;> rfl
  · rw [hx]; rfl
  · have hv : acceptBy (s.takeAt index.toNat).state = .taken := by obtain hx | hx := hx <;> rw [hx] <;> rfl
    have hb' : Books s.takeEvent := hb.of_fields rfl rfl rfl rfl rfl rfl
    have hp' : (s.takeEvent.takeAt index.toNat).tube = some p := hp
    refine ⟨_, exec_acceptTake_taken hl hc hv, ?_, ?_, fun j hj => ?_, fun i hi => ?_, ?_⟩
    · rw [State.accept_frame]; rfl
    · rw [State.takeAt_accept hb' hp', if_pos rfl, State.takeAt_takeEvent]
    · rw [State.takeAt_accept hb' hp', if_neg hj, State.tubeAt_takeEvent, State.takeAt_takeEvent]
    · rw [State.tubeAt_accept hb' hp', if_neg hi, State.tubeAt_takeEvent]
    · rw [State.tubeAt_accept hb' hp', if_pos rfl, State.tubeAt_takeEvent, State.takeAt_takeEvent]

end Sys2Proof.Machine
end

section
/-! ENABLE_LANE (R48): what its checks decide, what a lane becomes that passes them, and the settled statement. -/

namespace Sys2Proof.Machine

variable {s : State}

/-- A command whose index is above 7 names no lane and is BAD_INDEX. -/
theorem State.laneCommand_badIndex {index : BitVec 16} {act : Fin 8 → State × Status} (h : 7 < index.toNat) :
    s.laneCommand index act = (s, .badIndex) := by
  simp [State.laneCommand, laneOf_none h, State.refused]

/-- A command that names lane n acts on it. -/
theorem State.laneCommand_lane {index : BitVec 16} {act : Fin 8 → State × Status} {n : Fin 8} (h : index.toNat = n.val) :
    s.laneCommand index act = act n := by
  simp [State.laneCommand, h, laneOf_val]

/-- The checks of ENABLE_LANE once it names a lane, in the order of R48. -/
def enableChecks (s : State) (n : Fin 8) : List (Bool × Status) :=
  [(!s.mode.isEngaged, .refusedState), ((s.lane n).enabled, .refusedState), (!(s.lane n).cfg.consistent, .badValue)]

/-- The first check of ENABLE_LANE that fails: the mode, the lane's state, then its configuration. -/
theorem firstFailing_enableChecks (s : State) (n : Fin 8) : firstFailing (enableChecks s n) =
    if s.mode = .bypass then some .refusedState
    else if (s.lane n).state ≠ .disabled then some .refusedState
    else if (s.lane n).cfg.channels ≤ (s.lane n).cfg.detector ∨ (s.lane n).cfg.threshold ≤ (s.lane n).cfg.release then
      some .badValue
    else none := by
  have hmode : (!s.mode.isEngaged) = decide (s.mode = .bypass) := by cases s.mode <;> rfl
  have hcfg : (!(s.lane n).cfg.consistent) = decide ((s.lane n).cfg.channels ≤ (s.lane n).cfg.detector ∨
      (s.lane n).cfg.threshold ≤ (s.lane n).cfg.release) := by
    simp [LaneConfig.consistent, ← decide_not, Bool.decide_or]
  simp only [enableChecks, firstFailing, hmode, hcfg, Lane.enabled, decide_eq_true_eq]

/-- ENABLE_LANE is a request that names a lane, with these checks. -/
theorem exec_enableLane (index : BitVec 16) (s : State) :
    exec (.enableLane index) s = s.request (.enableLane index) fun s =>
      s.laneCommand index fun n => s.checked (enableChecks s n) (State.armLane n) := rfl

section
variable {index : BitVec 16} {n : Fin 8}

/-- ENABLE_LANE of a lane that does not exist changes nothing. -/
theorem exec_enableLane_badIndex (h : s.listening = true) (hi : 7 < index.toNat) :
    exec (.enableLane index) s = .next (s.answered (.enableLane index) .badIndex []) := by
  rw [exec_enableLane]
  exact State.request_refuses h (State.laneCommand_badIndex hi)

/-- ENABLE_LANE that fails a check changes nothing. -/
theorem exec_enableLane_fails {e : Status} (h : s.listening = true) (hi : index.toNat = n.val)
    (he : firstFailing (enableChecks s n) = some e) :
    exec (.enableLane index) s = .next (s.answered (.enableLane index) e []) := by
  rw [exec_enableLane]
  exact State.request_refuses h ((State.laneCommand_lane hi).trans (State.checked_fail he))

/-- ENABLE_LANE that passes its checks arms the lane. -/
theorem exec_enableLane_arms (h : s.listening = true) (hi : index.toNat = n.val)
    (he : firstFailing (enableChecks s n) = none) :
    exec (.enableLane index) s = .next ((s.armLane n).answered (.enableLane index) .done []) := by
  rw [exec_enableLane]
  exact State.request_gives (t := s.armLane n) h ((State.laneCommand_lane hi).trans (State.checked_pass he)) rfl rfl

end

/-- Settles O23: the checks of R48 one after the other, then the arming. -/
theorem enableLaneArmsLane : Obligations.EnableLaneArmsLane := by
  refine fun index s h => ⟨exec_enableLane_badIndex h, fun n hi => ?_⟩
  have hf := firstFailing_enableChecks s n
  refine ⟨fun hm => exec_enableLane_fails h hi ?_, fun hm hs => exec_enableLane_fails h hi ?_,
    fun hm hs hc => exec_enableLane_fails h hi ?_, fun hm hs hd hr => exec_enableLane_arms h hi ?_⟩
  · rw [hf, if_pos hm]
  · rw [hf, if_neg (by rw [hm]; decide), if_pos hs]
  · rw [hf, if_neg (by rw [hm]; decide), if_neg (not_not.mpr hs), if_pos hc]
  · rw [hf, if_neg (by rw [hm]; decide), if_neg (not_not.mpr hs), if_neg (by omega)]

end Sys2Proof.Machine
end

section
/-! A rig-port transaction as one event (R143): what watching it leaves unchanged, and how its outcome joins the in-flight
list. -/

namespace Sys2Proof.Machine

variable {s : State}

/-! ## Watching -/

/-- A hold changes the lanes alone. -/
theorem State.holdLane_frame (n : Fin 8) : s.holdLane n = { s with lanes := (s.holdLane n).lanes } := by
  unfold State.holdLane; split <;> rfl

/-- A hit changes the watch units, the lanes and the notices alone. -/
theorem State.watchAct_frame (t : RigTxn) (u : Fin 4) : s.watchAct t u =
    { s with watches := (s.watchAct t u).watches, lanes := (s.watchAct t u).lanes,
             notices := (s.watchAct t u).notices, arbiter := (s.watchAct t u).arbiter } := by
  simp only [State.watchAct]
  split
  · rw [State.holdLane_frame]; split <;> rfl
  · split <;> rfl

/-- Watching a transaction changes the watch units, the lanes and the notices alone. -/
theorem State.watch_frame (t : RigTxn) : s.watch t =
    { s with watches := (s.watch t).watches, lanes := (s.watch t).lanes, notices := (s.watch t).notices,
             arbiter := (s.watch t).arbiter } := by
  unfold State.watch
  induction s.watchHits t generalizing s with
  | nil => rfl
  | cons u us ih => rw [List.foldl_cons, ih, State.watchAct_frame]

/-! ## Joining the in-flight list -/

/-- Nothing is answered from a list whose head is not complete. -/
theorem drainFlights_of_head {l : List Flight} (h : ∀ f ∈ l.head?, f.complete = false) : drainFlights l = ([], l) := by
  match l with
  | [] => rfl
  | .answered r :: _ => exact absurd (h _ rfl) (by simp [Flight.complete])
  | .stream _ _ :: _ => rfl
  | .awaiting _ _ _ :: _ => rfl

/-- Where the head of the in-flight list is not complete, nothing is answered. -/
theorem State.respond_of_head {w : State} (h : ∀ f ∈ w.inFlight.head?, f.complete = false) :
    w.respond = { w with out := { w.out with responses := [] } } := by
  rw [State.respond, drainFlights_of_head h]

/-- An outcome that joins a list with no complete head is answered at once where it is complete and the list was empty,
and otherwise stands at the tail (R143). -/
theorem State.joined_respond {w : State} (f : Flight) (hp : PortsSound s) (hf : w.inFlight = s.inFlight)
    (ho : w.out = { Outputs.none with taken := true }) : Joined s w (w.join f).respond f := by
  have stands (h : s.inFlight = [] → f.complete = false) :
      (w.join f).respond = { w with inFlight := s.inFlight ++ [f], out := rigOut [] } := by
    have hhead : ∀ g ∈ (w.join f).inFlight.head?, g.complete = false := by
      simp only [State.join, hf]
      cases hl : s.inFlight with
      | nil => simpa using h hl
      | cons g l => simpa [hl] using hp.head
    rw [State.respond_of_head hhead]
    simp only [State.join, hf, ho]
    rfl
  cases f with
  | stream a o => exact stands fun _ => rfl
  | awaiting a n o => exact stands fun _ => rfl
  | answered r =>
    simp only [Joined]
    split
    next he =>
      simp only [State.respond, State.join, hf, he, ho]
      rfl
    next he => exact stands fun h => absurd h he

/-! ## The command -/

/-- A transaction that the rig port takes is watched, routed and answered where its turn has come. -/
theorem exec_rigPortTransaction {t : RigTxn} (h : RigTaken s t) :
    exec (.rigPortTransaction t) s = .next (s.takeEvent.rigTransaction t) := by
  have hwf : t.wf = true := by simp [RigTxn.wf, h.size, h.inUnit]
  have hroom : ¬(s.pins.powerReset = true ∨ Config.inFlightLimit ≤ s.inFlight.length) := by
    simpa [h.ready] using h.room
  show execRigPortTransaction t s = _
  rw [execRigPortTransaction, hwf, if_neg (by decide), if_neg hroom]

/-- A transaction taken joins the in-flight list with the outcome that its route fixes, from the state that its route
leaves, where that leaves the list and the outputs to the rig port. -/
theorem exec_rigPortTransaction_joined {t : RigTxn} {w : State} (h : RigTaken s t) (hp : PortsSound s)
    (hw : w = s.takeEvent.watch t) (hf : (w.route t).1.inFlight = w.inFlight) (ho : (w.route t).1.out = w.out) :
    ∃ u, exec (.rigPortTransaction t) s = .next u ∧ Joined s (w.route t).1 u (w.route t).2 := by
  subst hw
  refine ⟨_, exec_rigPortTransaction h, State.joined_respond _ hp ?_ ?_⟩
  · rw [hf, State.watch_frame]; rfl
  · rw [ho, State.watch_frame]; rfl

end Sys2Proof.Machine
end

section
/-! Lane writes (R69–R75): what every lane write leaves unchanged, what each check of R69 decides, and the settled
statement about those that are not taken in order. -/

namespace Sys2Proof.Machine

variable {s : State}

/-! ## What a lane write leaves unchanged -/

/-- `t` differs from `s` at most in the records that the Lane Engines and the blocks they ask write. -/
def LaneFrame (s t : State) : Prop :=
  t = { s with pool := t.pool, takes := t.takes, tubes := t.tubes, lanes := t.lanes, serialCounter := t.serialCounter,
               notices := t.notices, arbiter := t.arbiter }

theorem LaneFrame.refl (s : State) : LaneFrame s s := rfl

theorem LaneFrame.trans {t u : State} (h : LaneFrame s t) (h' : LaneFrame t u) : LaneFrame s u := by
  unfold LaneFrame at *
  rw [h', h]

theorem LaneFrame.inFlight {t : State} (h : LaneFrame s t) : t.inFlight = s.inFlight := by rw [h]

theorem LaneFrame.out {t : State} (h : LaneFrame s t) : t.out = s.out := by rw [h]

theorem State.laneFrame_setLane (n : Fin 8) (l : Lane) : LaneFrame s (s.setLane n l) := rfl

theorem State.laneFrame_setTake (k : Nat) (x : Take) : LaneFrame s (s.setTake k x) := rfl

theorem State.laneFrame_flagTake (k : Nat) (f : Flag) : LaneFrame s (s.flagTake k f) := rfl

theorem State.laneFrame_latchTest (q : Bool) : LaneFrame s (s.latchTest q) := by
  unfold LaneFrame; rw [State.latchTest_frame]

theorem State.laneFrame_sealTake (n : Fin 8) (c : CloseCause) (q : Bool) : LaneFrame s (s.sealTake n c q) := by
  unfold LaneFrame; rw [State.sealTake_frame]

theorem State.laneFrame_giveSegment (k seg : Nat) (rest : List Nat) (own : Bool) :
    LaneFrame s (s.giveSegment k seg rest own) := rfl

/-- A stray write marks its lane and posts. -/
theorem State.laneFrame_strayWrite (n : Fin 8) (src : Source) : LaneFrame s (s.strayWrite n src) := by
  unfold State.strayWrite; split <;> rfl

/-- An allocation draws on the pool for its take, with the latch test where it draws on the unreserved share. -/
theorem State.laneFrame_allocate {k : Nat} {t : State} (h : s.allocate k = some t) : LaneFrame s t := by
  unfold State.allocate at h
  split at h
  next => exact nomatch h
  next seg rest _ =>
    split_ifs at h
    · cases h
      exact State.laneFrame_giveSegment ..
    · cases h
      exact (State.laneFrame_giveSegment ..).trans (State.laneFrame_latchTest _)

/-- The segment for an in-order write is the chain's last, or allocated. -/
theorem State.laneFrame_segmentFor {k off : Nat} {t : State} (h : s.segmentFor k off = some t) : LaneFrame s t := by
  unfold State.segmentFor at h
  split at h
  next => exact State.laneFrame_allocate h
  next =>
    cases h
    exact .refl s

/-- A completed block is noted by its lane, and may bring a seal. -/
theorem State.laneFrame_blockCompleted (n : Fin 8) (q : BitVec 16) : LaneFrame s (s.blockCompleted n q) := by
  unfold State.blockCompleted
  dsimp only
  split
  · exact (State.laneFrame_setLane ..).trans (State.laneFrame_sealTake ..)
  · exact State.laneFrame_setLane ..

theorem State.laneFrame_inOrderWrite (n : Fin 8) (k off : Nat) (data : List Byte) :
    LaneFrame s (s.inOrderWrite n k off data).1 := by
  unfold State.inOrderWrite
  split
  · exact State.laneFrame_flagTake ..
  next s1 h =>
    have recorded : LaneFrame s (s1.recordUnit n k (s1.parseUnit n k data).1) :=
      (State.laneFrame_segmentFor h).trans ((State.laneFrame_setTake ..).trans (State.laneFrame_setLane ..))
    dsimp only
    split
    · exact recorded.trans (State.laneFrame_blockCompleted ..)
    · exact recorded

theorem State.laneFrame_takenWrite (n : Fin 8) (k off : Nat) (data : List Byte) :
    LaneFrame s (s.takenWrite n k off data).1 := by
  have touched : LaneFrame s (s.setLane n (s.lane n).touch) := State.laneFrame_setLane ..
  unfold State.takenWrite
  dsimp only
  split_ifs
  · exact touched
  · exact touched.trans (State.laneFrame_inOrderWrite ..)
  · exact touched.trans (State.laneFrame_setTake ..)
  · exact touched.trans (State.laneFrame_flagTake ..)

/-- A lane write leaves the ports, the tables of the other blocks and the modes as they are. -/
theorem State.laneFrame_laneWrite (n : Fin 8) (src : Source) (off : Nat) (data : List Byte) :
    LaneFrame s (s.laneWrite n src off data).1 := by
  unfold State.laneWrite
  split
  · exact .refl s
  · split
    · exact State.laneFrame_strayWrite ..
    · split_ifs
      · exact State.laneFrame_flagTake ..
      · exact State.laneFrame_flagTake ..
      · exact State.laneFrame_takenWrite ..

/-! ## The way to the lane -/

/-- An address in a lane's aperture is classified to the lane and its offset (R146). -/
theorem classify_lane {l : Layout} {a : Addr} {n : Fin 8} {off : Nat} (ho : off < 2 ^ 24)
    (ha : a.toNat = l.lane.toNat + n.val * 2 ^ 24 + off) : classify l a = .lane n off := by
  have hn := n.isLt
  have hin : inRegion a l.lane (8 * Config.apertureBytes) = true := by
    simp only [inRegion, Config.apertureBytes, Bool.and_eq_true, decide_eq_true_eq]
    omega
  have hd : (a.toNat - l.lane.toNat) / Config.apertureBytes = n.val := by simp only [Config.apertureBytes]; omega
  have hm : (a.toNat - l.lane.toNat) % Config.apertureBytes = off := by simp only [Config.apertureBytes]; omega
  rw [classify, if_pos hin, hd, hm]
  congr 1
  exact Fin.ext (Nat.mod_eq_of_lt hn)

/-- A write that reaches a lane is handed to its Lane Engine. -/
theorem State.route_laneWrite {t : RigTxn} {w : State} {n : Fin 8} {off : Nat} {data : List Byte}
    (hw : w = s.takeEvent.watch t) (hr : ReachesLane s t n off) (ht : t.op = .write data) :
    w.route t = ((w.laneWrite n t.source off data).1, laneFlight (w.laneWrite n t.source off data).2) := by
  have hmode : w.mode = .engaged := by rw [hw, State.watch_frame]; exact hr.engaged
  have hlayout : w.layout = s.layout := by rw [hw, State.watch_frame]; rfl
  simp only [State.route, hmode, hlayout, classify_lane hr.inAperture hr.address, State.actOn, ht]

/-- A lane write joins the in-flight list as its Lane Engine decides (R92). -/
theorem exec_laneWrite {t : RigTxn} {w : State} {n : Fin 8} {off : Nat} {data : List Byte} (h : RigTaken s t)
    (hp : PortsSound s) (hw : w = s.takeEvent.watch t) (hr : ReachesLane s t n off) (ht : t.op = .write data) :
    ∃ u, exec (.rigPortTransaction t) s = .next u ∧
      Joined s (w.laneWrite n t.source off data).1 u (laneFlight (w.laneWrite n t.source off data).2) := by
  have hroute := State.route_laneWrite hw hr ht
  have hframe : LaneFrame w (w.route t).1 := by rw [hroute]; exact State.laneFrame_laneWrite ..
  have hj := exec_rigPortTransaction_joined h hp hw hframe.inFlight hframe.out
  rwa [hroute] at hj

/-! ## The checks of R69 -/

/-- The timer that a taken write restarts, by the lane's state. -/
theorem Lane.touch_eq (l : Lane) : l.touch = laneTouched l := by
  obtain ⟨cfg, state⟩ := l
  cases state <;> rfl

/-- A flag is in a set exactly where the set meets the set of that flag alone. -/
theorem Flags.has_iff (f : Flags) (g : Flag) : Flags.has f g = true ↔ f &&& g.set ≠ 0 := by
  have hset : g.set = BitVec.twoPow 14 g.index := rfl
  have hne : BitVec.twoPow 14 g.index ≠ 0 := by cases g <;> decide
  rw [Flags.has, hset, BitVec.and_twoPow]
  split <;> simp_all

section
variable {n : Fin 8} {src : Source} {off : Nat} {data : List Byte}

/-- A DISABLED lane drops the write (R69). -/
theorem State.laneWrite_disabled (h : (s.lane n).state = .disabled) : s.laneWrite n src off data = (s, none) := by
  rw [State.laneWrite, if_pos h]

/-- A write to a lane that is enabled and records no take is a stray (R71). -/
theorem State.laneWrite_stray (h : (s.lane n).state = .armed ∨ (s.lane n).state = .waiting) :
    s.laneWrite n src off data = (s.strayWrite n src, none) := by
  have hd : (s.lane n).state ≠ .disabled := by rintro hd; simp [hd] at h
  have hrec : (s.lane n).recording = false := by obtain h | h := h <;> simp [Lane.recording, h]
  simp [State.laneWrite, hd, hrec]

/-- A later stray changes nothing. -/
theorem State.strayWrite_again (h : (s.lane n).stray = true) : s.strayWrite n src = s := if_pos h

/-- The first stray is noted by the lane and posted. -/
theorem State.strayWrite_first (h : (s.lane n).stray = false) : s.strayWrite n src =
    (s.setLane n { s.lane n with stray := true }).post
      { Report.blank .strayData with lane := some n, source := some src } := if_neg (by simp [h])

variable {k : Nat}

/-- A write to a lane that records a take is checked for its source, then for its form (R69, checks 1 and 2). -/
theorem State.laneWrite_recording (h : recordsTake s n k) : s.laneWrite n src off data =
    if src ≠ (s.lane n).cfg.dataSource then (s.flagTake k .foreign, none)
    else if data.length ≠ 64 then (s.flagTake k .form, none)
    else s.takenWrite n k off data := by
  obtain ⟨hk, hs⟩ := h
  have hd : (s.lane n).state ≠ .disabled := by rintro hd; simp [hd] at hs
  have hrec : (s.lane n).recording = true := by simpa [Lane.recording] using hs
  simp [State.laneWrite, hd, hrec, hk]

/-- A write from another source than the lane's is FOREIGN and dropped (R70). -/
theorem State.laneWrite_foreign (h : recordsTake s n k) (hs : src ≠ (s.lane n).cfg.dataSource) :
    s.laneWrite n src off data = (s.flagTake k .foreign, none) := by
  rw [State.laneWrite_recording h, if_pos hs]

/-- A write that is not a whole unit is flagged FORM and dropped (R70). -/
theorem State.laneWrite_form (h : recordsTake s n k) (hs : src = (s.lane n).cfg.dataSource) (hd : data.length ≠ 64) :
    s.laneWrite n src off data = (s.flagTake k .form, none) := by
  rw [State.laneWrite_recording h, if_neg (not_not.mpr hs), if_pos hd]

/-- A whole write of the data source is taken. -/
theorem State.laneWrite_taken (h : recordsTake s n k) (hs : src = (s.lane n).cfg.dataSource) (hd : data.length = 64) :
    s.laneWrite n src off data = s.takenWrite n k off data := by
  rw [State.laneWrite_recording h, if_neg (not_not.mpr hs), if_neg (not_not.mpr hd)]

/-- A write taken to a truncated take restarts the timer and is dropped (R72). -/
theorem State.takenWrite_truncated (h : (s.takeAt k).flags &&& Flag.truncated.set ≠ 0) :
    s.takenWrite n k off data = (s.setLane n (laneTouched (s.lane n)), none) := by
  rw [State.takenWrite, if_pos ((Flags.has_iff _ _).mpr h), Lane.touch_eq]

/-- A write taken below the next offset is a rewrite, forwarded to its translated address (R74). -/
theorem State.takenWrite_rewrite (h : (s.takeAt k).flags &&& Flag.truncated.set = 0) (ho : off < (s.lane n).nextOffset) :
    s.takenWrite n k off data =
      ((s.setLane n (laneTouched (s.lane n))).setTake k { s.takeAt k with
          flags := (s.takeAt k).flags ||| Flag.rewrite.set, rewrites := min 65535 ((s.takeAt k).rewrites + 1) },
        some (.write (chainAddress s (s.takeAt k).chain off) data)) := by
  rw [State.takenWrite, if_neg (fun hh => (Flags.has_iff _ _).mp hh h), if_neg ho.ne, if_pos ho, Lane.touch_eq]
  rfl

/-- A write taken beyond the next offset is a gap and dropped (R75). -/
theorem State.takenWrite_gap (h : (s.takeAt k).flags &&& Flag.truncated.set = 0) (ho : (s.lane n).nextOffset < off) :
    s.takenWrite n k off data =
      ((s.setLane n (laneTouched (s.lane n))).setTake k { s.takeAt k with
          flags := (s.takeAt k).flags ||| Flag.gap.set }, none) := by
  rw [State.takenWrite, if_neg (fun hh => (Flags.has_iff _ _).mp hh h), if_neg ho.ne', if_neg ho.asymm, Lane.touch_eq]
  rfl

end

/-- Settles O35: the transaction joins the in-flight list as the Lane Engine decides, and the checks of R69 decide it one
after the other. -/
theorem laneWriteChecksDecideTheWrite : Obligations.LaneWriteChecksDecideTheWrite := by
  intro t s w n off data hrig hports hw hreach hwrite
  obtain ⟨u, hexec, hj⟩ := exec_laneWrite hrig hports hw hreach hwrite
  have joins {v : State} {a : Option StoreAccess} (h : w.laneWrite n t.source off data = (v, a)) :
      Joined s v u (laneFlight a) := by rwa [h] at hj
  refine ⟨u, hexec, fun hd => joins (State.laneWrite_disabled hd), fun ha => ⟨fun hs => ?_, fun hs => ?_⟩, ?_⟩
  · exact joins (by rw [State.laneWrite_stray ha, State.strayWrite_again hs])
  · exact joins (by rw [State.laneWrite_stray ha, State.strayWrite_first hs])
  rintro k _ hk rfl
  refine ⟨fun hsrc => joins (State.laneWrite_foreign hk hsrc), fun hsrc hlen => joins (State.laneWrite_form hk hsrc hlen),
    fun hsrc hlen htr => ?_, fun hsrc hlen htr ho => ?_, fun hsrc hlen htr ho => ?_⟩
  · exact joins ((State.laneWrite_taken hk hsrc hlen).trans (State.takenWrite_truncated htr))
  · exact joins ((State.laneWrite_taken hk hsrc hlen).trans (State.takenWrite_rewrite htr ho))
  · exact joins ((State.laneWrite_taken hk hsrc hlen).trans (State.takenWrite_gap htr ho))

end Sys2Proof.Machine
end

section
/-! The Landmark Detector (R107–R112): which samples a unit holds, where they lie, how strong they are, what one sample does to
the detector and the take, and the settled statement. -/

namespace Sys2Proof.Machine

/-! ## The samples of a unit -/

/-- A pair of four bytes that begins at a multiple of four lies in one unit whole: the one that its first byte is in. -/
theorem pairByte_div_eq_iff (cfg : LaneConfig) (i u : Nat) :
    pairByte cfg i / 64 = u ↔ 64 * u ≤ pairAt cfg i ∧ pairAt cfg i + 4 ≤ 64 * u + 64 := by
  rw [pairByte, pairAt]
  omega

/-- The samples examined in a unit come in the order of their indices. -/
theorem pairwise_samplesIn (cfg : LaneConfig) (b : Block) (u : Nat) : (samplesIn cfg b u).Pairwise (· < ·) :=
  List.pairwise_lt_range.filter _

theorem mem_samplesIn (cfg : LaneConfig) (b : Block) (u i : Nat) : i ∈ samplesIn cfg b u ↔
    b.nextSample ≤ i ∧ i < b.count ∧ 64 * u ≤ pairAt cfg i ∧ pairAt cfg i + 4 ≤ 64 * u + 64 := by
  simp only [samplesIn, List.mem_filter, List.mem_range, Bool.and_eq_true, decide_eq_true_eq, pairByte_div_eq_iff]
  exact and_left_comm

/-! ## Positions -/

theorem samplePosition_of_count_one {b : Block} (h : b.count = 1) (i : Nat) : samplePosition b i = b.first := if_pos h

theorem samplePosition_of_two_le {b : Block} (h : 2 ≤ b.count) (i : Nat) :
    samplePosition b i = b.first + ((b.last - b.first) * i).tdiv (b.count - 1 : Nat) := by
  rw [samplePosition, if_neg (by omega), Nat.cast_pred (by omega)]

/-- Division toward zero divides the size and keeps the sign. -/
theorem tdiv_natCast_natAbs_sign (p : Int) (n : Nat) :
    (p.tdiv n).natAbs = p.natAbs / n ∧ (0 ≤ p → 0 ≤ p.tdiv n) ∧ (p ≤ 0 → p.tdiv n ≤ 0) := by
  refine ⟨Int.natAbs_tdiv p n, fun hp => Int.tdiv_nonneg hp n.cast_nonneg, fun hp => ?_⟩
  have hneg : 0 ≤ (-p).tdiv n := Int.tdiv_nonneg (neg_nonneg.mpr hp) n.cast_nonneg
  rw [Int.neg_tdiv] at hneg
  exact neg_nonneg.mp hneg

/-! ## Magnitudes -/

/-- A 16-bit word read with its sign is at most 32768 from zero. -/
theorem natAbs_toInt_le (x : BitVec 16) : x.toInt.natAbs ≤ 32768 := by
  have hlo : -32768 ≤ x.toInt := x.le_toInt
  have hhi : x.toInt < 32768 := x.toInt_lt
  omega

theorem magnitude_le (bs : List Byte) (off : Nat) : magnitude bs off ≤ 65536 :=
  Nat.add_le_add (natAbs_toInt_le _) (natAbs_toInt_le _)

/-! ## One sample in the detector -/

theorem Track.farEnough_iff (t : Track) (cfg : LaneConfig) (x : Int) :
    t.farEnough cfg x = true ↔ ∀ l, t.lastLandmark = some l → cfg.landmarkSpacing ≤ (x - l).natAbs := by
  rw [Track.farEnough]
  cases t.lastLandmark with
  | none => simp
  | some l => simp

section
variable {w : Work} {cfg : LaneConfig} {mag : Nat} {x : Int}

/-- Below the threshold nothing rises (R110). -/
theorem Work.detect_below_of_lt (hd : w.track.detector = .below) (hm : mag < cfg.threshold) : w.detect cfg mag x = w := by
  simp only [Work.detect, hd]
  exact if_neg (by omega)

/-- A sample at the threshold takes the detector ABOVE, and the crossing is judged against the last landmark (R110). -/
theorem Work.detect_below_of_le (hd : w.track.detector = .below) (hm : cfg.threshold ≤ mag) :
    w.detect cfg mag x =
      let w' := if w.track.farEnough cfg x then w.landmark x else w
      { w' with track := { w'.track with detector := .above } } := by
  simp only [Work.detect, hd]
  exact if_pos hm

theorem Work.detect_above_of_le (hd : w.track.detector = .above) (hm : mag ≤ cfg.release) :
    w.detect cfg mag x = { w with track := { w.track with detector := .below } } := by
  simp only [Work.detect, hd]
  exact if_pos hm

/-- Above the release level the detector stays ABOVE (R111). -/
theorem Work.detect_above_of_lt (hd : w.track.detector = .above) (hm : cfg.release < mag) : w.detect cfg mag x = w := by
  simp only [Work.detect, hd]
  exact if_neg (by omega)

/-- A crossing too near the last landmark is ignored (R110). -/
theorem Work.detect_crossing_ignored (hd : w.track.detector = .below) (hm : cfg.threshold ≤ mag)
    (hl : ∃ l, w.track.lastLandmark = some l ∧ (x - l).natAbs < cfg.landmarkSpacing) :
    w.detect cfg mag x = { w with track := { w.track with detector := .above } } := by
  obtain ⟨l, hlast, hnear⟩ := hl
  have hfar : ¬ w.track.farEnough cfg x = true := fun h =>
    absurd ((w.track.farEnough_iff cfg x).mp h l hlast) (by omega)
  rw [Work.detect_below_of_le hd hm, if_neg hfar]

/-- A crossing with no landmark within the spacing is counted as one (R110, R112). -/
theorem Work.detect_crossing_counted (hd : w.track.detector = .below) (hm : cfg.threshold ≤ mag)
    (hl : ∀ l, w.track.lastLandmark = some l → cfg.landmarkSpacing ≤ (x - l).natAbs) :
    w.detect cfg mag x =
      { track := { w.track with detector := .above, lastLandmark := some x }
        take := { w.take with
          landmarks := min 65535 (w.take.landmarks + 1)
          landmarkList := if w.take.landmarkList.length < 48 then w.take.landmarkList ++ [x] else w.take.landmarkList } } := by
  rw [Work.detect_below_of_le hd hm, if_pos ((w.track.farEnough_iff cfg x).mpr hl)]
  rfl

end

/-- Settles O50: the samples of a unit, their positions and magnitudes one by one, then the detector by its state and by the
sample's magnitude. -/
theorem detectorCountsCrossingsAsLandmarks : Obligations.DetectorCountsCrossingsAsLandmarks := by
  refine ⟨fun cfg b u => ⟨pairwise_samplesIn cfg b u, mem_samplesIn cfg b u⟩,
    fun b i => ⟨fun h => samplePosition_of_count_one h i, fun h => ⟨_, samplePosition_of_two_le h i, tdiv_natCast_natAbs_sign _ _⟩⟩,
    fun bs off => ⟨magnitude_le bs off, ?_⟩, fun cfg w mag x => ?_⟩
  · rintro _ _ rfl rfl
    rfl
  · exact ⟨Work.detect_below_of_lt, Work.detect_crossing_ignored, Work.detect_crossing_counted, Work.detect_above_of_le,
      Work.detect_above_of_lt⟩

end Sys2Proof.Machine
end

section
/-! The moves of the part's books: every change that a command makes to the lanes, the takes, the tubes, the pool, the loader,
the windows and the serial counter is one of these, or a succession of them. Each move says under which conditions it is made;
the invariants are then kept by every command because every move keeps them. -/

namespace Sys2Proof.Machine

/-! ## What the moves speak of -/

/-- `t` holds the records of `s` that the books read. -/
structure SameBooks (s t : State) : Prop where
  lanes : t.lanes = s.lanes
  takes : t.takes = s.takes
  tubes : t.tubes = s.tubes
  pool : t.pool = s.pool
  loader : t.loader = s.loader
  laneLines : t.laneLines = s.laneLines
  serialCounter : t.serialCounter = s.serialCounter
  windows : t.windows = s.windows

/-- The pool-low latch agrees with unreserved and the marks (R89, R90). -/
structure Pool.Settled (p : Pool) : Prop where
  marks : p.lowMark ≤ p.highMark
  armed : p.armed = true → p.lowMark ≤ p.freeCount - p.reserved
  disarmed : p.armed = false → p.freeCount - p.reserved < p.highMark

/-- Lane `l` becomes `l'` with its state, its take, its held start and its configuration: timers run in their own states alone, a
final sequence stands in CLOSING alone, and a DISABLED lane does not change (R49, R65). -/
structure LaneTweak (l l' : Lane) : Prop where
  cfg : l'.cfg = l.cfg
  state : l'.state = l.state
  current : l'.current = l.current
  held : l'.held = l.held
  nextOffset : l'.nextOffset = l.nextOffset
  pause : l'.pauseAdmission = l.pauseAdmission
  idle : ∀ c, l'.idle = some c → l.state = .opened ∧ c < l.cfg.idle
  drain : ∀ c, l'.drain = some c → l.state = .closing ∧ c < l.cfg.drain
  admission : ∀ c, l'.admission = some c → l.state = .waiting ∧ c < l.cfg.admission
  final : l'.finalSeq.isSome = true → l.state = .closing
  disabled : l.state = .disabled → l' = l

/-- Lane `l` becomes `l'`, which works nothing: ARMED with its timers stopped, or DISABLED with nothing held on its line `line`
(R50, R60, R63). -/
structure LaneRests (l l' : Lane) (line : LaneLine) : Prop where
  cfg : l'.cfg = l.cfg
  current : l'.current = none
  held : l'.held = none
  pause : l'.pauseAdmission = false
  idle : l'.idle = none
  drain : l'.drain = none
  admission : l'.admission = none
  final : l'.finalSeq = none
  state : l'.state = .armed ∨ (l' = Lane.disabled l.cfg ∧ line = LaneLine.idle)

/-- Take `x`, which is not FREE, becomes `x'` with its lane, its tube, its serial, its chain, its written length and its
bindings. -/
structure TakeTweak (x x' : Take) : Prop where
  busy : x.state ≠ .free
  lane : x'.lane = x.lane
  tube : x'.tube = x.tube
  serial : x'.serial = x.serial
  chain : x'.chain = x.chain
  written : x'.written = x.written
  bindings : x'.bindings = x.bindings

/-- Tube `x` becomes `x'` with its accepted take and its fields of the map, but for the plug (R5, R13). -/
structure TubeStays (x x' : Tube) : Prop where
  accepted : x'.accepted = x.accepted
  presence : x'.presence = x.presence
  expected : x'.expected = x.expected

/-- A segment is taken for an in-order write at the next offset of take `x`: none inside the chain's last, else the head of the
free list, drawn from the take's reservation or from the unreserved share (R73, R79). `p` is the pool after it, `chain` and
`remaining` what the take then has. -/
inductive SegmentTaken (q : Pool) (x : Take) (off : Nat) : Pool → List Nat → Nat → Prop
  | inside : off / Config.segmentBytes ≠ x.chain.length → SegmentTaken q x off q x.chain x.remaining
  | own {seg : Nat} {rest : List Nat} : off / Config.segmentBytes = x.chain.length → q.freeList = seg :: rest →
      0 < x.remaining → SegmentTaken q x off
        { q with freeList := rest, freeCount := q.freeCount - 1, reserved := q.reserved - 1 } (x.chain ++ [seg]) (x.remaining - 1)
  | shared {seg : Nat} {rest : List Nat} {p : Pool} : off / Config.segmentBytes = x.chain.length → q.freeList = seg :: rest →
      x.remaining = 0 → q.reserved < q.freeCount →
      p = { q with freeList := rest, freeCount := q.freeCount - 1, armed := p.armed } → p.Settled →
      SegmentTaken q x off p (x.chain ++ [seg]) x.remaining

/-- A change of lane n and its line. -/
def State.setLaneBoth (s : State) (n : Fin 8) (l : Lane) (line : LaneLine) : State := (s.setLane n l).setLaneLine n line

/-- The pool is written. -/
def State.setPool (s : State) (p : Pool) : State := { s with pool := p }

/-- A release up to its admission check (R43, steps 1 to 4). -/
def State.releaseBefore (s : State) (k : Nat) : State :=
  ((s.modTubeOf k fun t => t.release k (s.takeAt k).state).dropAmendments k).freeTake k

/-! ## The moves -/

/-- One move of the books, each with the conditions under which a command makes it. -/
inductive Move : State → State → Prop
  /-- Nothing that the books read changes. -/
  | keep {s t : State} : SameBooks s t → Move s t
  /-- A lane changes within its state. -/
  | tweakLane {s : State} (n : Fin 8) {l : Lane} : LaneTweak (s.lane n) l → Move s (s.setLane n l)
  /-- The lines of enabled lanes change. -/
  | lines {s : State} (v : Vector LaneLine 8) : (∀ n : Fin 8, (s.lane n).state = .disabled → v[n] = s.laneLine n) →
      Move s { s with laneLines := v }
  /-- A take changes what its blocks record of it. -/
  | tweakTake {s : State} (k : Nat) {x : Take} : TakeTweak (s.takeAt k) x → x.state = (s.takeAt k).state →
      x.remaining = (s.takeAt k).remaining → Move s (s.setTake k x)
  /-- A tube is plugged or unplugged. -/
  | plug {s : State} (p : TubePos) (g : Plug) : Move s (s.setTube p.index { s.tubeAt p.index with plug := g })
  /-- The Map Loader goes on. -/
  | load {s : State} (l : Loader) : LoadInRange { s with loader := l } → Move s { s with loader := l }
  /-- The latch or its marks change. -/
  | latch {s : State} (p : Pool) : p = { s.pool with lowMark := p.lowMark, highMark := p.highMark, armed := p.armed } →
      p.Settled → Move s (s.setPool p)
  /-- A lane that works nothing is disabled. -/
  | shut {s : State} (n : Fin 8) : (s.lane n).state = .disabled ∨ (s.lane n).state = .armed → Move s (s.shutLane n)
  /-- A unit is recorded in order. -/
  | store {s : State} (n : Fin 8) (k : Nat) {p : Pool} {x : Take} {l : Lane} : (s.lane n).current = some k →
      SegmentTaken s.pool (s.takeAt k) (s.lane n).nextOffset p x.chain x.remaining →
      TakeTweak (s.takeAt k) { x with chain := (s.takeAt k).chain, written := (s.takeAt k).written } →
      x.state = (s.takeAt k).state → x.written = (s.takeAt k).written + 64 →
      LaneTweak (s.lane n) { l with nextOffset := (s.lane n).nextOffset } → l.nextOffset = (s.lane n).nextOffset + 64 →
      (s.lane n).nextOffset < Config.apertureBytes → Move s (((s.setPool p).setTake k x).setLane n l)
  /-- A WAITING lane loses its held start. -/
  | drop {s : State} (n : Fin 8) (p : TubePos) (d : Direction) {l : Lane} {line : LaneLine} :
      (s.lane n).held = some (p, d) → LaneRests (s.lane n) l line →
      Move s (((s.leaveQueue n).unclaim p).setLaneBoth n l line)
  /-- A take opens, its start held or new. -/
  | opens {s : State} (o : Opening) {q : Pool} {x : Tube} : (s.loader.running = false) →
      opensAt s o.slot → q = { s.pool with queue := s.pool.queue.filter (· ≠ o.lane),
                                            reserved := s.pool.reserved + (s.lane o.lane).cfg.reservation, armed := q.armed } →
      (s.lane o.lane).cfg.reservation ≤ s.pool.freeCount - s.pool.reserved → q.Settled →
      x = { s.tubeAt o.pos.index with claim := x.claim } →
      ((s.lane o.lane).held = some (o.pos, o.direction) ∧ x = s.tubeAt o.pos.index) ∨
        ((s.lane o.lane).state = .armed ∧ (∀ m, (s.tubeAt o.pos.index).claim = some m → m = o.lane) ∧ x.claim = some o.lane) →
      Move s (((s.setPool q).setTube o.pos.index x).openTake o)
  /-- A start is deferred. -/
  | defer {s : State} (n : Fin 8) (p : TubePos) (d : Direction) {l : Lane} : s.loader.running = false →
      (s.lane n).state = .armed → (∀ m, (s.tubeAt p.index).claim = some m → m = n) →
      l = { s.lane n with state := .waiting, held := some (p, d), pauseAdmission := true, admission := l.admission } →
      (∀ c, l.admission = some c → c < (s.lane n).cfg.admission) →
      Move s ((((s.claimTube n p).setPool { s.pool with queue := s.pool.queue ++ [n] })).setLane n l)
  /-- A held start is replaced. -/
  | replace {s : State} (n : Fin 8) (q p : TubePos) (e d : Direction) : (s.lane n).held = some (q, e) →
      (∀ m, (s.tubeAt p.index).claim = some m → m = n) →
      Move s ((if q = p then s.claimTube n p else (s.claimTube n p).clearClaim q).setLane n { s.lane n with held := some (p, d) })
  /-- A tube claimed for the start of an ARMED lane loses the claim again. -/
  | unclaim {s : State} (n : Fin 8) (p : TubePos) : (s.lane n).state = .armed →
      (∀ m, (s.tubeAt p.index).claim = some m → m = n) → Move s (s.unclaim p)
  /-- A take and its lane become CLOSING. -/
  | closing {s : State} (n : Fin 8) (k : Nat) (final : Option (BitVec 16)) : (s.lane n).current = some k →
      (s.lane n).state = .opened → Move s (s.enterClosing n k final)
  /-- A recording take returns its reservation. -/
  | unreserve {s : State} (k : Nat) {p : Pool} {x : Take} : (s.takeAt k).state.recording = true →
      TakeTweak (s.takeAt k) x → x.state = (s.takeAt k).state → x.remaining = 0 →
      p = { s.pool with reserved := s.pool.reserved - (s.takeAt k).remaining, armed := p.armed } → p.Settled →
      Move s ((s.setTake k x).setPool p)
  /-- A take is sealed and its lane leaves it; its tube is updated, unless another lane works the tube. -/
  | seals {s t : State} (n : Fin 8) (k : Nat) {x : Take} {l : Lane} {line : LaneLine} : (s.lane n).current = some k →
      (s.takeAt k).remaining = 0 → TakeTweak (s.takeAt k) x → x.remaining = 0 → x.state = .sealed ∨ x.state = .rejected →
      LaneRests (s.lane n) l line → t = { (s.setTake k x).setLaneBoth n l line with tubes := t.tubes } → t.tubesForm →
      (∀ i, TubeStays (s.tubeAt i) (t.tubeAt i)) →
      ((∀ m p, (s.takeAt k).tube = some p → s.works m p.index → m = n) →
        t.tubes = ((s.setTake k x).sealTube x).tubes) → Move s t
  /-- ACCEPT_TAKE. -/
  | accept {s : State} (k : Nat) : acceptBy (s.takeAt k).state = .taken → Move s (s.accept k)
  /-- REJECT_TAKE. -/
  | reject {s : State} (k : Nat) : rejectBy (s.takeAt k).state = .taken → Move s (s.reject k)
  /-- RELEASE_TAKE, up to its admission check. -/
  | release {s : State} (k : Nat) : releasable (s.takeAt k).state = true → (s.takeAt k).bindings = 0 →
      Move s (s.releaseBefore k)
  /-- A window's binding is replaced. -/
  | bind {s : State} (i : Fin 16) (w : Window) : (∀ k, w = .take k → (s.takeAt k).state ≠ .free) → Move s (s.bindWindow i w)
  /-- Every window is unbound. -/
  | unbind {s : State} : Move s s.unbindAll

/-- A succession of moves. -/
abbrev Moves : State → State → Prop := Relation.ReflTransGen Move

end Sys2Proof.Machine
end

section
/-! Every move keeps the books: first what each part of the books reads, then the parts after a write of one lane or one take,
then the moves one by one. -/

namespace Sys2Proof.Machine

variable {s t : State}

/-! ## What each part of the books reads -/

theorem LanesMatchTakes.congr (h : LanesMatchTakes s) (hc : ∀ n, (t.lane n).current = (s.lane n).current)
    (hs : ∀ n, (t.lane n).state = (s.lane n).state) (hl : ∀ k, (t.takeAt k).lane = (s.takeAt k).lane)
    (ht : ∀ k, (t.takeAt k).state = (s.takeAt k).state) : LanesMatchTakes t := by
  obtain ⟨hcur, hidle, hnamed⟩ := h
  constructor
  · simpa only [hc, hs, hl, ht] using hcur
  · simpa only [hc, Lane.recording, hs] using hidle
  · simpa only [ht, hl, hc] using hnamed

theorem QueueMatchesLanes.congr (h : QueueMatchesLanes s) (hh : ∀ n, (t.lane n).held.isSome = (s.lane n).held.isSome)
    (hs : ∀ n, (t.lane n).state = (s.lane n).state) (hq : t.pool.queue = s.pool.queue) : QueueMatchesLanes t := by
  obtain ⟨hheld, hqueued, hnodup⟩ := h
  constructor
  · simpa only [hh, hs] using hheld
  · simpa only [hq, hs] using hqueued
  · simpa only [hq] using hnodup

theorem LoadInRange.congr (h : LoadInRange s) (hl : t.loader = s.loader)
    (hs : ∀ n, (s.lane n).state = .disabled ∨ (s.lane n).state = .armed →
      (t.lane n).state = .disabled ∨ (t.lane n).state = .armed) : LoadInRange t := by
  obtain ⟨hrange, hleft, hidle⟩ := h
  exact ⟨by rwa [hl], by rwa [hl], fun hr n => hs n (hidle (hl ▸ hr) n)⟩

theorem AcceptedMatch.congr (h : AcceptedMatch s) (ha : ∀ i, (t.tubeAt i).accepted = (s.tubeAt i).accepted)
    (hs : ∀ k, (t.takeAt k).state = .accepted ↔ (s.takeAt k).state = .accepted)
    (ht : ∀ k, (s.takeAt k).state = .accepted → (t.takeAt k).tube = (s.takeAt k).tube) : AcceptedMatch t := by
  obtain ⟨hnames, hnamed⟩ := h
  constructor
  · intro i k hk
    obtain ⟨h1, h2⟩ := hnames i k (ha i ▸ hk)
    exact ⟨(hs k).2 h1, by rw [Take.tubeIndex, ht k h1]; exact h2⟩
  · intro k i hk hi
    have h1 := (hs k).1 hk
    rw [ha]
    exact hnamed k i h1 (by rw [Take.tubeIndex, ht k h1] at hi; exact hi)

theorem latchSettled_iff : LatchSettled s ↔ s.pool.Settled :=
  ⟨fun ⟨a, b, c⟩ => ⟨a, b, c⟩, fun ⟨a, b, c⟩ => ⟨a, b, c⟩⟩

/-! ## Takes and the pool -/

/-- The sum of the remaining reservations after a write of one take. -/
theorem sum_remaining_setTake (h : s.takesForm) (k : Nat) (x : Take) :
    ((s.setTake k x).takes.map fun e => e.2.remaining).sum + (s.takeAt k).remaining =
      (s.takes.map fun e => e.2.remaining).sum + x.remaining :=
  Sparse.sum_set Take.remaining rfl h k x

/-- The segments of the chains after a write of one take. -/
theorem flatMap_chain_setTake (h : s.takesForm) (k : Nat) (x : Take) :
    (((s.setTake k x).takes.flatMap fun e => e.2.chain) ++ (s.takeAt k).chain).Perm
      ((s.takes.flatMap fun e => e.2.chain) ++ x.chain) :=
  Sparse.flatMap_set Take.chain rfl h k x

/-- A take's reservation is part of the sum. -/
theorem remaining_le_sum (h : s.takesForm) (k : Nat) :
    (s.takeAt k).remaining ≤ (s.takes.map fun e => e.2.remaining).sum := by
  have := sum_remaining_setTake h k Take.free
  have hf : Take.free.remaining = 0 := rfl
  omega

/-- The pool balances where its totals and a take have changed together. -/
theorem PoolBalances.setTake (h : PoolBalances s) (hf : s.takesForm) {k : Nat} {x : Take} {p : Pool}
    (hp : t.pool = p) (ht : t.takes = (s.setTake k x).takes) (hc : p.freeCount = p.freeList.length)
    (hr : p.reserved + (s.takeAt k).remaining = s.pool.reserved + x.remaining) (hl : p.reserved ≤ p.freeCount)
    (hs : (p.freeList ++ x.chain).Perm (s.pool.freeList ++ (s.takeAt k).chain)) : PoolBalances t := by
  have hsum := sum_remaining_setTake hf k x
  have hchain := flatMap_chain_setTake hf k x
  have hres := h.reserved
  refine ⟨by rw [hp, hc], ?_, by rw [hp]; exact hl, ?_⟩
  · rw [hp, ht]
    omega
  · rw [hp, ht]
    refine List.Perm.trans ?_ h.segments
    refine (List.perm_append_right_iff (s.takeAt k).chain).1 ?_
    calc p.freeList ++ ((s.setTake k x).takes.flatMap fun e => e.2.chain) ++ (s.takeAt k).chain
        |>.Perm (p.freeList ++ ((s.takes.flatMap fun e => e.2.chain) ++ x.chain)) := by
          rw [List.append_assoc]; exact hchain.append_left _
      _ |>.Perm ((p.freeList ++ x.chain) ++ s.takes.flatMap fun e => e.2.chain) := by
          rw [List.append_assoc]; exact List.perm_append_comm.append_left _
      _ |>.Perm ((s.pool.freeList ++ (s.takeAt k).chain) ++ s.takes.flatMap fun e => e.2.chain) := hs.append_right _
      _ |>.Perm (s.pool.freeList ++ (s.takes.flatMap fun e => e.2.chain) ++ (s.takeAt k).chain) := by
          rw [List.append_assoc, List.append_assoc]; exact List.perm_append_comm.append_left _

/-! ## Lanes, their takes and their held starts -/

theorem TakeState.recording_iff (st : TakeState) : st.recording = true ↔ st = .opened ∨ st = .closing := by
  simp [TakeState.recording]

theorem Lane.recording_iff (l : Lane) : l.recording = true ↔ l.state = .opened ∨ l.state = .closing := by
  simp [Lane.recording]

namespace Books

/-- A current take records, and so does its lane, which it names. -/
theorem current (h : Books s) {n : Fin 8} {k : Nat} (hk : (s.lane n).current = some k) :
    (s.takeAt k).lane = n ∧ (s.takeAt k).state.recording = true ∧ (s.lane n).recording = true := by
  obtain ⟨hn, ⟨h1, h2⟩ | ⟨h1, h2⟩⟩ := h.lanes.current n k hk <;> simp [hn, h1, h2, TakeState.recording, Lane.recording]

/-- A lane that records has a current take. -/
theorem current_of_recording (h : Books s) {n : Fin 8} (hr : (s.lane n).recording = true) :
    ∃ k, (s.lane n).current = some k := by
  cases hc : (s.lane n).current with
  | some k => exact ⟨k, rfl⟩
  | none => exact absurd hr (by simp [h.lanes.idle n hc])

/-- A lane that does not record has no current take. -/
theorem current_none (h : Books s) {n : Fin 8} (hr : (s.lane n).recording = false) : (s.lane n).current = none := by
  cases hc : (s.lane n).current with
  | none => rfl
  | some k => exact absurd (h.current hc).2.2 (by simp [hr])

/-- A held start is a WAITING lane's. -/
theorem waiting_of_held (h : Books s) {n : Fin 8} {e : TubePos × Direction} (hh : (s.lane n).held = some e) :
    (s.lane n).state = .waiting := (h.queue.held n).1 (by simp [hh])

/-- A lane that is not WAITING holds no start. -/
theorem held_none (h : Books s) {n : Fin 8} (hw : (s.lane n).state ≠ .waiting) : (s.lane n).held = none := by
  cases hh : (s.lane n).held with
  | none => rfl
  | some e => exact absurd (h.waiting_of_held hh) hw

/-- A WAITING lane has its held start. -/
theorem held_of_waiting (h : Books s) {n : Fin 8} (hw : (s.lane n).state = .waiting) :
    ∃ p d, (s.lane n).held = some (p, d) := by
  obtain ⟨⟨p, d⟩, hp⟩ := Option.isSome_iff_exists.1 ((h.queue.held n).2 hw)
  exact ⟨p, d, hp⟩

/-- A take that is not FREE has a slot of the table. -/
theorem slot (h : Books s) {k : Nat} (hk : (s.takeAt k).state ≠ .free) : k < Config.takeSlots :=
  State.slot_of_takeAt h.takesForm fun hf => hk (by rw [hf]; rfl)

/-- No load runs while a lane works. -/
theorem not_loading (h : Books s) {n : Fin 8} (hd : (s.lane n).state ≠ .disabled) (ha : (s.lane n).state ≠ .armed) :
    s.loader.running = false := by
  cases hr : s.loader.running with
  | false => rfl
  | true => exact absurd (h.load.idle hr n) (by simp [hd, ha])

theorem settled (h : Books s) : s.pool.Settled := latchSettled_iff.1 h.latch

end Books

/-! ## A lane within its state, lines, takes, tubes -/

/-- The fields of lanes agree where one lane has been tweaked. -/
theorem LaneFieldsMatch.setLane (h : LaneFieldsMatch s) {n : Fin 8} {l : Lane} (hl : ∀ m, t.lane m = if m = n then l else s.lane m)
    (hv : ∀ m, m ≠ n → t.laneLine m = s.laneLine m)
    (h1 : ∀ c, l.idle = some c → l.state = .opened ∧ c < l.cfg.idle)
    (h2 : ∀ c, l.drain = some c → l.state = .closing ∧ c < l.cfg.drain)
    (h3 : ∀ c, l.admission = some c → l.state = .waiting ∧ c < l.cfg.admission)
    (h4 : l.finalSeq.isSome = true → l.state = .closing) (h5 : l.pauseAdmission = true ↔ l.state = .waiting)
    (h6 : l.state = .disabled → l = Lane.disabled l.cfg ∧ t.laneLine n = LaneLine.idle) : LaneFieldsMatch t := by
  obtain ⟨a1, a2, a3, a4, a5, a6⟩ := h
  have each (P : Lane → Prop) (hn : P l) (hs : ∀ m, P (s.lane m)) (m : Fin 8) : P (t.lane m) := by
    rw [hl]; split
    · exact hn
    · exact hs m
  refine ⟨each (fun x => ∀ c, x.idle = some c → x.state = .opened ∧ c < x.cfg.idle) h1 a1,
    each (fun x => ∀ c, x.drain = some c → x.state = .closing ∧ c < x.cfg.drain) h2 a2,
    each (fun x => ∀ c, x.admission = some c → x.state = .waiting ∧ c < x.cfg.admission) h3 a3,
    each (fun x => x.finalSeq.isSome = true → x.state = .closing) h4 a4,
    each (fun x => x.pauseAdmission = true ↔ x.state = .waiting) h5 a5, fun m => ?_⟩
  by_cases hm : m = n
  · subst hm; simpa [hl] using h6
  · simpa [hl, hm, hv m hm] using a6 m

/-- The fields of lanes read the lanes and their lines alone. -/
theorem LaneFieldsMatch.congr (h : LaneFieldsMatch s) (hl : t.lanes = s.lanes) (hv : t.laneLines = s.laneLines) :
    LaneFieldsMatch t := by
  obtain ⟨a1, a2, a3, a4, a5, a6⟩ := h
  simp only [State.lane, State.laneLine] at *
  constructor <;> simpa only [State.lane, State.laneLine, hl, hv]

/-- The pool's books read the pool and the takes alone. -/
theorem PoolBalances.congr (h : PoolBalances s) (hp : t.pool = s.pool) (ht : t.takes = s.takes) : PoolBalances t := by
  obtain ⟨a1, a2, a3, a4⟩ := h
  constructor <;> simpa only [hp, ht]

theorem Books.tweakLane (h : Books s) (n : Fin 8) {l : Lane} (hl : LaneTweak (s.lane n) l) : Books (s.setLane n l) := by
  have hlane := State.lane_setLane s n
  have same {β : Type} (f : Lane → β) (hf : f l = f (s.lane n)) (m : Fin 8) : f ((s.setLane n l).lane m) = f (s.lane m) := by
    rw [hlane]; split
    · rename_i e; rw [e, hf]
    · rfl
  refine ⟨h.takesForm, h.tubesForm, h.blank, h.kept,
    h.lanes.congr (same _ hl.current) (same _ hl.state) (fun _ => rfl) (fun _ => rfl),
    h.queue.congr (same (·.held.isSome) (by rw [hl.held])) (same _ hl.state) rfl,
    h.pool.congr rfl rfl, latchSettled_iff.2 h.settled, ?_,
    h.accepted.congr (fun _ => rfl) (fun _ => Iff.rfl) (fun _ _ => rfl),
    h.load.congr rfl fun m hm => by rwa [same _ hl.state m]⟩
  refine h.fields.setLane (fun m => hlane m l) (fun _ _ => rfl) ?_ ?_ ?_ ?_ ?_ ?_
  · rw [hl.state, hl.cfg]; exact hl.idle
  · rw [hl.state, hl.cfg]; exact hl.drain
  · rw [hl.state, hl.cfg]; exact hl.admission
  · rw [hl.state]; exact hl.final
  · rw [hl.state, hl.pause]; exact h.fields.pause n
  · rw [hl.state]
    intro hd
    rw [hl.disabled hd]
    exact h.fields.disabled n hd

theorem Books.lines (h : Books s) (v : Vector LaneLine 8) (hv : ∀ n : Fin 8, (s.lane n).state = .disabled → v[n] = s.laneLine n) :
    Books { s with laneLines := v } := by
  obtain ⟨a1, a2, a3, a4, a5, a6⟩ := h.fields
  refine ⟨h.takesForm, h.tubesForm, h.blank, h.kept, h.lanes.congr (fun _ => rfl) (fun _ => rfl) (fun _ => rfl) (fun _ => rfl),
    h.queue.congr (fun _ => rfl) (fun _ => rfl) rfl, h.pool.congr rfl rfl,
    latchSettled_iff.2 h.settled, ⟨a1, a2, a3, a4, a5, fun n hn => ⟨(a6 n hn).1, (hv n hn).trans (a6 n hn).2⟩⟩,
    h.accepted.congr (fun _ => rfl) (fun _ => Iff.rfl) (fun _ _ => rfl), h.load.congr rfl fun _ => id⟩

/-- The blank and the kept slots after a write of a take that is not FREE. -/
theorem Books.records_setTake (h : Books s) {k : Nat} {x : Take} (hx : x.state ≠ .free)
    (hr : x.state.recording = false → x.remaining = 0) :
    (∀ j, ((s.setTake k x).takeAt j).state = .free → (s.setTake k x).takeAt j = Take.free) ∧
      ∀ j, ((s.setTake k x).takeAt j).state.recording = false → ((s.setTake k x).takeAt j).remaining = 0 := by
  constructor <;> intro j <;> rw [State.takeAt_setTake h.takesForm] <;> split
  · exact fun e => absurd e hx
  · exact h.blank j
  · exact hr
  · exact h.kept j

/-- A take that is not FREE is written with its lane, its tube, its chain, its state and its reservation. -/
theorem Books.setTake (h : Books s) (k : Nat) {x : Take} (hb : (s.takeAt k).state ≠ .free) (hl : x.lane = (s.takeAt k).lane)
    (ht : x.tube = (s.takeAt k).tube) (hc : x.chain = (s.takeAt k).chain) (hs : x.state = (s.takeAt k).state)
    (hr : x.remaining = (s.takeAt k).remaining) : Books (s.setTake k x) := by
  have htake := State.takeAt_setTake h.takesForm k
  have same {β : Type} (f : Take → β) (hf : f x = f (s.takeAt k)) (j : Nat) : f ((s.setTake k x).takeAt j) = f (s.takeAt j) := by
    rw [htake]; split
    · rename_i e; rw [e, hf]
    · rfl
  obtain ⟨hblank, hkept⟩ := h.records_setTake (k := k) (x := x) (by rw [hs]; exact hb)
    (by rw [hs, hr]; exact h.kept k)
  exact ⟨State.takesForm_setTake h.takesForm _ (h.slot hb), h.tubesForm, hblank, hkept,
    h.lanes.congr (fun _ => rfl) (fun _ => rfl) (same _ hl) (same _ hs),
    h.queue.congr (fun _ => rfl) (fun _ => rfl) rfl,
    h.pool.setTake h.takesForm rfl rfl h.pool.freeCount (by rw [hr]; rfl) h.pool.fits (by rw [hc]; exact .refl _),
    latchSettled_iff.2 h.settled, h.fields.congr rfl rfl,
    h.accepted.congr (fun _ => rfl) (fun j => by rw [same _ hs]) (fun j _ => same _ ht j), h.load.congr rfl fun _ => id⟩

theorem Books.tweakTake (h : Books s) (k : Nat) {x : Take} (hx : TakeTweak (s.takeAt k) x) (hs : x.state = (s.takeAt k).state)
    (hr : x.remaining = (s.takeAt k).remaining) : Books (s.setTake k x) :=
  h.setTake k hx.busy hx.lane hx.tube hx.chain hs hr

/-- The tubes read as they did where one has been tweaked. -/
theorem Books.accepted_setTube (h : Books s) (i : Nat) {x : Tube} (hx : x.accepted = (s.tubeAt i).accepted) (j : Nat) :
    ((s.setTube i x).tubeAt j).accepted = (s.tubeAt j).accepted := by
  rw [State.tubeAt_setTube h.tubesForm]; split
  · rename_i e; rw [e, hx]
  · rfl

theorem Books.tweakTube (h : Books s) {i : Nat} (hi : i < Config.tubeCount) {x : Tube}
    (hx : x.accepted = (s.tubeAt i).accepted) : Books (s.setTube i x) := by
  exact ⟨h.takesForm, State.tubesForm_setTube h.tubesForm _ hi, h.blank, h.kept,
    h.lanes.congr (fun _ => rfl) (fun _ => rfl) (fun _ => rfl) (fun _ => rfl), h.queue.congr (fun _ => rfl) (fun _ => rfl) rfl,
    h.pool.congr rfl rfl, latchSettled_iff.2 h.settled, h.fields.congr rfl rfl,
    h.accepted.congr (h.accepted_setTube i hx) (fun _ => Iff.rfl) (fun _ _ => rfl), h.load.congr rfl fun _ => id⟩

theorem Books.load' (h : Books s) (l : Loader) (hl : LoadInRange { s with loader := l }) : Books { s with loader := l } := by
  exact ⟨h.takesForm, h.tubesForm, h.blank, h.kept, h.lanes.congr (fun _ => rfl) (fun _ => rfl) (fun _ => rfl) (fun _ => rfl),
    h.queue.congr (fun _ => rfl) (fun _ => rfl) rfl, h.pool.congr rfl rfl,
    latchSettled_iff.2 h.settled, h.fields.congr rfl rfl,
    h.accepted.congr (fun _ => rfl) (fun _ => Iff.rfl) (fun _ _ => rfl), hl⟩

/-- The pool is written with its free list, its totals and its queue. -/
theorem Books.setPool (h : Books s) {p : Pool} (hf : p.freeList = s.pool.freeList) (hc : p.freeCount = s.pool.freeCount)
    (hr : p.reserved = s.pool.reserved) (hq : p.queue = s.pool.queue) (hs : p.Settled) : Books (s.setPool p) := by
  exact ⟨h.takesForm, h.tubesForm, h.blank, h.kept, h.lanes.congr (fun _ => rfl) (fun _ => rfl) (fun _ => rfl) (fun _ => rfl),
    h.queue.congr (fun _ => rfl) (fun _ => rfl) hq,
    ⟨(hc.trans h.pool.freeCount).trans (congrArg _ hf.symm), hr.trans h.pool.reserved, hr.trans_le (h.pool.fits.trans hc.ge),
      (by show (p.freeList ++ _).Perm _; rw [hf]; exact h.pool.segments)⟩,
    latchSettled_iff.2 hs, h.fields.congr rfl rfl,
    h.accepted.congr (fun _ => rfl) (fun _ => Iff.rfl) (fun _ _ => rfl), h.load.congr rfl fun _ => id⟩

end Sys2Proof.Machine
end

section
/-! Every move keeps the books, continued: the moves that join or part a lane with its take or its held start. -/

namespace Sys2Proof.Machine

variable {s t : State}

@[simp] theorem State.takeAt_setLaneBoth (n : Fin 8) (l : Lane) (v : LaneLine) (k : Nat) :
    (s.setLaneBoth n l v).takeAt k = s.takeAt k := rfl
@[simp] theorem State.tubeAt_setLaneBoth (n : Fin 8) (l : Lane) (v : LaneLine) (i : Nat) :
    (s.setLaneBoth n l v).tubeAt i = s.tubeAt i := rfl
@[simp] theorem State.takeAt_setPool (p : Pool) (k : Nat) : (s.setPool p).takeAt k = s.takeAt k := rfl
@[simp] theorem State.tubeAt_setPool (p : Pool) (i : Nat) : (s.setPool p).tubeAt i = s.tubeAt i := rfl
@[simp] theorem State.lane_setPool (p : Pool) (n : Fin 8) : (s.setPool p).lane n = s.lane n := rfl
@[simp] theorem State.laneLine_setPool (p : Pool) (n : Fin 8) : (s.setPool p).laneLine n = s.laneLine n := rfl
@[simp] theorem State.takeAt_unclaim (p : TubePos) (k : Nat) : (s.unclaim p).takeAt k = s.takeAt k := rfl
@[simp] theorem State.lane_unclaim (p : TubePos) (n : Fin 8) : (s.unclaim p).lane n = s.lane n := rfl
@[simp] theorem State.laneLine_unclaim (p : TubePos) (n : Fin 8) : (s.unclaim p).laneLine n = s.laneLine n := rfl

theorem State.lane_setLaneBoth (s : State) (n m : Fin 8) (l : Lane) (v : LaneLine) :
    (s.setLaneBoth n l v).lane m = if m = n then l else s.lane m := State.lane_setLane s n m l

theorem State.laneLine_setLaneBoth_ne (s : State) {n m : Fin 8} (l : Lane) (v : LaneLine) (h : m ≠ n) :
    (s.setLaneBoth n l v).laneLine m = s.laneLine m := State.laneLine_setLaneLine_ne _ v h

@[simp] theorem State.laneLine_setLaneBoth_self (s : State) (n : Fin 8) (l : Lane) (v : LaneLine) :
    (s.setLaneBoth n l v).laneLine n = v := State.laneLine_setLaneLine_self _ n v

/-! ## Lanes that come to rest -/

/-- A lane disabled rests. -/
theorem Lane.disabled_rests (l : Lane) : LaneRests l (Lane.disabled l.cfg) LaneLine.idle :=
  ⟨rfl, rfl, rfl, rfl, rfl, rfl, rfl, rfl, .inr ⟨rfl, rfl⟩⟩

theorem LaneRests.not_busy {l l' : Lane} {v : LaneLine} (h : LaneRests l l' v) : l'.state = .disabled ∨ l'.state = .armed := by
  obtain hs | ⟨hs, -⟩ := h.state
  · exact .inr hs
  · exact .inl (by rw [hs]; rfl)

/-- Where lane n rests and the lines of the others are as they were, the fields of all lanes agree. -/
theorem LaneFieldsMatch.rests (h : LaneFieldsMatch s) {n : Fin 8} {l : Lane} {v : LaneLine} (hr : LaneRests (s.lane n) l v)
    (hl : ∀ m, t.lane m = if m = n then l else s.lane m) (hv : ∀ m, m ≠ n → t.laneLine m = s.laneLine m)
    (hn : t.laneLine n = v) : LaneFieldsMatch t := by
  have hw : l.state ≠ .waiting := by obtain e | e := hr.not_busy <;> simp [e]
  refine h.setLane hl hv (by simp [hr.idle]) (by simp [hr.drain]) (by simp [hr.admission]) (by simp [hr.final])
    (by simp [hr.pause, hw]) fun hd => ?_
  obtain e | ⟨e, e'⟩ := hr.state
  · exact absurd (e.symm.trans hd) (by decide)
  · exact ⟨by rw [hr.cfg]; exact e, hn.trans e'⟩

/-- A lane at rest lets a load run. -/
theorem LoadInRange.rests (h : LoadInRange s) {n : Fin 8} {l : Lane} {v : LaneLine} (hr : LaneRests (s.lane n) l v)
    (hl : ∀ m, t.lane m = if m = n then l else s.lane m) (ht : t.loader = s.loader) : LoadInRange t :=
  h.congr ht fun m hm => by
    rw [hl]; split
    · exact hr.not_busy
    · exact hm

/-- The queue matches the lanes where lane n rests and has left it. -/
theorem QueueMatchesLanes.rests (h : QueueMatchesLanes s) {n : Fin 8} {l : Lane} {v : LaneLine}
    (hr : LaneRests (s.lane n) l v) (hl : ∀ m, t.lane m = if m = n then l else s.lane m)
    (hq : t.pool.queue = s.pool.queue.filter (· ≠ n)) : QueueMatchesLanes t := by
  have hw : l.state ≠ .waiting := by obtain e | e := hr.not_busy <;> simp [e]
  obtain ⟨h1, h2, h3⟩ := h
  refine ⟨fun m => ?_, fun m => ?_, by rw [hq]; exact h3.filter _⟩
  · rw [hl]; split
    · simp [hr.held, hw]
    · exact h1 m
  · rw [hl, hq]; split
    next e => simp [e, hw]
    next e => simp [e, h2 m]

/-- A queue that lane n is not in is the same without it. -/
theorem QueueMatchesLanes.filter_self (h : QueueMatchesLanes s) {n : Fin 8} (hn : (s.lane n).state ≠ .waiting) :
    s.pool.queue.filter (· ≠ n) = s.pool.queue := by
  refine List.filter_eq_self.2 fun m hm => decide_eq_true fun e => hn ?_
  rw [← e]; exact (h.queued m).1 hm

/-- Lanes and takes match where lane n works nothing before and after. -/
theorem LanesMatchTakes.rests (h : LanesMatchTakes s) {n : Fin 8} {l : Lane} {v : LaneLine} (hr : LaneRests (s.lane n) l v)
    (hc : (s.lane n).current = none) (hl : ∀ m, t.lane m = if m = n then l else s.lane m)
    (ht : ∀ k, t.takeAt k = s.takeAt k) : LanesMatchTakes t := by
  have hrec : l.recording = false := by obtain e | e := hr.not_busy <;> simp [Lane.recording, e]
  have hcur : ∀ m, (t.lane m).current = (s.lane m).current := fun m => by
    rw [hl]; split
    next e => rw [e, hc, hr.current]
    next => rfl
  refine ⟨fun m k hk => ?_, fun m hm => ?_, fun k hk => ?_⟩
  · have hne : m ≠ n := fun e => by rw [hcur, e, hc] at hk; cases hk
    have := h.current m k (hcur m ▸ hk)
    rwa [hl, if_neg hne, ht]
  · rw [hl]; split
    · exact hrec
    · exact h.idle m (hcur m ▸ hm)
  · rw [ht, hcur]; exact h.named k (ht k ▸ hk)

theorem Books.rest (h : Books s) (n : Fin 8) {l : Lane} {v : LaneLine}
    (hn : (s.lane n).state = .disabled ∨ (s.lane n).state = .armed) (hr : LaneRests (s.lane n) l v) :
    Books (s.setLaneBoth n l v) := by
  have hl := fun m => State.lane_setLaneBoth s n m l v
  have hw : (s.lane n).state ≠ .waiting := by obtain e | e := hn <;> simp [e]
  have hc : (s.lane n).current = none := h.current_none (by obtain e | e := hn <;> simp [Lane.recording, e])
  exact ⟨h.takesForm, h.tubesForm, h.blank, h.kept, h.lanes.rests hr hc hl fun _ => rfl,
    h.queue.rests hr hl (h.queue.filter_self hw).symm, h.pool.congr rfl rfl, latchSettled_iff.2 h.settled,
    h.fields.rests hr hl (fun m hm => State.laneLine_setLaneBoth_ne s l v hm) (State.laneLine_setLaneBoth_self s n l v),
    h.accepted.congr (fun _ => rfl) (fun _ => Iff.rfl) (fun _ _ => rfl), h.load.rests hr hl rfl⟩

theorem Books.configure (h : Books s) (n : Fin 8) (c : LaneConfig) (hn : (s.lane n).state = .disabled) :
    Books (s.setLane n { s.lane n with cfg := c }) := by
  have hd : s.lane n = Lane.disabled (s.lane n).cfg := (h.fields.disabled n hn).1
  have hv : s.laneLine n = LaneLine.idle := (h.fields.disabled n hn).2
  have hl := fun m => State.lane_setLane s n m { s.lane n with cfg := c }
  have same {β : Type} (f : Lane → β) (hf : f { s.lane n with cfg := c } = f (s.lane n)) (m : Fin 8) :
      f ((s.setLane n { s.lane n with cfg := c }).lane m) = f (s.lane m) := by
    rw [hl]; split
    · rename_i e; rw [e, hf]
    · rfl
  refine ⟨h.takesForm, h.tubesForm, h.blank, h.kept, h.lanes.congr (same _ rfl) (same _ rfl) (fun _ => rfl) (fun _ => rfl),
    h.queue.congr (same (·.held.isSome) rfl) (same _ rfl) rfl, h.pool.congr rfl rfl, latchSettled_iff.2 h.settled, ?_,
    h.accepted.congr (fun _ => rfl) (fun _ => Iff.rfl) (fun _ _ => rfl), h.load.congr rfl fun m hm => by rwa [same Lane.state rfl m]⟩
  refine h.fields.setLane hl (fun _ _ => rfl) ?_ ?_ ?_ ?_ ?_ fun _ => ⟨?_, hv⟩ <;> rw [hd] <;> simp [Lane.disabled]

theorem Books.drop (h : Books s) (n : Fin 8) (p : TubePos) {d : Direction} {l : Lane} {v : LaneLine}
    (hh : (s.lane n).held = some (p, d)) (hr : LaneRests (s.lane n) l v) :
    Books (((s.leaveQueue n).unclaim p).setLaneBoth n l v) := by
  have hl := fun m => State.lane_setLaneBoth ((s.leaveQueue n).unclaim p) n m l v
  have hc : (s.lane n).current = none := h.current_none (by simp [Lane.recording, h.waiting_of_held hh])
  exact ⟨h.takesForm, State.tubesForm_setTube h.tubesForm _ p.index_lt, h.blank, h.kept, h.lanes.rests hr hc hl fun _ => rfl,
    h.queue.rests hr hl rfl, ⟨h.pool.freeCount, h.pool.reserved, h.pool.fits, h.pool.segments⟩, latchSettled_iff.2 ⟨h.latch.marks, h.latch.armed, h.latch.disarmed⟩,
    h.fields.rests hr hl (fun m hm => State.laneLine_setLaneBoth_ne _ l v hm) (State.laneLine_setLaneBoth_self _ n l v),
    h.accepted.congr (h.accepted_setTube p.index rfl) (fun _ => Iff.rfl) (fun _ _ => rfl), h.load.rests hr hl rfl⟩

/-! ## A take's lane, its reservation and its seal -/

theorem Books.closing (h : Books s) (n : Fin 8) (k : Nat) (f : Option (BitVec 16)) (hk : (s.lane n).current = some k)
    (hn : (s.lane n).state = .opened) : Books (s.enterClosing n k f) := by
  obtain ⟨hkn, hkr, -⟩ := h.current hk
  have hko : (s.takeAt k).state = .opened := by
    obtain ⟨-, ⟨-, e⟩ | ⟨e, -⟩⟩ := h.lanes.current n k hk
    · exact e
    · simp [hn] at e
  have hl (m) : (s.enterClosing n k f).lane m = if m = n then { s.lane n with
      state := .closing, finalSeq := f, idle := none, drain := startTimer (s.lane n).cfg.drain } else s.lane m :=
    State.lane_setLane _ n m _
  have ht (j) : (s.enterClosing n k f).takeAt j = if j = k then { s.takeAt k with state := .closing } else s.takeAt j :=
    State.takeAt_setTake h.takesForm k j _
  obtain ⟨hblank, hkept⟩ := h.records_setTake (k := k) (x := { s.takeAt k with state := .closing }) (by simp)
    (by simp [TakeState.recording])
  have hheld := h.held_none (n := n) (by simp [hn])
  have hadm : (s.lane n).admission = none := Option.eq_none_iff_forall_not_mem.2 fun c hc => by
    simpa [hn] using (h.fields.admission n c hc).1
  refine ⟨State.takesForm_setTake h.takesForm _ (h.slot (by simp [hko])), h.tubesForm, hblank, hkept, ?_, ?_,
    h.pool.setTake h.takesForm rfl rfl h.pool.freeCount rfl h.pool.fits (.refl _), latchSettled_iff.2 h.settled, ?_, ?_, ?_⟩
  · obtain ⟨h1, h2, h3⟩ := h.lanes
    refine ⟨fun m j => ?_, fun m => ?_, fun j => ?_⟩ <;> simp only [hl, ht]
    · grind
    · simp only [Lane.recording] at *; grind
    · simp only [TakeState.recording] at *; grind
  · obtain ⟨h1, h2, h3⟩ := h.queue
    refine ⟨fun m => ?_, fun m => ?_, h3⟩ <;> simp only [hl]
    · grind
    · have := h2 m
      simp only [State.enterClosing, State.modTake, State.setLane_pool, State.setTake_pool]
      grind
  · refine h.fields.setLane hl (fun _ _ => rfl) (by simp) (fun c hc => ⟨rfl, ?_⟩) (by simp [hadm]) (by simp)
      (by simpa [hn] using h.fields.pause n) (by simp)
    simp only [startTimer] at hc
    split at hc
    · cases hc
    · cases hc; simp only; omega
  · refine h.accepted.congr (fun _ => rfl) (fun j => ?_) (fun j hj => ?_) <;> rw [ht] <;> split
    · rename_i e; simp [e, hko]
    · rfl
    · rename_i e; simp [e]
    · rfl
  · exact h.load.congr rfl fun m hm => by
      rw [hl, if_neg (by rintro rfl; simp [hn] at hm)]; exact hm

theorem Books.unreserve (h : Books s) (k : Nat) {p : Pool} {x : Take} (hk : (s.takeAt k).state.recording = true)
    (hx : TakeTweak (s.takeAt k) x) (hs : x.state = (s.takeAt k).state) (hr : x.remaining = 0)
    (hp : p = { s.pool with reserved := s.pool.reserved - (s.takeAt k).remaining, armed := p.armed }) (hset : p.Settled) :
    Books ((s.setTake k x).setPool p) := by
  have htake := State.takeAt_setTake h.takesForm k
  have same {β : Type} (f : Take → β) (hf : f x = f (s.takeAt k)) (j : Nat) : f ((s.setTake k x).takeAt j) = f (s.takeAt j) := by
    rw [htake]; split
    · rename_i e; rw [e, hf]
    · rfl
  obtain ⟨hblank, hkept⟩ := h.records_setTake (k := k) (x := x) (by rw [hs]; exact hx.busy) (by rw [hs, hk]; simp)
  have hle := remaining_le_sum h.takesForm k
  have hsum := h.pool.reserved
  have hfits := h.pool.fits
  have hq : p.queue = s.pool.queue := by rw [hp]
  have hres : p.reserved = s.pool.reserved - (s.takeAt k).remaining := by rw [hp]
  have hfree : p.freeCount = s.pool.freeCount := by rw [hp]
  have hlist : p.freeList = s.pool.freeList := by rw [hp]
  exact ⟨State.takesForm_setTake h.takesForm _ (h.slot hx.busy), h.tubesForm, hblank, hkept,
    h.lanes.congr (fun _ => rfl) (fun _ => rfl) (same _ hx.lane) (same _ hs),
    h.queue.congr (fun _ => rfl) (fun _ => rfl) hq,
    h.pool.setTake (p := p) h.takesForm rfl rfl (by rw [hfree, hlist]; exact h.pool.freeCount) (by omega) (by omega)
      (by rw [hx.chain, hlist]),
    latchSettled_iff.2 hset, h.fields.congr rfl rfl,
    h.accepted.congr (fun _ => rfl) (fun j => by rw [← same _ hs]; rfl) (fun j _ => same _ hx.tube j), h.load.congr rfl fun _ => id⟩

theorem Books.seals (h : Books s) (n : Fin 8) (k : Nat) {x : Take} {l : Lane} {v : LaneLine}
    (hk : (s.lane n).current = some k) (hrem : (s.takeAt k).remaining = 0) (hx : TakeTweak (s.takeAt k) x)
    (hr : x.remaining = 0) (hs : x.state = .sealed ∨ x.state = .rejected) (hl : LaneRests (s.lane n) l v)
    (ht : t = { (s.setTake k x).setLaneBoth n l v with tubes := t.tubes }) (hform : t.tubesForm)
    (hacc : ∀ i, (t.tubeAt i).accepted = (s.tubeAt i).accepted) : Books t := by
  obtain ⟨hkn, hkr, hnr⟩ := h.current hk
  have hlane (m) : t.lane m = if m = n then l else s.lane m := by
    rw [ht]; exact State.lane_setLaneBoth _ n m l v
  have htake (j) : t.takeAt j = if j = k then x else s.takeAt j := by
    rw [ht]; exact State.takeAt_setTake h.takesForm k j x
  have hpool : t.pool = s.pool := by rw [ht]; rfl
  have htakes : t.takes = (s.setTake k x).takes := by rw [ht]; rfl
  have hline (m) (hm : m ≠ n) : t.laneLine m = s.laneLine m := by
    rw [ht]; exact State.laneLine_setLaneBoth_ne _ l v hm
  have hlinen : t.laneLine n = v := by rw [ht]; exact State.laneLine_setLaneBoth_self _ n l v
  obtain ⟨hblank, hkept⟩ := h.records_setTake (k := k) (x := x) (by obtain e | e := hs <;> simp [e]) (fun _ => hr)
  have hread (j) : t.takeAt j = (s.setTake k x).takeAt j := by rw [ht]; rfl
  have hw : (s.lane n).state ≠ .waiting := by rw [Lane.recording_iff] at hnr; obtain e | e := hnr <;> simp [e]
  refine ⟨by show Sparse.wf _ _ t.takes = true; rw [htakes]; exact State.takesForm_setTake h.takesForm _ (h.slot hx.busy), hform,
    fun j => by rw [hread]; exact hblank j, fun j => by rw [hread]; exact hkept j, ?_,
    h.queue.rests hl hlane (by rw [hpool, h.queue.filter_self hw]),
    h.pool.setTake h.takesForm hpool htakes h.pool.freeCount (by rw [hr, hrem]) h.pool.fits (by rw [hx.chain]),
    by rw [latchSettled_iff, hpool]; exact h.settled, h.fields.rests hl hlane hline hlinen, ?_,
    h.load.rests hl hlane (by rw [ht]; rfl)⟩
  · have hlr : l.recording = false := by obtain e | e := hl.not_busy <;> simp [Lane.recording, e]
    have hxr : x.state.recording = false := by obtain e | e := hs <;> simp [TakeState.recording, e]
    have hlc := hl.current
    obtain ⟨h1, h2, h3⟩ := h.lanes
    refine ⟨fun m j => ?_, fun m => ?_, fun j => ?_⟩ <;> simp only [hlane, htake] <;> grind
  · refine h.accepted.congr hacc (fun j => ?_) (fun j hj => ?_) <;> rw [htake] <;> split
    next e =>
      rw [TakeState.recording_iff] at hkr
      obtain e' | e' := hs <;> obtain e'' | e'' := hkr <;> simp [e, e', e'']
    next => rfl
    next e => rw [e, hx.tube]
    next => rfl

end Sys2Proof.Machine
end

section
/-! Every move keeps the books, concluded: the moves of writes, starts, verdicts, releases and windows. -/

namespace Sys2Proof.Machine

variable {s t : State}

/-! ## An in-order write -/

/-- The pool after a segment has been taken for a take: its totals, and that the latch agrees. -/
theorem SegmentTaken.pool {q p : Pool} {x : Take} {off r : Nat} {c : List Nat} (h : SegmentTaken q x off p c r)
    (hc : q.freeCount = q.freeList.length) (hr : x.remaining ≤ q.reserved) (hf : q.reserved ≤ q.freeCount) (hs : q.Settled) :
    p.freeCount = p.freeList.length ∧ p.reserved + x.remaining = q.reserved + r ∧ p.reserved ≤ p.freeCount ∧
      (p.freeList ++ c).Perm (q.freeList ++ x.chain) ∧ p.Settled ∧ p.queue = q.queue := by
  have moved (seg : Nat) (rest : List Nat) : (rest ++ (x.chain ++ [seg])).Perm (seg :: rest ++ x.chain) := by
    rw [← List.append_assoc]
    exact List.perm_append_comm
  cases h with
  | inside => exact ⟨hc, by omega, hf, .refl _, hs, rfl⟩
  | @own seg rest _ hl hp =>
    have hlen : q.freeCount = rest.length + 1 := by rw [hc, hl]; rfl
    refine ⟨by simp only; omega, by simp only; omega, by simp only; omega, by simp only [hl]; exact moved seg rest, ?_, rfl⟩
    have hu : q.freeCount - 1 - (q.reserved - 1) = q.freeCount - q.reserved := by omega
    exact ⟨hs.marks, by simp only [hu]; exact hs.armed, by simp only [hu]; exact hs.disarmed⟩
  | @shared seg rest _ _ hl hz hlt hp hset =>
    have hlen : q.freeCount = rest.length + 1 := by rw [hc, hl]; rfl
    rw [hp] at hset ⊢
    exact ⟨by simp only; omega, by simp only, by simp only; omega, by simp only [hl]; exact moved seg rest, hset, rfl⟩

theorem Books.store (h : Books s) (n : Fin 8) (k : Nat) {p : Pool} {x : Take} {l : Lane}
    (hk : (s.lane n).current = some k)
    (hseg : SegmentTaken s.pool (s.takeAt k) (s.lane n).nextOffset p x.chain x.remaining)
    (hx : TakeTweak (s.takeAt k) { x with chain := (s.takeAt k).chain, written := (s.takeAt k).written })
    (hs : x.state = (s.takeAt k).state) (hl : LaneTweak (s.lane n) { l with nextOffset := (s.lane n).nextOffset }) :
    Books (((s.setPool p).setTake k x).setLane n l) := by
  obtain ⟨-, hkr, hnr⟩ := h.current hk
  have hlane := fun m => State.lane_setLane ((s.setPool p).setTake k x) n m l
  have htake : ∀ j, (((s.setPool p).setTake k x).setLane n l).takeAt j = if j = k then x else s.takeAt j :=
    fun j => State.takeAt_setTake h.takesForm k j x
  have sameL {β : Type} (f : Lane → β) (hf : f l = f (s.lane n)) (m : Fin 8) :
      f ((((s.setPool p).setTake k x).setLane n l).lane m) = f (s.lane m) := by
    rw [hlane]; split
    · rename_i e; rw [e, hf]
    · rfl
  have sameT {β : Type} (f : Take → β) (hf : f x = f (s.takeAt k)) (j : Nat) :
      f ((((s.setPool p).setTake k x).setLane n l).takeAt j) = f (s.takeAt j) := by
    rw [htake]; split
    · rename_i e; rw [e, hf]
    · rfl
  have hle := remaining_le_sum h.takesForm k
  obtain ⟨hc, hr, hfit, hperm, hset, hq⟩ := hseg.pool h.pool.freeCount (by rw [h.pool.reserved]; exact hle) h.pool.fits h.settled
  obtain ⟨hblank, hkept⟩ := h.records_setTake (k := k) (x := x) (by rw [hs]; exact hx.busy) (by rw [hs, hkr]; simp)
  refine ⟨State.takesForm_setTake h.takesForm _ (h.slot hx.busy), h.tubesForm, hblank, hkept,
    h.lanes.congr (sameL _ hl.current) (sameL _ hl.state) (sameT _ hx.lane) (sameT _ hs),
    h.queue.congr (sameL (·.held.isSome) (by rw [← hl.held])) (sameL _ hl.state) hq,
    h.pool.setTake (p := p) h.takesForm rfl rfl hc hr hfit hperm, latchSettled_iff.2 hset, ?_,
    h.accepted.congr (fun _ => rfl) (fun j => by rw [sameT _ hs]) (fun j _ => sameT _ hx.tube j),
    h.load.congr rfl fun m hm => by rwa [sameL Lane.state hl.state m]⟩
  refine h.fields.setLane hlane (fun _ _ => rfl) ?_ ?_ ?_ ?_ ?_ ?_
  · rw [show l.state = _ from hl.state, show l.cfg = _ from hl.cfg]; exact hl.idle
  · rw [show l.state = _ from hl.state, show l.cfg = _ from hl.cfg]; exact hl.drain
  · rw [show l.state = _ from hl.state, show l.cfg = _ from hl.cfg]; exact hl.admission
  · rw [show l.state = _ from hl.state]; exact hl.final
  · rw [show l.state = _ from hl.state, show l.pauseAdmission = _ from hl.pause]; exact h.fields.pause n
  · intro hd
    rw [show l.state = _ from hl.state] at hd
    simp [Lane.recording, hd] at hnr

/-! ## Starts -/

/-- The tubes after an opening: its own alone has changed. -/
theorem State.tubeAt_openTake (h : s.tubesForm) (o : Opening) (i : Nat) :
    (s.openTake o).tubeAt i = if i = o.pos.index then (s.tubeAt o.pos.index).opened o.slot else s.tubeAt i :=
  State.tubeAt_setTube (s := { s with serialCounter := s.serialCounter + 1 }) h _ i _

/-- The takes after an opening: its own alone has changed. -/
theorem State.takeAt_openTake (h : s.takesForm) (o : Opening) (k : Nat) : (s.openTake o).takeAt k =
    if k = o.slot then Take.atOpen s.serialCounter o (s.lane o.lane).cfg.reservation else s.takeAt k :=
  State.takeAt_setTake (s := { s with serialCounter := s.serialCounter + 1 }) h _ k _

/-- The lanes after an opening: its own alone has changed. -/
theorem State.lane_openTake (s : State) (o : Opening) (n : Fin 8) :
    (s.openTake o).lane n = if n = o.lane then (s.lane o.lane).atOpen o.slot else s.lane n :=
  State.lane_setLane _ o.lane n _

theorem Books.opens (h : Books s) (o : Opening) {q : Pool} {x : Tube} (hload : s.loader.running = false)
    (hk : opensAt s o.slot) (hq : q = { s.pool with
      queue := s.pool.queue.filter (· ≠ o.lane), reserved := s.pool.reserved + (s.lane o.lane).cfg.reservation, armed := q.armed })
    (hu : (s.lane o.lane).cfg.reservation ≤ s.pool.freeCount - s.pool.reserved) (hset : q.Settled)
    (hx : x.accepted = (s.tubeAt o.pos.index).accepted)
    (hl : (s.lane o.lane).state = .waiting ∨ (s.lane o.lane).state = .armed) :
    Books (((s.setPool q).setTube o.pos.index x).openTake o) := by
  obtain ⟨n, k, p, d⟩ := o
  obtain ⟨hspent, hlt, hfree, -⟩ := hk
  simp only at *
  have hblank : s.takeAt k = Take.free := h.blank k hfree
  have hcur : (s.lane n).current = none := h.current_none (by obtain e | e := hl <;> simp [Lane.recording, e])
  have hdrain : (s.lane n).drain = none := Option.eq_none_iff_forall_not_mem.2 fun c hc => by
    have := (h.fields.drain n c hc).1
    obtain e | e := hl <;> simp [e] at this
  set y := Take.atOpen s.serialCounter ⟨n, k, p, d⟩ (s.lane n).cfg.reservation
  set u := ((s.setPool q).setTube p.index x).openTake ⟨n, k, p, d⟩
  have hlane (m) : u.lane m = if m = n then (s.lane n).atOpen k else s.lane m := State.lane_setLane _ n m _
  have htake (j) : u.takeAt j = if j = k then y else s.takeAt j := State.takeAt_setTake h.takesForm k j y
  have htube (i) : (u.tubeAt i).accepted = (s.tubeAt i).accepted := by
    have hf := State.tubesForm_setTube (s := s.setPool q) h.tubesForm x p.index_lt
    have hset := fun i => State.tubeAt_setTube (s := s.setPool q) h.tubesForm p.index i x
    rw [State.tubeAt_openTake hf, hset, hset]
    split
    next e => rw [if_pos rfl, e]; exact hx
    next => rfl
  have hform : u.tubesForm :=
    Sparse.wf_set (State.tubesForm_setTube (s := s.setPool q) h.tubesForm _ p.index_lt) (Or.inl p.index_lt)
  have hchain : q.freeList = s.pool.freeList := by rw [hq]
  have hcount : q.freeCount = s.pool.freeCount := by rw [hq]
  have hres : q.reserved = s.pool.reserved + (s.lane n).cfg.reservation := by rw [hq]
  have hfits := h.pool.fits
  refine ⟨State.takesForm_setTake h.takesForm _ hlt, hform, fun j => ?_, fun j => ?_, ?_, ?_,
    h.pool.setTake (k := k) (x := y) (p := q) h.takesForm rfl rfl (by rw [hcount, hchain]; exact h.pool.freeCount) ?_
      (by omega) (by rw [hchain, hblank]; exact .refl _), latchSettled_iff.2 hset, ?_, ?_, ?_⟩
  · rw [htake]; split
    · exact nofun
    · exact h.blank j
  · rw [htake]; split
    · exact nofun
    · exact h.kept j
  · have hy1 : y.state = .opened := rfl
    have hy2 : y.lane = n := rfl
    have hl1 : ((s.lane n).atOpen k).current = some k := rfl
    have hl2 : ((s.lane n).atOpen k).state = .opened := rfl
    have hf : Take.free.state = .free := rfl
    obtain ⟨h1, h2, h3⟩ := h.lanes
    refine ⟨fun m j => ?_, fun m => ?_, fun j => ?_⟩ <;> simp only [hlane, htake]
    · grind
    · grind
    · simp only [TakeState.recording_iff] at *; grind
  · have hqq : u.pool.queue = s.pool.queue.filter (· ≠ n) := by show q.queue = _; rw [hq]
    have hl1 : ((s.lane n).atOpen k).held = none := rfl
    have hl2 : ((s.lane n).atOpen k).state = .opened := rfl
    obtain ⟨h1, h2, h3⟩ := h.queue
    refine ⟨fun m => ?_, fun m => ?_, by rw [hqq]; exact h3.filter _⟩
    · rw [hlane]; split
      · simp [hl1, hl2]
      · exact h1 m
    · rw [hlane, hqq]; split
      next e => simp [e, hl2]
      next e => simp [e, h2 m]
  · have : Take.free.remaining = 0 := rfl
    have hy : y.remaining = (s.lane n).cfg.reservation := rfl
    rw [hblank, hy]; omega
  · refine h.fields.setLane hlane (fun _ _ => rfl) (fun c hc => ⟨rfl, ?_⟩) ?_ ?_ ?_ ?_ ?_
    · simp only [Lane.atOpen, startTimer] at hc ⊢
      split at hc
      · cases hc
      · cases hc; omega
    all_goals simp [Lane.atOpen]
  · refine h.accepted.congr htube (fun j => ?_) (fun j hj => ?_) <;> rw [htake] <;> split
    next e => simp [e, hfree, y, Take.atOpen]
    next => rfl
    next e => rw [e, hfree] at hj; cases hj
    next => rfl
  · exact ⟨h.load.range, h.load.left, fun hr => absurd hr (by simp [u, State.openTake, State.setPool, hload])⟩

theorem Books.defer (h : Books s) (n : Fin 8) (p : TubePos) {d : Direction} {l : Lane} (hload : s.loader.running = false)
    (hn : (s.lane n).state = .armed)
    (hl : l = { s.lane n with state := .waiting, held := some (p, d), pauseAdmission := true, admission := l.admission })
    (ht : ∀ c, l.admission = some c → c < (s.lane n).cfg.admission) :
    Books (((s.claimTube n p).setPool { s.pool with queue := s.pool.queue ++ [n] }).setLane n l) := by
  set u := ((s.claimTube n p).setPool { s.pool with queue := s.pool.queue ++ [n] }).setLane n l with hu
  have hlane (m) : u.lane m = if m = n then l else s.lane m := State.lane_setLane _ n m l
  have hcur : (s.lane n).current = none := h.current_none (by simp [Lane.recording, hn])
  have hs : l.state = .waiting := by rw [hl]
  have hheld : l.held = some (p, d) := by rw [hl]
  have hlc : l.current = none := by rw [hl]; exact hcur
  have stopped {o : Option Nat} {P : Nat → LaneState} (hP : ∀ c, o = some c → (s.lane n).state = P c ∧ P c ≠ .armed) : o = none :=
    Option.eq_none_iff_forall_not_mem.2 fun c hc => (hP c hc).2 ((hP c hc).1.symm.trans hn)
  have hidle : l.idle = none := by
    rw [hl]; exact stopped (P := fun _ => .opened) fun c hc => ⟨(h.fields.idle n c hc).1, by decide⟩
  have hdrain : l.drain = none := by
    rw [hl]; exact stopped (P := fun _ => .closing) fun c hc => ⟨(h.fields.drain n c hc).1, by decide⟩
  have hfinal : l.finalSeq.isSome = false := by
    rw [hl]
    cases hf : (s.lane n).finalSeq.isSome with
    | false => rfl
    | true => exact absurd (h.fields.final n hf) (by simp [hn])
  have hnq : n ∉ s.pool.queue := fun hm => absurd ((h.queue.queued n).1 hm) (by simp [hn])
  refine ⟨h.takesForm, State.tubesForm_setTube h.tubesForm _ p.index_lt, h.blank, h.kept, ?_, ?_,
    ⟨h.pool.freeCount, h.pool.reserved, h.pool.fits, h.pool.segments⟩,
    latchSettled_iff.2 ⟨h.latch.marks, h.latch.armed, h.latch.disarmed⟩, ?_,
    h.accepted.congr (h.accepted_setTube p.index rfl) (fun _ => Iff.rfl) (fun _ _ => rfl),
    h.load.range, h.load.left, fun hr => absurd hr (by simp [u, State.setPool, State.claimTube, hload])⟩
  · have htake (j) : u.takeAt j = s.takeAt j := rfl
    obtain ⟨h1, h2, h3⟩ := h.lanes
    refine ⟨fun m j => ?_, fun m => ?_, fun j => ?_⟩ <;> simp only [hlane, htake] <;> simp only [Lane.recording] at * <;> grind
  · obtain ⟨h1, h2, h3⟩ := h.queue
    have hq : u.pool.queue = s.pool.queue ++ [n] := rfl
    refine ⟨fun m => ?_, fun m => ?_, ?_⟩
    · rw [hlane]; split
      · simp [hs, hheld]
      · exact h1 m
    · rw [hlane, hq]; split
      next e => simp [e, hs]
      next e => simp [e, h2 m]
    · rw [hq, List.nodup_append]
      exact ⟨h3, List.nodup_singleton n, fun m hm j hj e => hnq (by rw [List.mem_singleton] at hj; rwa [e, hj] at hm)⟩
  · have hcfg : l.cfg = (s.lane n).cfg := by rw [hl]
    refine h.fields.setLane hlane (fun _ _ => rfl) (by simp [hidle]) (by simp [hdrain])
      (fun c hc => ⟨hs, by rw [hcfg]; exact ht c hc⟩) (by simp [hfinal]) (by rw [hs, hl]; simp) (by simp [hs])

theorem Books.replace (h : Books s) (n : Fin 8) (q p : TubePos) (e d : Direction) (hh : (s.lane n).held = some (q, e)) :
    Books ((if q = p then s.claimTube n p else (s.claimTube n p).clearClaim q).setLane n
      { s.lane n with held := some (p, d) }) := by
  have hclaim : Books (s.claimTube n p) := h.tweakTube p.index_lt rfl
  have hclear : Books ((s.claimTube n p).clearClaim q) := hclaim.tweakTube q.index_lt rfl
  have hb : ∃ v, Books v ∧ v.lane n = s.lane n ∧
      (if q = p then s.claimTube n p else (s.claimTube n p).clearClaim q) = v := by
    split
    · exact ⟨_, hclaim, rfl, rfl⟩
    · exact ⟨_, hclear, rfl, rfl⟩
  obtain ⟨v, hb, hv, hif⟩ := hb
  rw [hif, ← hv]
  have hl := fun m => State.lane_setLane v n m { v.lane n with held := some (p, d) }
  have same {β : Type} (f : Lane → β) (hf : f { v.lane n with held := some (p, d) } = f (v.lane n)) (m : Fin 8) :
      f ((v.setLane n { v.lane n with held := some (p, d) }).lane m) = f (v.lane m) := by
    rw [hl]; split
    · rename_i e; rw [e, hf]
    · rfl
  have hw : (v.lane n).state = .waiting := hb.waiting_of_held (by rw [hv]; exact hh)
  refine ⟨hb.takesForm, hb.tubesForm, hb.blank, hb.kept, hb.lanes.congr (same _ rfl) (same _ rfl) (fun _ => rfl) (fun _ => rfl),
    hb.queue.congr (same (·.held.isSome) (by simp [hv, hh])) (same _ rfl) rfl, hb.pool.congr rfl rfl,
    latchSettled_iff.2 hb.settled, ?_, hb.accepted.congr (fun _ => rfl) (fun _ => Iff.rfl) (fun _ _ => rfl),
    hb.load.congr rfl fun m hm => by rwa [same Lane.state rfl m]⟩
  exact hb.fields.setLane hl (fun _ _ => rfl) (hb.fields.idle n) (hb.fields.drain n) (hb.fields.admission n) (hb.fields.final n)
    (hb.fields.pause n) (by simp [hw])

end Sys2Proof.Machine
end

section
/-! Verdicts, releases and window bindings on the books: what each leaves of the take and tube tables, and that it keeps the
books; then every move keeps them. -/

namespace Sys2Proof.Machine

variable {s t : State}

/-! ## The latch agrees after its test -/

theorem State.latchTest_settled (q : Bool) (h : s.pool.lowMark ≤ s.pool.highMark) : (s.latchTest q).pool.Settled := by
  unfold State.latchTest
  split
  next ha =>
    split
    next hl =>
      have hp : ({ s.pool with armed := false } : Pool).Settled :=
        ⟨h, nofun, fun _ => by simp only [Pool.unreserved] at hl; simp only; omega⟩
      split
      · exact hp
      · exact hp
    next hl => exact ⟨h, fun _ => Nat.not_lt.1 hl, fun hf => by simp [ha] at hf⟩
  next ha =>
    split
    next hh => exact ⟨h, fun _ => h.trans hh, nofun⟩
    next hh => exact ⟨h, fun hf => absurd hf ha, fun _ => Nat.not_le.1 hh⟩

/-- The latch agrees after an event's test, made or not. -/
theorem State.latchAfter_settled (before : Nat) (q : Bool) (h : s.pool.lowMark ≤ s.pool.highMark)
    (hb : s.pool.unreserved = before → s.pool.Settled) : (s.latchAfter before q).pool.Settled := by
  unfold State.latchAfter
  split
  next e => exact hb e
  next => exact State.latchTest_settled q h

/-! ## Takes that do not record -/

/-- Lanes and takes match where the takes that record are as they were and none has begun to. -/
theorem LanesMatchTakes.of_recording (h : LanesMatchTakes s) (hl : t.lanes = s.lanes)
    (ht : ∀ k, (s.takeAt k).state.recording = true → t.takeAt k = s.takeAt k)
    (hr : ∀ k, (t.takeAt k).state.recording = true → (s.takeAt k).state.recording = true) : LanesMatchTakes t := by
  have hlane (n) : t.lane n = s.lane n := by simp only [State.lane, hl]
  refine ⟨fun n k hk => ?_, fun n hn => ?_, fun k hk => ?_⟩
  · rw [hlane] at hk ⊢
    have hc := h.current n k hk
    rw [ht k (by obtain ⟨-, ⟨-, e⟩ | ⟨-, e⟩⟩ := hc <;> simp [TakeState.recording, e])]
    exact hc
  · rw [hlane] at hn ⊢; exact h.idle n hn
  · rw [ht k (hr k hk), hlane]; exact h.named k (hr k hk)

/-- A take's state changes nothing of the pool's books. -/
theorem PoolBalances.setTakeState (h : PoolBalances s) (hf : s.takesForm) (k : Nat) (st : TakeState) :
    PoolBalances (s.setTakeState k st) :=
  h.setTake (t := s.setTakeState k st) hf rfl rfl h.freeCount rfl h.fits (.refl _)

/-! ## ACCEPT_TAKE -/

/-- The rival of a take is the ACCEPTED take of its tube. -/
theorem Books.rival (h : Books s) {k u : Nat} (hu : s.rival k = some u) : ∃ p, (s.takeAt k).tube = some p ∧
    (s.tubeAt p.index).accepted = some u ∧ u ≠ k ∧ (s.takeAt u).state = .accepted := by
  cases hp : (s.takeAt k).tube with
  | none => simp [State.rival, hp] at hu
  | some p =>
    obtain ⟨ha, hne⟩ := (State.rival_eq_some hp).1 hu
    exact ⟨p, rfl, ha, hne, (h.accepted.names _ _ ha).1⟩

/-- The takes after supersession are in canonical form. -/
theorem Books.takesForm_supersede (h : Books s) (k : Nat) : (s.supersede k).takesForm := by
  unfold State.supersede
  split
  next u hu =>
    obtain ⟨p, -, -, -, hs⟩ := h.rival hu
    exact State.takesForm_setTake h.takesForm _ (h.slot (by simp [hs]))
  next => exact h.takesForm

/-- Each take after ACCEPT_TAKE, whether or not it has a tube (R38, R39). -/
theorem Books.takeAt_accept (h : Books s) (k j : Nat) : (s.accept k).takeAt j =
    if j = k then { s.takeAt k with state := .accepted }
    else if s.rival k = some j then { s.takeAt j with state := .superseded } else s.takeAt j := by
  have hself : (s.supersede k).takeAt k = s.takeAt k := by
    rw [State.takeAt_supersede h.takesForm, if_neg fun e => (h.rival e).choose_spec.2.2.1 rfl]
  rw [State.accept, State.takeAt_modTubeOf, State.takeAt_setTakeState (h.takesForm_supersede k), hself,
    State.takeAt_supersede h.takesForm]

/-- The tubes' accepted takes after ACCEPT_TAKE. -/
theorem Books.accepted_accept (h : Books s) (k i : Nat) : ((s.accept k).tubeAt i).accepted =
    if (s.takeAt k).tubeIndex = some i then some k else (s.tubeAt i).accepted := by
  cases hp : (s.takeAt k).tube with
  | none =>
    have hacc : s.accept k = (s.supersede k).setTakeState k .accepted := by
      have hself : ((s.supersede k).setTakeState k .accepted).takeAt k = { s.takeAt k with state := .accepted } := by
        have := h.takeAt_accept k k
        rwa [State.accept, State.takeAt_modTubeOf, if_pos rfl] at this
      simp only [State.accept, State.modTubeOf, hself, hp]
    rw [hacc, State.tubeAt_setTakeState, State.tubeAt_supersede, Take.tubeIndex, hp, if_neg (by simp)]
  | some p =>
    rw [State.tubeAt_accept h hp, Take.tubeIndex, hp]
    simp only [Option.map_some, Option.some_inj, eq_comm (a := i)]
    split
    · rfl
    · rfl

theorem State.tubesForm_modTubeOf (h : s.tubesForm) (k : Nat) (f : Tube → Tube) : (s.modTubeOf k f).tubesForm := by
  unfold State.modTubeOf
  split
  next p _ => exact State.tubesForm_setTube h _ p.index_lt
  next => exact h

theorem Books.accept (h : Books s) (k : Nat) (hv : acceptBy (s.takeAt k).state = .taken) : Books (s.accept k) := by
  have hst : (s.takeAt k).state = .sealed ∨ (s.takeAt k).state = .superseded := by
    cases e : (s.takeAt k).state <;> simp [e, acceptBy] at hv ⊢
  have htake := h.takeAt_accept k
  have hform := h.takesForm_supersede k
  have hslot : k < Config.takeSlots := h.slot (by obtain e | e := hst <;> simp [e])
  have hpool : PoolBalances (s.supersede k) := by
    unfold State.supersede
    split
    · exact h.pool.setTakeState h.takesForm _ _
    · exact h.pool
  have htakes : (s.accept k).takes = ((s.supersede k).setTakeState k .accepted).takes := by
    rw [State.accept, State.modTubeOf_frame]
  have hframe := State.accept_frame s k
  refine ⟨?_, State.tubesForm_modTubeOf (by rw [State.setTakeState_frame, State.supersede_frame]; exact h.tubesForm) _ _,
    fun j => ?_, fun j => ?_, h.lanes.of_recording (by rw [hframe]) (fun j hj => ?_) (fun j hj => ?_),
    h.queue.congr (fun _ => by rw [hframe]; rfl) (fun _ => by rw [hframe]; rfl) (by rw [hframe]),
    (hpool.setTakeState hform k .accepted).congr (by rw [hframe, State.setTakeState_frame, State.supersede_frame]) htakes,
    latchSettled_iff.2 (by rw [hframe]; exact h.settled), h.fields.congr (by rw [hframe]) (by rw [hframe]), ?_,
    h.load.congr (by rw [hframe]) fun m hm => by rw [hframe]; exact hm⟩
  · show Sparse.wf _ _ (s.accept k).takes = true
    rw [htakes]
    exact State.takesForm_setTake hform _ hslot
  · rw [htake]; split
    · exact nofun
    · split
      · exact nofun
      · exact h.blank j
  · rw [htake]; split
    · exact fun _ => h.kept k (by obtain e | e := hst <;> simp [e, TakeState.recording])
    · split
      next e =>
        obtain ⟨-, -, -, -, ha⟩ := h.rival e
        exact fun _ => h.kept j (by simp [ha, TakeState.recording])
      next => exact h.kept j
  · rw [htake, if_neg (by rintro rfl; obtain e | e := hst <;> simp [e, TakeState.recording] at hj), if_neg]
    intro e
    obtain ⟨-, -, -, -, ha⟩ := h.rival e
    simp [ha, TakeState.recording] at hj
  · rw [htake] at hj
    split at hj
    · cases hj
    · split at hj
      · cases hj
      · exact hj
  · have hacc := h.accepted_accept k
    have hrival (j) : s.rival k = some j ↔ ∃ i, (s.takeAt k).tubeIndex = some i ∧ (s.tubeAt i).accepted = some j ∧ j ≠ k := by
      cases hp : (s.takeAt k).tube with
      | none => simp [State.rival, hp, Take.tubeIndex]
      | some p => simp [State.rival_eq_some hp, hp, Take.tubeIndex]
    have htube (j) : ((s.accept k).takeAt j).tubeIndex = (s.takeAt j).tubeIndex := by
      rw [htake]; split
      next e => rw [e]; rfl
      next => split <;> rfl
    have hstate (j) : ((s.accept k).takeAt j).state = if j = k then .accepted else
        if s.rival k = some j then .superseded else (s.takeAt j).state := by
      rw [htake]; split
      next => rfl
      next => split <;> rfl
    obtain ⟨h1, h2⟩ := h.accepted
    refine ⟨fun i j => ?_, fun j i => ?_⟩ <;> rw [hacc, htube, hstate] <;> grind

/-! ## REJECT_TAKE -/

/-- REJECT_TAKE changes the take and tube tables alone. -/
theorem State.reject_frame (s : State) (k : Nat) :
    s.reject k = { s with takes := (s.setTakeState k .rejected).takes, tubes := (s.reject k).tubes } := by
  rw [State.reject, State.modTubeOf_frame]; rfl

/-- The tube's update by REJECT_TAKE in the statements' words (R10). -/
theorem Tube.reject_eq (x : Tube) (k : Nat) (st : TakeState) : x.reject k st =
    if x.accepted = some k then tubeAfterVerdict x none false (pendingAfter x st)
    else tubeAfterVerdict x x.accepted x.acceptMark (pendingAfter x st) := by
  unfold Tube.reject
  split <;> by_cases h : x.status = .inTest <;>
    simp [Tube.uncount, Tube.settle, Tube.recompute, tubeAfterVerdict, pendingAfter, standing, h] <;> rfl

/-- Each take after REJECT_TAKE (R40). -/
theorem State.takeAt_reject (h : s.takesForm) (k j : Nat) :
    (s.reject k).takeAt j = if j = k then { s.takeAt k with state := .rejected } else s.takeAt j := by
  rw [State.reject, State.takeAt_modTubeOf, State.takeAt_setTakeState h]

/-- Each tube after REJECT_TAKE (R10). -/
theorem State.tubeAt_reject (h : s.takesForm) (hf : s.tubesForm) (k i : Nat) : (s.reject k).tubeAt i =
    if (s.takeAt k).tubeIndex = some i then (s.tubeAt i).reject k (s.takeAt k).state else s.tubeAt i := by
  have hself : (s.setTakeState k .rejected).takeAt k = { s.takeAt k with state := .rejected } := by
    rw [State.takeAt_setTakeState h, if_pos rfl]
  unfold State.reject
  cases hp : (s.takeAt k).tube with
  | none => simp only [State.modTubeOf, hself, hp, Take.tubeIndex, Option.map_none]; rw [if_neg (by simp)]; rfl
  | some p =>
    have hp' : ((s.setTakeState k .rejected).takeAt k).tube = some p := by rw [hself]; exact hp
    rw [State.tubeAt_modTubeOf (s := s.setTakeState k .rejected) hf hp', Take.tubeIndex, hp]
    simp only [Option.map_some, Option.some_inj, eq_comm (a := i), State.tubeAt_setTakeState]
    split
    next e => rw [e]
    next => rfl

theorem Books.reject (h : Books s) (k : Nat) (hv : rejectBy (s.takeAt k).state = .taken) : Books (s.reject k) := by
  have hst : (s.takeAt k).state ≠ .free ∧ (s.takeAt k).state.recording = false := by
    cases e : (s.takeAt k).state <;> simp [e, rejectBy, TakeState.recording] at hv ⊢
  have htake := State.takeAt_reject h.takesForm k
  have hframe := State.reject_frame s k
  refine ⟨by rw [hframe]; exact State.takesForm_setTake h.takesForm _ (h.slot hst.1),
    State.tubesForm_modTubeOf (by exact h.tubesForm) _ _, fun j => ?_, fun j => ?_,
    h.lanes.of_recording (by rw [hframe]) (fun j hj => ?_) (fun j hj => ?_),
    h.queue.congr (fun _ => by rw [hframe]; rfl) (fun _ => by rw [hframe]; rfl) (by rw [hframe]),
    (h.pool.setTakeState h.takesForm k .rejected).congr (by rw [hframe]; rfl) (by rw [hframe]),
    latchSettled_iff.2 (by rw [hframe]; exact h.settled), h.fields.congr (by rw [hframe]) (by rw [hframe]), ?_,
    h.load.congr (by rw [hframe]) fun m hm => by rw [hframe]; exact hm⟩
  · rw [htake]; split
    · exact nofun
    · exact h.blank j
  · rw [htake]; split
    · exact fun _ => h.kept k hst.2
    · exact h.kept j
  · rw [htake, if_neg (by rintro rfl; simp [hst.2] at hj)]
  · rw [htake] at hj
    split at hj
    · cases hj
    · exact hj
  · have hacc (i) : ((s.reject k).tubeAt i).accepted =
        if (s.takeAt k).tubeIndex = some i ∧ (s.tubeAt i).accepted = some k then none else (s.tubeAt i).accepted := by
      rw [State.tubeAt_reject h.takesForm h.tubesForm, Tube.reject_eq]
      split
      next e => simp only [e, true_and]; split <;> rfl
      next e => simp [e]
    have htube (j) : ((s.reject k).takeAt j).tubeIndex = (s.takeAt j).tubeIndex := by
      rw [htake]; split
      next e => rw [e]; rfl
      next => rfl
    have hstate (j) : ((s.reject k).takeAt j).state = if j = k then .rejected else (s.takeAt j).state := by
      rw [htake]; split <;> rfl
    obtain ⟨h1, h2⟩ := h.accepted
    refine ⟨fun i j => ?_, fun j i => ?_⟩ <;> rw [hacc, htube, hstate] <;> grind

/-! ## RELEASE_TAKE -/

/-- The tube's update by RELEASE_TAKE in the statements' words (R11). -/
theorem Tube.release_eq (x : Tube) (k : Nat) (st : TakeState) : x.release k st =
    { tubeAfterVerdict x (if x.accepted = some k then none else x.accepted) x.acceptMark (pendingAfter x st) with
      history := x.history.filter (· ≠ k) } := by
  by_cases h : x.status = .inTest
  · simp [Tube.release, Tube.uncount, Tube.settle, tubeAfterVerdict, pendingAfter, h]
  · simp [Tube.release, Tube.uncount, Tube.settle, Tube.recompute, tubeAfterVerdict, pendingAfter, standing, h]
    rfl

/-- The pool once a chain has returned to the tail of its free list (R43, step 3). -/
def Pool.takeBack (p : Pool) (chain : List Nat) : Pool :=
  { p with freeList := p.freeList ++ chain, freeCount := p.freeCount + chain.length }

/-- A release up to its admission check: the take freed with its tube, its amendments and its segments, and the latch test made. -/
theorem State.releaseBefore_frame (s : State) (k : Nat) : s.releaseBefore k =
    { s with
      takes := (s.setTake k Take.free).takes
      tubes := (s.modTubeOf k fun t => t.release k (s.takeAt k).state).tubes
      amendments := (s.dropAmendments k).amendments
      pool := { s.pool.takeBack (s.takeAt k).chain with armed := (s.releaseBefore k).pool.armed }
      notices := (s.releaseBefore k).notices
      arbiter := (s.releaseBefore k).arbiter } := by
  unfold State.releaseBefore State.freeTake
  rw [State.latchAfter_frame, State.modTubeOf_frame]
  rfl

/-- The latch agrees after a release. -/
theorem Books.releaseBefore_settled (h : Books s) (k : Nat) : (s.releaseBefore k).pool.Settled := by
  refine State.latchAfter_settled _ _ ?_ fun e => ?_
  · rw [State.modTubeOf_frame]; exact h.latch.marks
  · have hfits := h.pool.fits
    rw [State.modTubeOf_frame] at e ⊢
    simp only [State.dropAmendments, Pool.unreserved, State.setTake_pool] at e
    refine ⟨h.latch.marks, fun ha => ?_, fun ha => ?_⟩
    · exact (h.latch.armed ha).trans e.ge
    · exact e.trans_lt (h.latch.disarmed ha)

theorem Books.release (h : Books s) (k : Nat) (hv : releasable (s.takeAt k).state = true) : Books (s.releaseBefore k) := by
  have hst : (s.takeAt k).state ≠ .free ∧ (s.takeAt k).state.recording = false := by
    cases e : (s.takeAt k).state <;> simp [e, releasable, TakeState.recording] at hv ⊢
  have hframe := State.releaseBefore_frame s k
  have hset := h.releaseBefore_settled k
  have htake (j) : (s.releaseBefore k).takeAt j = if j = k then Take.free else s.takeAt j := by
    rw [hframe]; exact State.takeAt_setTake h.takesForm k j _
  have hkept := h.kept k hst.2
  have hfits := h.pool.fits
  refine ⟨by rw [hframe]; exact State.takesForm_setTake h.takesForm _ (h.slot hst.1),
    by rw [hframe]; exact State.tubesForm_modTubeOf h.tubesForm _ _, fun j => ?_, fun j => ?_,
    h.lanes.of_recording (by rw [hframe]) (fun j hj => ?_) (fun j hj => ?_),
    h.queue.congr (fun _ => by rw [hframe]; rfl) (fun _ => by rw [hframe]; rfl) (by rw [hframe]; rfl),
    h.pool.setTake (p := (s.releaseBefore k).pool) (k := k) (x := Take.free) h.takesForm rfl (by rw [hframe]) ?_ ?_ ?_ ?_,
    latchSettled_iff.2 hset, h.fields.congr (by rw [hframe]) (by rw [hframe]), ?_,
    h.load.congr (by rw [hframe]) fun m hm => by rw [hframe]; exact hm⟩
  · rw [htake]; split
    · exact fun _ => rfl
    · exact h.blank j
  · rw [htake]; split
    · exact fun _ => rfl
    · exact h.kept j
  · rw [htake, if_neg (by rintro rfl; simp [hst.2] at hj)]
  · rw [htake] at hj
    split at hj
    · cases hj
    · exact hj
  · rw [hframe]; simp [Pool.takeBack, h.pool.freeCount]
  · rw [hframe]
    have : Take.free.remaining = 0 := rfl
    simp only [Pool.takeBack]
    omega
  · rw [hframe]; simp only [Pool.takeBack]; omega
  · rw [hframe]; simp [Pool.takeBack, Take.free]
  · have hacc (i) : ((s.releaseBefore k).tubeAt i).accepted =
        if (s.takeAt k).tubeIndex = some i ∧ (s.tubeAt i).accepted = some k then none else (s.tubeAt i).accepted := by
      have : (s.releaseBefore k).tubeAt i = (s.modTubeOf k fun t => t.release k (s.takeAt k).state).tubeAt i := by
        rw [hframe]; rfl
      rw [this]
      cases hp : (s.takeAt k).tube with
      | none => simp only [State.modTubeOf, hp, Take.tubeIndex, Option.map_none]; rw [if_neg (by simp)]
      | some p =>
        rw [State.tubeAt_modTubeOf h.tubesForm hp, Tube.release_eq, Take.tubeIndex, hp]
        simp only [Option.map_some, Option.some_inj, eq_comm (a := i)]
        split
        next e => subst e; simp only [true_and]; rfl
        next e => rw [if_neg (fun hh => e hh.1)]
    have htube (j) : ((s.releaseBefore k).takeAt j).tubeIndex = if j = k then none else (s.takeAt j).tubeIndex := by
      rw [htake]; split <;> rfl
    have hstate (j) : ((s.releaseBefore k).takeAt j).state = if j = k then .free else (s.takeAt j).state := by
      rw [htake]; split <;> rfl
    obtain ⟨h1, h2⟩ := h.accepted
    refine ⟨fun i j => ?_, fun j i => ?_⟩ <;> rw [hacc, htube, hstate] <;> grind

end Sys2Proof.Machine
end

section
/-! Window bindings on the books, and the books kept by every move. -/

namespace Sys2Proof.Machine

variable {s t : State}

/-! ## Tables with a change made to every record -/

/-- A sum over the records does not see a change that keeps each record's part in it. -/
theorem Sparse.sum_mapAll {α : Type} [DecidableEq α] {d : α} (f : α → α) (g : α → Nat) (hg : ∀ v, g (f v) = g v) (hd : g d = 0)
    (l : List (Nat × α)) : ((Sparse.mapAll d f l).map fun e => g e.2).sum = (l.map fun e => g e.2).sum := by
  induction l with
  | nil => rfl
  | cons e l ih =>
    obtain ⟨k, v⟩ := e
    simp only [Sparse.mapAll]
    split
    next hv =>
      have : g v = 0 := by rw [← hg v, hv, hd]
      simp [ih, this]
    next => simp [ih, hg]

/-- Nor does a concatenation over the records. -/
theorem Sparse.flatMap_mapAll {α β : Type} [DecidableEq α] {d : α} (f : α → α) (g : α → List β) (hg : ∀ v, g (f v) = g v)
    (hd : g d = []) (l : List (Nat × α)) : ((Sparse.mapAll d f l).flatMap fun e => g e.2) = l.flatMap fun e => g e.2 := by
  induction l with
  | nil => rfl
  | cons e l ih =>
    obtain ⟨k, v⟩ := e
    simp only [Sparse.mapAll]
    split
    next hv =>
      have : g v = [] := by rw [← hg v, hv, hd]
      simp [ih, this]
    next => simp [ih, hg]

/-! ## Bindings -/

/-- A binding counted changes the take table alone. -/
theorem State.countBinding_frame (w : Window) (f : Nat → Nat) :
    s.countBinding w f = { s with takes := (s.countBinding w f).takes } := by
  unfold State.countBinding; split <;> rfl

/-- Only the bindings of the take that a window names are counted. -/
theorem State.takeAt_countBinding (h : s.takesForm) (w : Window) (f : Nat → Nat) (k : Nat) : (s.countBinding w f).takeAt k =
    if w = .take k then { s.takeAt k with bindings := f (s.takeAt k).bindings } else s.takeAt k := by
  unfold State.countBinding
  split
  next j =>
    rw [State.modTake, State.takeAt_setTake h]
    simp only [Window.take.injEq, eq_comm (a := k)]
    split
    next e => rw [e]
    next => rfl
  next => simp
  next => simp

/-- A binding counted keeps the books: that of a take which is not FREE, or a count that leaves 0 at 0. -/
theorem Books.countBinding (h : Books s) (w : Window) (f : Nat → Nat) (hw : f 0 = 0 ∨ ∀ k, w = .take k → (s.takeAt k).state ≠ .free) :
    Books (s.countBinding w f) := by
  unfold State.countBinding
  split
  next k =>
    by_cases hk : (s.takeAt k).state = .free
    · obtain hf | hf := hw
      · have hfree := h.blank k hk
        have : s.modTake k (fun t => { t with bindings := f t.bindings }) = s := by
          rw [State.modTake, hfree]
          show s.setTake k { Take.free with bindings := f 0 } = s
          rw [hf]
          show s.setTake k Take.free = s
          rw [← hfree, State.setTake_takeAt h.takesForm]
        rw [this]; exact h
      · exact absurd hk (hf k rfl)
    · exact h.setTake k hk rfl rfl rfl rfl rfl
  next => exact h
  next => exact h

/-- A window's binding replaced changes the takes and the windows alone. -/
theorem State.bindWindow_frame (i : Fin 16) (w : Window) : s.bindWindow i w =
    { s with takes := (s.bindWindow i w).takes, windows := s.windows.set i w } := by
  unfold State.bindWindow
  rw [State.countBinding_frame, State.countBinding_frame (s := s)]

theorem Books.bind (h : Books s) (i : Fin 16) (w : Window) (hw : ∀ k, w = .take k → (s.takeAt k).state ≠ .free) :
    Books (s.bindWindow i w) := by
  have h1 := h.countBinding s.windows[i] (· - 1) (.inl rfl)
  refine Books.countBinding (h1.of_fields (t := { s.countBinding s.windows[i] (· - 1) with
    windows := (s.countBinding s.windows[i] (· - 1)).windows.set i w }) rfl rfl rfl rfl rfl rfl) w (· + 1) (.inr fun k hk => ?_)
  show ((s.countBinding s.windows[i] (· - 1)).takeAt k).state ≠ .free
  rw [State.takeAt_countBinding h.takesForm]
  split
  · exact hw k hk
  · exact hw k hk

/-- The takes with every binding count cleared. -/
theorem State.takeAt_unbindAll (h : s.takesForm) (k : Nat) : s.unbindAll.takeAt k = { s.takeAt k with bindings := 0 } :=
  Sparse.get_mapAll _ rfl h k

theorem Books.unbind (h : Books s) : Books s.unbindAll := by
  have htake := State.takeAt_unbindAll h.takesForm
  refine ⟨Sparse.wf_mapAll _ h.takesForm, h.tubesForm, fun k => ?_, fun k => ?_,
    h.lanes.congr (fun _ => rfl) (fun _ => rfl) (fun k => by rw [htake]) (fun k => by rw [htake]),
    h.queue.congr (fun _ => rfl) (fun _ => rfl) rfl, ⟨h.pool.freeCount, ?_, h.pool.fits, ?_⟩, latchSettled_iff.2 h.settled,
    h.fields.congr rfl rfl, h.accepted.congr (fun _ => rfl) (fun k => by rw [htake]) (fun k _ => by rw [htake]),
    h.load.congr rfl fun _ => id⟩
  · rw [htake]
    intro hk
    rw [h.blank k hk]; rfl
  · rw [htake]; exact h.kept k
  · show _ = ((Sparse.mapAll _ _ _).map _).sum
    rw [Sparse.sum_mapAll (fun x : Take => { x with bindings := 0 }) Take.remaining (fun _ => rfl) rfl]
    exact h.pool.reserved
  · show (_ ++ (Sparse.mapAll _ _ _).flatMap _).Perm _
    rw [Sparse.flatMap_mapAll (fun x : Take => { x with bindings := 0 }) Take.chain (fun _ => rfl) rfl]
    exact h.pool.segments

/-! ## Every move -/

theorem SameBooks.takeAt (h : SameBooks s t) (k : Nat) : t.takeAt k = s.takeAt k := by simp only [State.takeAt, h.takes]
theorem SameBooks.tubeAt (h : SameBooks s t) (i : Nat) : t.tubeAt i = s.tubeAt i := by simp only [State.tubeAt, h.tubes]
theorem SameBooks.lane (h : SameBooks s t) (n : Fin 8) : t.lane n = s.lane n := by simp only [State.lane, h.lanes]

theorem Books.same (h : Books s) (hs : SameBooks s t) : Books t :=
  h.of_fields hs.lanes hs.takes hs.tubes hs.pool hs.loader hs.laneLines

/-- Every move keeps the books. -/
theorem Move.books (hm : Move s t) (h : Books s) : Books t := by
  cases hm with
  | keep hs => exact h.same hs
  | tweakLane n hl => exact h.tweakLane n hl
  | lines v hv => exact h.lines v hv
  | tweakTake k hx hs hr => exact h.tweakTake k hx hs hr
  | plug p g => exact h.tweakTube p.index_lt rfl
  | load l hl => exact h.load' l hl
  | latch p hp hs =>
    exact h.setPool (by rw [hp]) (by rw [hp]) (by rw [hp]) (by rw [hp]) hs
  | shut n hn => exact h.rest n hn (Lane.disabled_rests _)
  | store n k hk hseg hx hs hw hl hno hlt => exact h.store n k hk hseg hx hs hl
  | drop n p d hh hr => exact h.drop n p hh hr
  | opens o hload hk hq hu hset hx ho =>
    refine h.opens o hload hk hq hu hset (by rw [hx]) ?_
    obtain ⟨hh, -⟩ | ⟨ha, -, -⟩ := ho
    · exact .inl (h.waiting_of_held hh)
    · exact .inr ha
  | defer n p d hload hn hc hl ht => exact h.defer n p hload hn hl ht
  | replace n q p e d hh hc => exact h.replace n q p e d hh
  | unclaim n p hn hc => exact h.tweakTube p.index_lt rfl
  | closing n k f hk hn => exact h.closing n k f hk hn
  | unreserve k hk hx hs hr hp hset => exact h.unreserve k hk hx hs hr hp hset
  | seals n k hk hrem hx hr hs hl ht hform hacc _ => exact h.seals n k hk hrem hx hr hs hl ht hform fun i => (hacc i).accepted
  | accept k hv => exact h.accept k hv
  | reject k hv => exact h.reject k hv
  | release k hv hb => exact h.release k hv
  | bind i w hw => exact h.bind i w hw
  | unbind => exact h.unbind

/-- A property that every move keeps, the books given, is kept along every succession of moves, and so are the books. -/
theorem Moves.keeps {P : State → Prop} (hP : ∀ {u v : State}, Move u v → Books u → P u → P v) (hm : Moves s t) (h : Books s)
    (hs : P s) : Books t ∧ P t := by
  induction hm with
  | refl => exact ⟨h, hs⟩
  | tail _ hmove ih => exact ⟨hmove.books ih.1, hP hmove ih.1 ih.2⟩

theorem Moves.books (hm : Moves s t) (h : Books s) : Books t :=
  (Moves.keeps (P := fun _ => True) (fun _ _ _ => trivial) hm h trivial).1

end Sys2Proof.Machine
end

section
/-! The admission check, told one head at a time (R84–R86, R88): its takes open after all its decisions, and the outcome is that of
opening each at once. What the decisions leave as it was, and what the openings are. -/

namespace Sys2Proof.Machine

variable {s t : State}

/-! ## Changes that commute with an opening -/

/-- Two changes of tubes that commute on every record commute on the register. -/
theorem Sparse.modify_comm {α : Type} [DecidableEq α] {d : α} {limit : Nat} {l : List (Nat × α)} (h : Sparse.wf d limit l = true)
    {i j : Nat} (hi : i < limit) (hj : j < limit) (f g : α → α) (hfg : ∀ v, f (g v) = g (f v)) :
    Sparse.set d (Sparse.set d l i (f (Sparse.get d l i))) j (g (Sparse.get d (Sparse.set d l i (f (Sparse.get d l i))) j)) =
      Sparse.set d (Sparse.set d l j (g (Sparse.get d l j))) i (f (Sparse.get d (Sparse.set d l j (g (Sparse.get d l j))) i)) := by
  have h1 := Sparse.wf_set h (v := f (Sparse.get d l i)) (.inl hi)
  have h2 := Sparse.wf_set h (v := g (Sparse.get d l j)) (.inl hj)
  refine Sparse.ext (limit := limit) (Sparse.wf_set h1 (.inl hj)) (Sparse.wf_set h2 (.inl hi)) fun m => ?_
  simp only [Sparse.get_set h1, Sparse.get_set h2, Sparse.get_set h]
  by_cases hij : i = j
  · subst hij
    simp only [if_pos]
    split <;> simp [hfg]
  · have hji : ¬j = i := fun e => hij e.symm
    simp only [if_neg hij, if_neg hji]
    by_cases hmj : m = j
    · simp [hmj, hji]
    · simp [hmj]

theorem State.latchTest_openTake (s : State) (q : Bool) (o : Opening) : (s.latchTest q).openTake o = (s.openTake o).latchTest q := by
  have hp : (s.openTake o).pool = s.pool := rfl
  unfold State.latchTest
  rw [hp]
  split_ifs <;> rfl

/-- An opening leaves every lane its configuration. -/
@[simp] theorem State.cfg_openTake (s : State) (o : Opening) (n : Fin 8) : ((s.openTake o).lane n).cfg = (s.lane n).cfg := by
  rw [State.lane_openTake]
  split
  next e => rw [e]; rfl
  next => rfl

theorem State.admitHead_openTake (s : State) (h : Fin 8) (rest : List (Fin 8)) (o : Opening) :
    (s.admitHead h rest).openTake o = (s.openTake o).admitHead h rest := by
  unfold State.admitHead
  rw [State.latchTest_openTake, State.cfg_openTake]
  rfl

/-- A departure from the queue commutes with the opening of another lane's take. -/
theorem State.heldRefused_openTake (hf : s.tubesForm) {n : Fin 8} (p : TubePos) (c : RefuseCause) {o : Opening} (hn : n ≠ o.lane) :
    (heldRefused s n p c).openTake o = heldRefused (s.openTake o) n p c := by
  have hne : n.val ≠ o.lane.val := fun e => hn (Fin.ext e)
  have hlanes : (s.lanes.set n.val (laneStoodDown (s.lane n))).set o.lane.val ((s.lane o.lane).atOpen o.slot) =
      (s.lanes.set o.lane.val ((s.lane o.lane).atOpen o.slot)).set n.val (laneStoodDown (s.lane n)) := Vector.set_comm _ _ hne
  have htubes := Sparse.modify_comm hf p.index_lt o.pos.index_lt (fun x => { x with claim := none }) (fun x => x.opened o.slot)
    (fun _ => rfl)
  have hother : (heldRefused s n p c).lane o.lane = s.lane o.lane := State.lane_setLane_ne _ _ (Ne.symm hn)
  have hself : (s.openTake o).lane n = s.lane n := by rw [State.lane_openTake, if_neg hn]
  have hl : ((heldRefused s n p c).openTake o) = { heldRefused s n p c with
      takes := (s.openTake o).takes, serialCounter := s.serialCounter + 1,
      lanes := (heldRefused s n p c).lanes.set o.lane ((s.lane o.lane).atOpen o.slot),
      tubes := ((heldRefused s n p c).openTake o).tubes } := by
    rw [State.openTake, hother]; rfl
  have hr : heldRefused (s.openTake o) n p c = { heldRefused s n p c with
      takes := (s.openTake o).takes, serialCounter := s.serialCounter + 1,
      lanes := (s.openTake o).lanes.set n (laneStoodDown (s.lane n)),
      tubes := (heldRefused (s.openTake o) n p c).tubes } := by
    unfold heldRefused; rw [hself]; rfl
  have hlanes' : (heldRefused s n p c).lanes.set o.lane ((s.lane o.lane).atOpen o.slot) =
      (s.openTake o).lanes.set n (laneStoodDown (s.lane n)) := hlanes
  have htubes' : ((heldRefused s n p c).openTake o).tubes = (heldRefused (s.openTake o) n p c).tubes := htubes
  rw [hl, hr, hlanes', htubes']

/-! ## Openings -/

/-- Starts admitted whose takes can open: their slots are FREE ones of the table, and no two have a lane or a slot in common. -/
structure OpensReady (s : State) (os : List Opening) : Prop where
  slots : ∀ o ∈ os, o.slot < Config.takeSlots ∧ (s.takeAt o.slot).state = .free
  lanes : (os.map Opening.lane).Nodup
  distinct : (os.map Opening.slot).Nodup

/-- Canonical form of both tables. -/
def State.Formed (s : State) : Prop := s.takesForm ∧ s.tubesForm

theorem State.Formed.openTake (h : s.Formed) {o : Opening} (ho : o.slot < Config.takeSlots) : (s.openTake o).Formed :=
  ⟨Sparse.wf_set h.1 (.inl ho), Sparse.wf_set h.2 (.inl o.pos.index_lt)⟩

theorem State.openAll_cons (s : State) (o : Opening) (os : List Opening) : s.openAll (o :: os) = (s.openTake o).openAll os := rfl

theorem State.openAll_append (s : State) (os : List Opening) (o : Opening) : s.openAll (os ++ [o]) = (s.openAll os).openTake o := by
  simp [State.openAll]

theorem State.Formed.openAll (h : s.Formed) {os : List Opening} (ho : ∀ o ∈ os, o.slot < Config.takeSlots) :
    (s.openAll os).Formed := by
  induction os generalizing s with
  | nil => exact h
  | cons o os ih =>
    exact ih (h.openTake (ho o (by simp))) fun o' ho' => ho o' (by simp [ho'])

/-- A lane that no opening is of is as it was. -/
theorem State.lane_openAll (s : State) {os : List Opening} {n : Fin 8} (h : ∀ o ∈ os, o.lane ≠ n) : (s.openAll os).lane n = s.lane n := by
  induction os generalizing s with
  | nil => rfl
  | cons o os ih =>
    rw [State.openAll_cons, ih _ fun o' ho' => h o' (by simp [ho']), State.lane_openTake, if_neg (Ne.symm (h o (by simp)))]

/-- A take that no opening is of is as it was. -/
theorem State.takeAt_openAll (h : s.Formed) {os : List Opening} (hs : ∀ o ∈ os, o.slot < Config.takeSlots) {k : Nat}
    (hk : ∀ o ∈ os, o.slot ≠ k) : (s.openAll os).takeAt k = s.takeAt k := by
  induction os generalizing s with
  | nil => rfl
  | cons o os ih =>
    rw [State.openAll_cons, ih (h.openTake (hs o (by simp))) (fun o' ho' => hs o' (by simp [ho'])) fun o' ho' => hk o' (by simp [ho']),
      State.takeAt_openTake h.1, if_neg (Ne.symm (hk o (by simp)))]

/-- After openings the FREE slots are those that none of them took. -/
theorem State.free_openAll (h : s.Formed) {os : List Opening} (hs : ∀ o ∈ os, o.slot < Config.takeSlots) (k : Nat) :
    ((s.openAll os).takeAt k).state = .free ↔ (s.takeAt k).state = .free ∧ k ∉ os.map Opening.slot := by
  induction os generalizing s with
  | nil => simp [State.openAll]
  | cons o os ih =>
    rw [State.openAll_cons, ih (h.openTake (hs o (by simp))) fun o' ho' => hs o' (by simp [ho']), State.takeAt_openTake h.1]
    split
    next e => simp [e, Take.atOpen]
    next e => simp [e]

/-- The slot given beside others is the slot given once those have opened. -/
theorem State.freeSlot_openAll (h : s.Formed) {os : List Opening} (hs : ∀ o ∈ os, o.slot < Config.takeSlots) :
    (s.openAll os).freeSlot [] = s.freeSlot (os.map Opening.slot) := by
  refine Option.ext fun k => ?_
  rw [State.freeSlot_given, State.freeSlot_given]
  simp only [slotGiven, State.free_openAll h hs, List.not_mem_nil, not_false_eq_true, true_and, List.length_nil,
    List.length_map, ne_eq]
  rw [State.openAll_frame]
  simp only [Nat.add_zero]
  refine and_congr_right fun _ => and_congr_right fun _ => ?_
  grind

theorem State.heldRefused_openAll (h : s.Formed) {n : Fin 8} (p : TubePos) (c : RefuseCause) {os : List Opening}
    (hs : ∀ o ∈ os, o.slot < Config.takeSlots) (hn : ∀ o ∈ os, o.lane ≠ n) :
    (heldRefused s n p c).openAll os = heldRefused (s.openAll os) n p c := by
  induction os generalizing s with
  | nil => rfl
  | cons o os ih =>
    rw [State.openAll_cons, State.openAll_cons, State.heldRefused_openTake h.2 p c (Ne.symm (hn o (by simp))),
      ih (h.openTake (hs o (by simp))) (fun o' ho' => hs o' (by simp [ho'])) fun o' ho' => hn o' (by simp [ho'])]

theorem State.admitHead_openAll (s : State) (h : Fin 8) (rest : List (Fin 8)) (os : List Opening) :
    (s.admitHead h rest).openAll os = (s.openAll os).admitHead h rest := by
  induction os generalizing s with
  | nil => rfl
  | cons o os ih => rw [State.openAll_cons, State.openAll_cons, State.admitHead_openTake, ih]

/-- Once takes that were ready have opened, each of their lanes works its tube. -/
theorem State.works_openAll (h : s.Formed) {os : List Opening} (hr : OpensReady s os) {o : Opening} (ho : o ∈ os) :
    (s.openAll os).works o.lane o.pos.index := by
  induction os generalizing s with
  | nil => cases ho
  | cons a os ih =>
    have hslots := hr.slots
    have hl := List.nodup_cons.1 hr.lanes
    have hd := List.nodup_cons.1 hr.distinct
    have hform := h.openTake (hslots a (by simp)).1
    rw [State.openAll_cons]
    obtain rfl | ho := List.mem_cons.1 ho
    · refine .inr ⟨o.slot, ?_, ?_⟩
      · rw [State.lane_openAll _ fun o' ho' e => hl.1 (by rw [← e]; exact List.mem_map_of_mem ho'), State.lane_openTake, if_pos rfl]; rfl
      · rw [State.takeAt_openAll hform (fun o' ho' => (hslots o' (by simp [ho'])).1)
          fun o' ho' e => hd.1 (by rw [← e]; exact List.mem_map_of_mem ho'), State.takeAt_openTake h.1, if_pos rfl]; rfl
    · refine ih hform ⟨fun o' ho' => ⟨(hslots o' (by simp [ho'])).1, ?_⟩, hl.2, hd.2⟩ ho
      rw [State.takeAt_openTake h.1, if_neg fun e => hd.1 (by rw [← e]; exact List.mem_map_of_mem ho')]
      exact (hslots o' (by simp [ho'])).2

/-! ## The check one head at a time -/

/-- An admission check in which every take opens as its start is admitted. -/
def State.admitNow : List (Fin 8) → State → State
  | [], s => s
  | h :: rest, s =>
    if s.pool.unreserved < (s.lane h).cfg.reservation then s
    else match s.freeSlot [], (s.lane h).held with
      | some k, some (p, d) =>
        State.admitNow rest ((s.admitHead h rest).openTake { lane := h, slot := k, pos := p, direction := d })
      | _, _ => State.admitNow rest (s.refuseHeld h .tableFull)

/-- What an admission check needs of the queue: each lane is in it once, each with its held start. -/
structure QueueReady (s : State) (q : List (Fin 8)) : Prop where
  nodup : q.Nodup
  held : ∀ n ∈ q, ∃ p d, (s.lane n).held = some (p, d)

theorem Books.queueReady (h : Books s) : QueueReady s s.pool.queue :=
  ⟨h.queue.nodup, fun n hn => h.held_of_waiting ((h.queue.queued n).1 hn)⟩

theorem Books.formed (h : Books s) : s.Formed := ⟨h.takesForm, h.tubesForm⟩

/-- An admitted head changes the pool and the notices. -/
theorem State.admitHead_frame (s : State) (h : Fin 8) (rest : List (Fin 8)) : s.admitHead h rest =
    { s with pool := (s.admitHead h rest).pool, notices := (s.admitHead h rest).notices,
             arbiter := (s.admitHead h rest).arbiter } := by
  unfold State.admitHead
  rw [State.latchTest_frame]

@[simp] theorem State.lane_admitHead (s : State) (h : Fin 8) (rest : List (Fin 8)) (n : Fin 8) :
    (s.admitHead h rest).lane n = s.lane n := by rw [State.admitHead_frame]; rfl
@[simp] theorem State.takeAt_admitHead (s : State) (h : Fin 8) (rest : List (Fin 8)) (k : Nat) :
    (s.admitHead h rest).takeAt k = s.takeAt k := by rw [State.admitHead_frame]; rfl

theorem State.Formed.admitHead (h : s.Formed) (n : Fin 8) (rest : List (Fin 8)) : (s.admitHead n rest).Formed := by
  rw [State.admitHead_frame]; exact h

theorem State.Formed.heldRefused (h : s.Formed) (n : Fin 8) (p : TubePos) (c : RefuseCause) : (heldRefused s n p c).Formed :=
  ⟨h.1, State.tubesForm_setTube h.2 _ p.index_lt⟩

@[simp] theorem State.takeAt_heldRefused (n : Fin 8) (p : TubePos) (c : RefuseCause) (k : Nat) :
    (heldRefused s n p c).takeAt k = s.takeAt k := rfl

theorem State.lane_heldRefused (n m : Fin 8) (p : TubePos) (c : RefuseCause) :
    (heldRefused s n p c).lane m = if m = n then laneStoodDown (s.lane n) else s.lane m := State.lane_setLane _ n m _

theorem QueueReady.admitHead {h : Fin 8} {rest : List (Fin 8)} (hq : QueueReady s (h :: rest)) :
    QueueReady (s.admitHead h rest) rest :=
  ⟨(List.nodup_cons.1 hq.nodup).2, fun n hn => by rw [State.lane_admitHead]; exact hq.held n (by simp [hn])⟩

theorem QueueReady.heldRefused {h : Fin 8} {rest : List (Fin 8)} (hq : QueueReady s (h :: rest)) (p : TubePos) (c : RefuseCause) :
    QueueReady (heldRefused s h p c) rest := by
  obtain ⟨hr, hn⟩ := List.nodup_cons.1 hq.nodup
  exact ⟨hn, fun n hm => by
    rw [State.lane_heldRefused, if_neg (show n ≠ h from fun e => hr (e ▸ hm))]; exact hq.held n (by simp [hm])⟩

/-- A start just admitted is ready to open beside those before it. -/
theorem OpensReady.admitted {os : List Opening} {o : Opening} (h : OpensReady s os) (hl : ∀ a ∈ os, a.lane ≠ o.lane)
    (hk : s.freeSlot (os.map Opening.slot) = some o.slot) : OpensReady s (os ++ [o]) := by
  obtain ⟨-, hlt, hni, hfree, -⟩ := (State.freeSlot_given _ _).1 hk
  refine ⟨fun a ha => ?_, ?_, ?_⟩
  · obtain ha | ha := List.mem_append.1 ha
    · exact h.slots a ha
    · rw [List.mem_singleton.1 ha]; exact ⟨hlt, hfree⟩
  · rw [List.map_append, List.nodup_append]
    refine ⟨h.lanes, List.nodup_singleton _, fun a ha b hb e => ?_⟩
    obtain ⟨c, hc, rfl⟩ := List.mem_map.1 ha
    exact hl c hc (e.trans (List.mem_singleton.1 hb))
  · rw [List.map_append, List.nodup_append]
    refine ⟨h.distinct, List.nodup_singleton _, fun a ha b hb e => ?_⟩
    exact hni ((e.trans (List.mem_singleton.1 hb)) ▸ ha)

/-- The decisions of an admission check: its starts are ready to open, the takes and the lanes outside the queue are as they
were, and every lane admitted was in the queue. -/
theorem State.admitLoop_ready (q : List (Fin 8)) (os : List Opening) (hf : s.Formed) (hq : QueueReady s q) (ho : OpensReady s os)
    (hd : ∀ o ∈ os, o.lane ∉ q) :
    OpensReady (State.admitLoop q os s).1 (State.admitLoop q os s).2 ∧ (State.admitLoop q os s).1.Formed ∧
      (∀ n, n ∉ q → (State.admitLoop q os s).1.lane n = s.lane n) ∧
      ∀ o ∈ (State.admitLoop q os s).2, o ∈ os ∨ o.lane ∈ q := by
  induction q generalizing s os with
  | nil => exact ⟨ho, hf, fun _ _ => rfl, fun _ => .inl⟩
  | cons h rest ih =>
    obtain ⟨hr, -⟩ := List.nodup_cons.1 hq.nodup
    obtain ⟨p, d, hp⟩ := hq.held h (by simp)
    unfold State.admitLoop
    split
    · exact ⟨ho, hf, fun _ _ => rfl, fun _ => .inl⟩
    · rw [hp]
      cases hk : s.freeSlot (os.map Opening.slot) with
      | some k =>
        have hopen := ho.admitted (o := { lane := h, slot := k, pos := p, direction := d }) (fun a ha e => hd a ha (by simp [e])) hk
        obtain ⟨h1, h2, h3, h4⟩ := ih (os ++ [{ lane := h, slot := k, pos := p, direction := d }]) (hf.admitHead h rest)
          hq.admitHead ⟨by simpa using hopen.slots, hopen.lanes, hopen.distinct⟩ (fun a ha => by
            obtain ha | ha := List.mem_append.1 ha
            · exact fun hm => hd a ha (by simp [hm])
            · rw [List.mem_singleton.1 ha]; exact hr)
        refine ⟨h1, h2, fun n hn => ?_, fun o hmem => ?_⟩
        · rw [h3 n fun hm => hn (by simp [hm]), State.lane_admitHead]
        · obtain hmem | hmem := h4 o hmem
          · obtain hmem | hmem := List.mem_append.1 hmem
            · exact .inl hmem
            · exact .inr (by simp [List.mem_singleton.1 hmem])
          · exact .inr (by simp [hmem])
      | none =>
        rw [State.refuseHeld_eq .tableFull hp]
        obtain ⟨h1, h2, h3, h4⟩ := ih os (hf.heldRefused h p .tableFull) (hq.heldRefused p .tableFull)
          ⟨ho.slots, ho.lanes, ho.distinct⟩ fun a ha hm => hd a ha (by simp [hm])
        refine ⟨h1, h2, fun n hn => ?_, fun o hmem => ?_⟩
        · rw [h3 n fun hm => hn (by simp [hm]), State.lane_heldRefused, if_neg fun e => hn (by simp [e])]
        · obtain hmem | hmem := h4 o hmem
          · exact .inl hmem
          · exact .inr (by simp [hmem])

/-- Opening all takes after the decisions gives what opening each at once does (R88). -/
theorem State.openAll_admitLoop (q : List (Fin 8)) (os : List Opening) (hf : s.Formed) (hq : QueueReady s q) (ho : OpensReady s os)
    (hd : ∀ o ∈ os, o.lane ∉ q) :
    (State.admitLoop q os s).1.openAll (State.admitLoop q os s).2 = State.admitNow q (s.openAll os) := by
  induction q generalizing s os with
  | nil => rfl
  | cons h rest ih =>
    obtain ⟨hr, -⟩ := List.nodup_cons.1 hq.nodup
    obtain ⟨p, d, hp⟩ := hq.held h (by simp)
    have hslots : ∀ o ∈ os, o.slot < Config.takeSlots := fun o hm => (ho.slots o hm).1
    have hlanes : ∀ o ∈ os, o.lane ≠ h := fun o hm e => hd o hm (by simp [e])
    have hpool : (s.openAll os).pool = s.pool := by rw [State.openAll_frame]
    unfold State.admitLoop State.admitNow
    rw [hpool, State.lane_openAll s hlanes, State.freeSlot_openAll hf hslots]
    split
    · rfl
    · rw [hp]
      cases hk : s.freeSlot (os.map Opening.slot) with
      | some k =>
        have hopen := ho.admitted (o := { lane := h, slot := k, pos := p, direction := d }) hlanes hk
        show _ = State.admitNow rest (((s.openAll os).admitHead h rest).openTake _)
        rw [← State.admitHead_openAll, ← State.openAll_append]
        refine ih _ (hf.admitHead h rest) hq.admitHead ⟨by simpa using hopen.slots, hopen.lanes, hopen.distinct⟩ fun a ha => ?_
        obtain ha | ha := List.mem_append.1 ha
        · exact fun hm => hd a ha (by simp [hm])
        · rw [List.mem_singleton.1 ha]; exact hr
      | none =>
        show State.openAll _ _ = State.admitNow rest ((s.openAll os).refuseHeld h .tableFull)
        rw [State.refuseHeld_eq .tableFull hp, State.refuseHeld_eq .tableFull (by rw [State.lane_openAll s hlanes]; exact hp),
          ← State.heldRefused_openAll hf p .tableFull hslots hlanes]
        exact ih _ (hf.heldRefused h p .tableFull) (hq.heldRefused p .tableFull) ⟨ho.slots, ho.lanes, ho.distinct⟩
          fun a ha hm => hd a ha (by simp [hm])

/-- An admission check is that of opening each take as its start is admitted. -/
theorem State.admissionCheck_eq_now (hf : s.Formed) (hq : QueueReady s s.pool.queue) :
    s.admissionCheck = State.admitNow s.pool.queue s :=
  State.openAll_admitLoop s.pool.queue [] hf hq ⟨nofun, List.nodup_nil, List.nodup_nil⟩ nofun

end Sys2Proof.Machine
end

section
/-! The commands as moves: the shared operations first. Each is a succession of moves from a state whose books are right. -/

namespace Sys2Proof.Machine

variable {s t u : State}

/-! ## Single moves -/

theorem Move.moves (h : Move s t) : Moves s t := .single h

theorem SameBooks.moves (h : SameBooks s t) : Moves s t := .single (.keep h)

theorem SameBooks.refl (s : State) : SameBooks s s := ⟨rfl, rfl, rfl, rfl, rfl, rfl, rfl, rfl⟩

/-- A notice changes nothing that the books read. -/
theorem SameBooks.post (r : Report) : SameBooks s (s.post r) := ⟨rfl, rfl, rfl, rfl, rfl, rfl, rfl, rfl⟩

theorem Moves.post (r : Report) (h : Moves s t) : Moves s (t.post r) := h.tail (.keep (.post r))

/-- The latch test is a move of the latch. -/
theorem Moves.latchTest (q : Bool) (hm : s.pool.lowMark ≤ s.pool.highMark) : Moves s (s.latchTest q) := by
  have hframe := State.latchTest_frame (s := s) q
  have hset := State.latchTest_settled q hm
  refine .tail (.single (Move.latch (s := s) (s.latchTest q).pool ?_ hset)) (.keep ?_)
  · rw [hframe]
  · rw [hframe]; exact ⟨rfl, rfl, rfl, rfl, rfl, rfl, rfl, rfl⟩

/-- A value that stands in one lane state alone stands in no other. -/
theorem Option.eq_none_of_state {α : Type} {o : Option α} {l : Lane} {st : LaneState} (h : ∀ c, o = some c → l.state = st)
    (hl : l.state ≠ st) : o = none :=
  Option.eq_none_iff_forall_not_mem.2 fun c hc => hl (h c hc)

theorem Books.idle_none (h : Books s) {n : Fin 8} (hn : (s.lane n).state ≠ .opened) : (s.lane n).idle = none :=
  Option.eq_none_of_state (fun c hc => (h.fields.idle n c hc).1) hn

theorem Books.drain_none (h : Books s) {n : Fin 8} (hn : (s.lane n).state ≠ .closing) : (s.lane n).drain = none :=
  Option.eq_none_of_state (fun c hc => (h.fields.drain n c hc).1) hn

theorem Books.admission_none (h : Books s) {n : Fin 8} (hn : (s.lane n).state ≠ .waiting) : (s.lane n).admission = none :=
  Option.eq_none_of_state (fun c hc => (h.fields.admission n c hc).1) hn

theorem Books.final_none (h : Books s) {n : Fin 8} (hn : (s.lane n).state ≠ .closing) : (s.lane n).finalSeq = none :=
  Option.eq_none_of_state (fun c hc => h.fields.final n (by rw [hc]; rfl)) hn

theorem Books.pause_false (h : Books s) {n : Fin 8} (hn : (s.lane n).state ≠ .waiting) : (s.lane n).pauseAdmission = false :=
  Bool.eq_false_iff.2 fun hp => hn ((h.fields.pause n).1 hp)

/-- A lane line written back. -/
theorem State.setLaneBoth_laneLine (n : Fin 8) (l : Lane) : s.setLaneBoth n l (s.laneLine n) = s.setLane n l := by
  show { s.setLane n l with laneLines := s.laneLines.set n (s.laneLine n) } = _
  simp [State.laneLine, State.setLane]

/-- A WAITING lane stood down rests. -/
theorem Books.standDown_rests (h : Books s) {n : Fin 8} (hw : (s.lane n).state = .waiting) (v : LaneLine) :
    LaneRests (s.lane n) (s.lane n).standDown v :=
  ⟨rfl, h.current_none (by simp [Lane.recording, hw]), rfl, rfl, h.idle_none (by simp [hw]), h.drain_none (by simp [hw]), rfl,
    h.final_none (by simp [hw]), .inl rfl⟩

/-- The departure of a WAITING lane, written out. -/
theorem State.dropHeld_eq {n : Fin 8} {p : TubePos} {d : Direction} (hp : (s.lane n).held = some (p, d)) :
    s.dropHeld n = ((s.leaveQueue n).unclaim p).setLane n (s.lane n).standDown := by
  have : ((s.leaveQueue n).lane n).held = some (p, d) := hp
  rw [State.dropHeld, State.releaseHeld, this]; rfl

/-- A WAITING lane that leaves the queue. -/
theorem Moves.dropHeld (h : Books s) {n : Fin 8} (hw : (s.lane n).state = .waiting) : Moves s (s.dropHeld n) := by
  obtain ⟨p, d, hp⟩ := h.held_of_waiting hw
  rw [State.dropHeld_eq hp, ← State.setLaneBoth_laneLine]
  exact .single (.drop n p d hp (h.standDown_rests hw _))

/-- The notice of a held start changes nothing that the books read. -/
theorem SameBooks.postHeld (n : Fin 8) (c : RefuseCause) : SameBooks s (s.postHeld n c) := by
  unfold State.postHeld
  split
  · exact .post _
  · exact .refl s

theorem Moves.refuseHeld (h : Books s) {n : Fin 8} (hw : (s.lane n).state = .waiting) (c : RefuseCause) :
    Moves s (s.refuseHeld n c) := by
  have hs := SameBooks.postHeld (s := s) n c
  exact hs.moves.trans (Moves.dropHeld (h.same hs) (by rw [hs.lane]; exact hw))

/-! ## The admission check -/

/-- The head of the queue admitted and opened is a move, and a latch test. -/
theorem Moves.admitHead (h : Books s) {n : Fin 8} {rest : List (Fin 8)} {k : Nat} {p : TubePos} {d : Direction}
    (hq : s.pool.queue = n :: rest) (hp : (s.lane n).held = some (p, d)) (hk : s.freeSlot [] = some k)
    (hu : ¬s.pool.unreserved < (s.lane n).cfg.reservation) :
    Moves s ((s.admitHead n rest).openTake { lane := n, slot := k, pos := p, direction := d }) := by
  have hw := h.waiting_of_held hp
  have hnd := h.queue.nodup
  rw [hq] at hnd
  have hrest : s.pool.queue.filter (· ≠ n) = rest := by
    rw [hq, List.filter_cons_of_neg (by simp), List.filter_eq_self]
    exact fun m hm => decide_eq_true fun e => (List.nodup_cons.1 hnd).1 (e ▸ hm)
  obtain ⟨hs, hlt, -, hfree, hleast⟩ := (State.freeSlot_given _ _).1 hk
  have hpool : (s.admitHead n rest).pool = { s.pool with
      queue := rest, reserved := s.pool.reserved + (s.lane n).cfg.reservation, armed := (s.admitHead n rest).pool.armed } := by
    unfold State.admitHead
    rw [State.latchTest_frame]
  have hback : (s.setPool (s.admitHead n rest).pool).setTube p.index (s.tubeAt p.index) = s.setPool (s.admitHead n rest).pool :=
    State.setTube_tubeAt (s := s.setPool (s.admitHead n rest).pool) h.tubesForm p.index
  have hmove : Move s (((s.setPool (s.admitHead n rest).pool).setTube p.index (s.tubeAt p.index)).openTake
      { lane := n, slot := k, pos := p, direction := d }) := Move.opens { lane := n, slot := k, pos := p, direction := d } (h.not_loading (n := n) (by simp [hw]) (by simp [hw]))
    ⟨by simpa using hs, hlt, hfree, fun j hj => hleast j hj (by simp)⟩ (by rw [hpool, hrest]) (Nat.not_lt.1 hu)
    (State.latchTest_settled _ h.latch.marks) rfl (.inl ⟨hp, rfl⟩)
  rw [hback] at hmove
  refine .tail (.single hmove) (.keep ?_)
  rw [State.admitHead_frame]
  exact ⟨rfl, rfl, rfl, rfl, rfl, rfl, rfl, rfl⟩

theorem Moves.admitNow (q : List (Fin 8)) (h : Books s) (hq : s.pool.queue = q) : Moves s (State.admitNow q s) := by
  induction q generalizing s with
  | nil => exact .refl
  | cons n rest ih =>
    obtain ⟨hnd, hheld⟩ := h.queueReady
    rw [hq] at hnd hheld
    obtain ⟨p, d, hp⟩ := hheld n (by simp)
    have hw := h.waiting_of_held hp
    unfold State.admitNow
    split
    next => exact .refl
    next hu =>
      rw [hp]
      cases hk : s.freeSlot [] with
      | some k =>
        have hm := Moves.admitHead h hq hp hk hu
        refine hm.trans (ih (hm.books h) ?_)
        show (s.admitHead n rest).pool.queue = rest
        unfold State.admitHead
        rw [State.latchTest_frame]
      | none =>
        have hm := Moves.refuseHeld h hw .tableFull
        refine hm.trans (ih (hm.books h) ?_)
        rw [State.refuseHeld_frame]
        simp only [hq]
        rw [List.filter_cons_of_neg (by simp), List.filter_eq_self]
        exact fun m hm => decide_eq_true fun e => (List.nodup_cons.1 hnd).1 (e ▸ hm)

/-- An admission check is a succession of moves. -/
theorem Moves.admissionCheck (h : Books s) : Moves s s.admissionCheck := by
  rw [State.admissionCheck_eq_now h.formed h.queueReady]
  exact Moves.admitNow _ h rfl

/-! ## A seal -/

/-- A take once steps 1 to 4 of its seal are done: still recording, its reservation returned (R31, R32). -/
theorem Books.closed_tweak (h : Books s) {n : Fin 8} {k : Nat} (hk : (s.lane n).current = some k) (cause : CloseCause)
    (mid : Bool) (e : Nat) : TakeTweak (s.takeAt k) ((s.takeAt k).closed cause mid e) := by
  have hr := (h.current hk).2.1
  rw [TakeState.recording_iff] at hr
  exact ⟨by obtain e | e := hr <;> simp [e], rfl, rfl, rfl, rfl, rfl, rfl⟩

/-- The state in which the admission check of a seal is made: the take closed and its reservation returned (R31, steps 1 to 4). -/
def State.sealReady (s : State) (n : Fin 8) (k : Nat) (cause : CloseCause) (quiet : Bool) : State :=
  (s.setTake k ((s.takeAt k).closed cause (s.lane n).track.parser.midBlock (s.expectedOf (s.takeAt k)))).returnReservation
    (s.takeAt k).remaining quiet

/-- Up to its admission check a seal changes the take, the pool's reservations and its latch, and the notices. -/
theorem State.sealReady_frame (n : Fin 8) (k : Nat) (cause : CloseCause) (q : Bool) : s.sealReady n k cause q =
    { s with
      takes := (s.setTake k ((s.takeAt k).closed cause (s.lane n).track.parser.midBlock (s.expectedOf (s.takeAt k)))).takes
      pool := { s.pool with
        reserved := s.pool.reserved - (s.takeAt k).remaining, armed := (s.sealReady n k cause q).pool.armed }
      notices := (s.sealReady n k cause q).notices, arbiter := (s.sealReady n k cause q).arbiter } := by
  unfold State.sealReady State.returnReservation
  rw [State.latchAfter_frame]
  rfl

theorem Moves.sealReady (h : Books s) {n : Fin 8} {k : Nat} (hk : (s.lane n).current = some k) (cause : CloseCause) (q : Bool) :
    Moves s (s.sealReady n k cause q) := by
  have hframe := State.sealReady_frame (s := s) n k cause q
  have hset : (s.sealReady n k cause q).pool.Settled := by
    refine State.latchAfter_settled _ _ h.latch.marks fun e => ?_
    simp only [Pool.unreserved, State.setTake_pool] at e
    exact ⟨h.latch.marks, fun ha => (h.latch.armed ha).trans e.ge, fun ha => e.trans_lt (h.latch.disarmed ha)⟩
  have hmove := Move.unreserve (s := s) k (p := (s.sealReady n k cause q).pool)
    (x := (s.takeAt k).closed cause (s.lane n).track.parser.midBlock (s.expectedOf (s.takeAt k))) (h.current hk).2.1
    (h.closed_tweak hk cause _ _) rfl rfl (by rw [hframe]) hset
  refine .tail (.single hmove) (.keep ?_)
  rw [hframe]
  exact ⟨rfl, rfl, rfl, rfl, rfl, rfl, rfl, rfl⟩

end Sys2Proof.Machine
end

section
/-! A seal as moves (R31): the reservation returned, the admission check, then the take recorded as sealed and left by its lane. The
openings of the check come after the take's record and its tube's (R88); the books do not see the difference, and neither do
the tubes where no other lane works the take's. -/

namespace Sys2Proof.Machine

variable {s t : State}

/-- The decisions of an admission check leave the takes and the tubes' accepted takes. -/
theorem State.takes_admitLoop (q : List (Fin 8)) (os : List Opening) : (State.admitLoop q os s).1.takes = s.takes := by
  rw [State.admitLoop_frame]

/-- Steps 5 to 7 of a seal change the take, its tube and the notices. -/
theorem State.sealEnd_frame (s : State) (k : Nat) (cause : CloseCause) (q : Bool) : s.sealEnd k cause q =
    { (s.setTake k ((s.takeAt k).judged s.rejectMask)).sealTube ((s.takeAt k).judged s.rejectMask) with
      notices := (s.sealEnd k cause q).notices, arbiter := (s.sealEnd k cause q).arbiter } := by
  unfold State.sealEnd
  dsimp only
  split <;> rfl

/-- A sealed take's tube changes the tube table alone. -/
theorem State.sealTube_frame (s : State) (x : Take) : s.sealTube x = { s with tubes := (s.sealTube x).tubes } := by
  unfold State.sealTube; split <;> rfl

theorem TubeStays.refl (x : Tube) : TubeStays x x := ⟨rfl, rfl, rfl⟩

theorem TubeStays.trans {x y z : Tube} (h : TubeStays x y) (h' : TubeStays y z) : TubeStays x z :=
  ⟨h'.accepted.trans h.accepted, h'.presence.trans h.presence, h'.expected.trans h.expected⟩

/-- The seal's tube update keeps the accepted take of every tube. -/
theorem State.tubeStays_sealTube (h : s.tubesForm) (x : Take) (i : Nat) : TubeStays (s.tubeAt i) ((s.sealTube x).tubeAt i) := by
  unfold State.sealTube
  split
  next p _ =>
    rw [State.tubeAt_setTube h]
    split
    next e => rw [e]; exact ⟨rfl, rfl, rfl⟩
    next => exact .refl _
  next => exact .refl _

theorem State.tubesForm_sealTube (h : s.tubesForm) (x : Take) : (s.sealTube x).tubesForm := by
  unfold State.sealTube
  split
  next p _ => exact State.tubesForm_setTube h _ p.index_lt
  next => exact h

/-- An opening on another tube commutes with a seal's tube update, as far as the tubes go. -/
theorem State.openTake_sealTube (hf : s.Formed) {k : Nat} {x y : Take} {o : Opening} (hk : k ≠ o.slot) (hks : k < Config.takeSlots)
    (hos : o.slot < Config.takeSlots) (hp : ∀ p, y.tube = some p → o.pos.index ≠ p.index) :
    (((s.setTake k x).sealTube y).openTake o) = ((s.openTake o).setTake k x).sealTube y := by
  have htakes := Sparse.set_comm hf.1 x (Take.atOpen s.serialCounter o (s.lane o.lane).cfg.reservation) hk hks hos
  unfold State.sealTube
  cases hy : y.tube with
  | none =>
    simp only [State.openTake, State.setTake, State.setTube, State.setLane, State.lane, State.tubeAt] at htakes ⊢
    rw [htakes]
  | some p =>
    have hne := hp p hy
    have htubes := Sparse.set_comm hf.2 ((s.tubeAt p.index).sealed (decide (y.state = .sealed)))
      ((s.tubeAt o.pos.index).opened o.slot) (Ne.symm hne) p.index_lt o.pos.index_lt
    have h1 : ((s.setTake k x).setTube p.index ((s.tubeAt p.index).sealed (decide (y.state = .sealed)))).tubeAt o.pos.index =
        s.tubeAt o.pos.index := State.tubeAt_setTube_ne (s := s.setTake k x) _ hne
    have h2 : ((s.openTake o).setTake k x).tubeAt p.index = s.tubeAt p.index := by
      rw [State.tubeAt_setTake, State.tubeAt_openTake hf.2, if_neg (Ne.symm hne)]
    simp only [h2, State.tubeAt_setTake]
    rw [State.openTake, h1]
    simp only [State.openTake, State.setTake, State.setTube, State.setLane, State.lane] at htakes htubes ⊢
    rw [htakes, htubes]

/-- Openings of takes other than k on tubes other than its commute with its seal. -/
theorem State.openAll_sealTube (hf : s.Formed) {k : Nat} {x y : Take} {os : List Opening} (hks : k < Config.takeSlots)
    (hos : ∀ o ∈ os, o.slot < Config.takeSlots ∧ k ≠ o.slot) (hp : ∀ o ∈ os, ∀ p, y.tube = some p → o.pos.index ≠ p.index) :
    (((s.setTake k x).sealTube y).openAll os) = ((s.openAll os).setTake k x).sealTube y := by
  induction os generalizing s with
  | nil => rfl
  | cons o os ih =>
    obtain ⟨ho, hk⟩ := hos o (by simp)
    rw [State.openAll_cons, State.openAll_cons, State.openTake_sealTube hf hk hks ho (hp o (by simp)),
      ih (hf.openTake ho) (fun o' ho' => hos o' (by simp [ho'])) fun o' ho' => hp o' (by simp [ho'])]

/-- Openings read and write no notice. -/
theorem State.openAll_notices (s : State) (os : List Opening) (w : NoticeWriter) (a : Arbiter) :
    ({ s with notices := w, arbiter := a } : State).openAll os = { s.openAll os with notices := w, arbiter := a } := by
  induction os generalizing s with
  | nil => rfl
  | cons o os ih => rw [State.openAll_cons, State.openAll_cons, ← ih]; rfl

/-- What openings make of every table but the tubes does not depend on the tubes. -/
theorem State.openAll_tubes (s : State) (os : List Opening) (v : List (Nat × Tube)) :
    ({ s with tubes := v } : State).openAll os = { s.openAll os with tubes := (({ s with tubes := v } : State).openAll os).tubes } := by
  induction os generalizing s v with
  | nil => rfl
  | cons o os ih =>
    have h1 : ({ s with tubes := v } : State).openTake o =
        { s.openTake o with tubes := (({ s with tubes := v } : State).openTake o).tubes } := rfl
    rw [State.openAll_cons, State.openAll_cons, h1, ih]

/-- Openings keep the accepted take and the map's fields of every tube. -/
theorem State.tubeStays_openAll (h : s.Formed) {os : List Opening} (hs : ∀ o ∈ os, o.slot < Config.takeSlots) (i : Nat) :
    TubeStays (s.tubeAt i) ((s.openAll os).tubeAt i) := by
  induction os generalizing s with
  | nil => exact .refl _
  | cons o os ih =>
    rw [State.openAll_cons]
    refine TubeStays.trans ?_ (ih (h.openTake (hs o (by simp))) fun o' ho' => hs o' (by simp [ho']))
    rw [State.tubeAt_openTake h.2]
    split
    next e => rw [e]; exact ⟨rfl, rfl, rfl⟩
    next => exact .refl _

/-- A seal up to the lane's leaving its take: the take closed, the check's decisions, the record, then the openings (R31, R88). -/
def State.sealMost (s : State) (n : Fin 8) (k : Nat) (cause : CloseCause) (quiet : Bool) : State :=
  (((s.sealReady n k cause quiet).admitDecide.1.sealEnd k cause quiet)).openAll (s.sealReady n k cause quiet).admitDecide.2

theorem State.sealTake_eq {n : Fin 8} {k : Nat} (hk : (s.lane n).current = some k) (cause : CloseCause) (q : Bool) :
    s.sealTake n cause q =
      (s.sealMost n k cause q).setLane n (((s.sealMost n k cause q).lane n).leave cause) := by
  rw [State.sealTake, hk]; rfl

/-- The take of a seal as it is judged (R33). -/
theorem Take.judged_cases (x : Take) (m : Flags) : (x.judged m).state = .sealed ∨ (x.judged m).state = .rejected := by
  unfold Take.judged; split
  · exact .inl rfl
  · exact .inr rfl

theorem Take.judged_frame (x : Take) (m : Flags) :
    x.judged m = { x with state := (x.judged m).state, autoRejected := (x.judged m).autoRejected } := by
  unfold Take.judged; split <;> rfl

section
variable {n : Fin 8} {k : Nat} (h : Books s) (hk : (s.lane n).current = some k) (cause : CloseCause) (q : Bool)
include h hk

/-- The books and the lane as the admission check of a seal is made. -/
theorem Books.sealReady : Books (s.sealReady n k cause q) ∧ ((s.sealReady n k cause q).lane n).current = some k :=
  ⟨(Moves.sealReady h hk cause q).books h, by rw [State.sealReady_frame]; exact hk⟩

omit hk in
/-- The take at that point: closed, with no reservation left. -/
theorem Books.takeAt_sealReady : (s.sealReady n k cause q).takeAt k =
    (s.takeAt k).closed cause (s.lane n).track.parser.midBlock (s.expectedOf (s.takeAt k)) := by
  rw [State.sealReady_frame]; exact State.takeAt_setTake_self h.takesForm k _

/-- The decisions of a seal's check: its starts are ready, their slots are not the take's and their lanes not its own. -/
theorem Books.sealReady_decide : let r := s.sealReady n k cause q
    OpensReady r.admitDecide.1 r.admitDecide.2 ∧ r.admitDecide.1.Formed ∧ r.admitDecide.1.lane n = s.lane n ∧
      r.admitDecide.1.takes = r.takes ∧ (∀ o ∈ r.admitDecide.2, o.lane ≠ n) ∧ ∀ o ∈ r.admitDecide.2, o.slot ≠ k := by
  intro r
  obtain ⟨hb, hc⟩ := h.sealReady hk cause q
  have hbusy := (hb.current hc).2
  have hnq : n ∉ r.pool.queue := fun hm => by
    have := (hb.queue.queued n).1 hm
    have hr := hbusy.2
    simp [Lane.recording, this] at hr
  obtain ⟨h1, h2, h3, h4⟩ := State.admitLoop_ready r.pool.queue [] hb.formed hb.queueReady
    ⟨nofun, List.nodup_nil, List.nodup_nil⟩ nofun
  have htakes : r.admitDecide.1.takes = r.takes := State.takes_admitLoop _ _
  refine ⟨h1, h2, ?_, htakes, fun o ho e => ?_, fun o ho e => ?_⟩
  · rw [State.admitDecide, h3 n hnq, State.sealReady_frame]; rfl
  · obtain hm | hm := h4 o ho
    · cases hm
    · exact hnq (e ▸ hm)
  · have hf := (h1.slots o ho).2
    have hx : (State.admitLoop r.pool.queue [] r).1.takeAt o.slot = r.takeAt k := by
      rw [e]; simp only [State.takeAt]; rw [State.takes_admitLoop]
    rw [hx] at hf
    have hr := hbusy.1
    rw [hf] at hr
    cases hr

end

/-- A take recorded as sealed before openings of other takes, seen after them: the tubes apart, its record is the one difference. -/
theorem State.openAll_sealRecord {x : State} (hx : x.Formed) (hks : k < Config.takeSlots) (y : Take) {os : List Opening}
    (hos : ∀ o ∈ os, o.slot < Config.takeSlots ∧ k ≠ o.slot) : ((x.setTake k y).sealTube y).openAll os =
      { (x.openAll os).setTake k y with tubes := (((x.setTake k y).sealTube y).openAll os).tubes } := by
  have hno : (x.setTake k y).openAll os = (x.openAll os).setTake k y :=
    State.openAll_sealTube (y := { y with tube := none }) hx hks hos fun o ho p hp => by cases hp
  rw [State.sealTube_frame, State.openAll_tubes, hno]

theorem State.Formed.sealRecord {x : State} (hx : x.Formed) (hks : k < Config.takeSlots) (y : Take) :
    ((x.setTake k y).sealTube y).Formed := by
  refine ⟨?_, State.tubesForm_sealTube (s := x.setTake k y) hx.2 y⟩
  rw [State.sealTube_frame]
  exact State.takesForm_setTake hx.1 _ hks

/-- The end of a seal whose admission check has admitted `os`: the openings done, it is a move. -/
theorem Moves.sealEnd {x : State} {os : List Opening} {l : Lane} {v : LaneLine} (hx : x.Formed) (hr : OpensReady x os)
    (hn : ∀ o ∈ os, o.lane ≠ n) (hs : ∀ o ∈ os, o.slot ≠ k) (hk : (x.lane n).current = some k) (hks : k < Config.takeSlots)
    (hrem : (x.takeAt k).remaining = 0) (hb : (x.takeAt k).state ≠ .free) (hl : LaneRests (x.lane n) l v) (cause : CloseCause)
    (q : Bool) : Moves (x.openAll os) (((x.sealEnd k cause q).openAll os).setLaneBoth n l v) := by
  have hos : ∀ o ∈ os, o.slot < Config.takeSlots := fun o ho => (hr.slots o ho).1
  have hne : ∀ o ∈ os, o.slot < Config.takeSlots ∧ k ≠ o.slot := fun o ho => ⟨hos o ho, Ne.symm (hs o ho)⟩
  have hlane : (x.openAll os).lane n = x.lane n := State.lane_openAll _ hn
  have htake : (x.openAll os).takeAt k = x.takeAt k := State.takeAt_openAll hx hos hs
  have hy := Take.judged_frame (x.takeAt k) x.rejectMask
  have hyc := Take.judged_cases (x.takeAt k) x.rejectMask
  have hend : (x.sealEnd k cause q).openAll os =
      { ((x.setTake k ((x.takeAt k).judged x.rejectMask)).sealTube ((x.takeAt k).judged x.rejectMask)).openAll os with
        notices := (x.sealEnd k cause q).notices, arbiter := (x.sealEnd k cause q).arbiter } := by
    rw [State.sealEnd_frame, State.openAll_notices]
  rw [hend]
  generalize (x.takeAt k).judged x.rejectMask = y at hy hyc
  have hrecord := State.openAll_sealRecord hx hks y hne
  have hform := (hx.sealRecord hks y).openAll hos
  have hseal : Move (x.openAll os) ((((x.setTake k y).sealTube y).openAll os).setLaneBoth n l v) := by
    refine Move.seals n k (x := y) (by rw [hlane, hk]) (by rw [htake, hrem])
      (by rw [htake, hy]; exact ⟨hb, rfl, rfl, rfl, rfl, rfl, rfl⟩) (by rw [hy]; exact hrem) hyc (by rw [hlane]; exact hl)
      ?_ hform.2 (fun i => ?_) (fun hworks => ?_)
    · conv_lhs => rw [hrecord]
      rfl
    · have h1 := State.tubeStays_openAll hx hos i
      have h2 := (State.tubeStays_sealTube (s := x.setTake k y) hx.2 y i).trans (State.tubeStays_openAll (hx.sealRecord hks y) hos i)
      exact ⟨h2.accepted.trans h1.accepted.symm, h2.presence.trans h1.presence.symm, h2.expected.trans h1.expected.symm⟩
    · show (((x.setTake k y).sealTube y).openAll os).tubes = _
      rw [State.openAll_sealTube hx hks hne]
      intro o ho p hp e
      refine hn o ho (hworks o.lane p ?_ (e ▸ State.works_openAll hx hr ho))
      rw [htake, ← hp, hy]
  exact .tail (.single hseal) (.keep ⟨rfl, rfl, rfl, rfl, rfl, rfl, rfl, rfl⟩)

/-- A seal is a succession of moves, whichever way its lane comes to rest. -/
theorem Moves.sealMost (h : Books s) (hk : (s.lane n).current = some k) (cause : CloseCause) (q : Bool) {l : Lane} {v : LaneLine}
    (hl : LaneRests (s.lane n) l v) : Moves s ((s.sealMost n k cause q).setLaneBoth n l v) := by
  obtain ⟨hb, hc⟩ := h.sealReady hk cause q
  obtain ⟨hready, hform, hlane, htakes, hlanes, hslots⟩ := h.sealReady_decide hk cause q
  have hclosed := h.takeAt_sealReady (n := n) (k := k) cause q
  have htake : (s.sealReady n k cause q).admitDecide.1.takeAt k = (s.sealReady n k cause q).takeAt k := by
    simp only [State.takeAt, htakes]
  have hbusy : ((s.sealReady n k cause q).takeAt k).state ≠ .free := by
    obtain e | e := (TakeState.recording_iff _).1 (hb.current hc).2.1 <;> simp [e]
  refine (Moves.sealReady h hk cause q).trans ((Moves.admissionCheck hb).trans ?_)
  exact Moves.sealEnd hform hready hlanes hslots (by rw [hlane]; exact hk) (hb.slot hbusy) (by rw [htake, hclosed]; rfl)
    (by rw [htake]; exact hbusy) (by rw [hlane]; exact hl) cause q

end Sys2Proof.Machine
end

section
/-! The seal of a lane that stays enabled and of one that is disabled, and the end of all work (R50, R51), as moves. -/

namespace Sys2Proof.Machine

variable {s t : State} {n : Fin 8} {k : Nat}

/-! ## A seal -/

/-- A lane that leaves its take enabled rests. -/
theorem Books.leave_rests (h : Books s) (hk : (s.lane n).current = some k) {cause : CloseCause} (hc : cause.disables = false)
    (v : LaneLine) : LaneRests (s.lane n) ((s.lane n).leave cause) v := by
  have hr := (Lane.recording_iff _).1 (h.current hk).2.2
  have hw : (s.lane n).state ≠ .waiting := by obtain e | e := hr <;> simp [e]
  exact ⟨rfl, rfl, h.held_none hw, h.pause_false hw, rfl, rfl, h.admission_none hw, rfl, .inl (by simp [Lane.leave, hc])⟩

/-- A seal leaves the lane lines. -/
theorem State.laneLines_sealMost (hk : (s.lane n).current = some k) (cause : CloseCause) (q : Bool) :
    (s.sealMost n k cause q).laneLines = s.laneLines := by
  have h := congrArg State.laneLines (State.sealTake_frame (s := s) n cause q)
  rwa [State.sealTake_eq hk] at h

/-- Up to the end of its seal a lane stays as it is. -/
theorem Books.lane_sealMost (h : Books s) (hk : (s.lane n).current = some k) (cause : CloseCause) (q : Bool) :
    (s.sealMost n k cause q).lane n = s.lane n := by
  obtain ⟨-, -, hlane, -, hlanes, -⟩ := h.sealReady_decide hk cause q
  rw [State.sealMost, State.lane_openAll _ hlanes, State.sealEnd_frame, State.sealTube_frame]
  exact hlane

/-- A seal that leaves its lane enabled is a succession of moves. -/
theorem Moves.sealTake (h : Books s) (hk : (s.lane n).current = some k) {cause : CloseCause} (hc : cause.disables = false)
    (q : Bool) : Moves s (s.sealTake n cause q) := by
  have hm := Moves.sealMost h hk cause q (h.leave_rests hk hc (s.laneLine n))
  have hline : s.laneLine n = (s.sealMost n k cause q).laneLine n := by
    simp only [State.laneLine, State.laneLines_sealMost hk]
  rwa [hline, State.setLaneBoth_laneLine, ← h.lane_sealMost hk cause q, ← State.sealTake_eq hk] at hm

/-- A lane whose take is sealed is then shut (R50). -/
theorem Books.sealTake_shut (h : Books s) (hk : (s.lane n).current = some k) (cause : CloseCause) (q : Bool) :
    (s.sealTake n cause q).shutLane n =
      (s.sealMost n k cause q).setLaneBoth n (Lane.disabled (s.lane n).cfg) LaneLine.idle := by
  rw [State.sealTake_eq hk, State.shutLane, State.lane_setLane_self, State.setLane_setLane, h.lane_sealMost hk]
  rfl

theorem Moves.sealTake_shut (h : Books s) (hk : (s.lane n).current = some k) (cause : CloseCause) (q : Bool) :
    Moves s ((s.sealTake n cause q).shutLane n) := by
  rw [h.sealTake_shut hk]
  exact Moves.sealMost h hk cause q (Lane.disabled_rests _)

/-! ## A lane disabled -/

/-- A lane that works nothing is shut. -/
theorem Moves.shutLane (hs : (s.lane n).state = .disabled ∨ (s.lane n).state = .armed) : Moves s (s.shutLane n) :=
  .single (.shut n hs)

/-- A held start refused leaves its lane ARMED. -/
theorem Books.lane_refuseHeld (h : Books s) (hw : (s.lane n).state = .waiting) (c : RefuseCause) :
    ((s.refuseHeld n c).lane n).state = .armed := by
  obtain ⟨p, d, hp⟩ := h.held_of_waiting hw
  rw [State.refuseHeld_eq c hp, State.lane_heldRefused, if_pos rfl]
  rfl

theorem Moves.disableLane (h : Books s) (n : Fin 8) : Moves s (s.disableLane n) := by
  unfold State.disableLane
  cases hst : (s.lane n).state with
  | disabled => exact .refl
  | armed => exact Moves.shutLane (.inr hst)
  | waiting =>
    have h1 := Moves.refuseHeld h hst .disabled
    have h2 := Moves.shutLane (s := s.refuseHeld n .disabled) (.inr (h.lane_refuseHeld hst .disabled))
    exact h1.trans (h2.trans (Moves.admissionCheck (h2.books (h1.books h))))
  | opened =>
    obtain ⟨k, hk⟩ := h.current_of_recording (n := n) (by simp [Lane.recording, hst])
    exact Moves.sealTake_shut h hk _ _
  | closing =>
    obtain ⟨k, hk⟩ := h.current_of_recording (n := n) (by simp [Lane.recording, hst])
    exact Moves.sealTake_shut h hk _ _

end Sys2Proof.Machine
end

section
/-! The end of all work by BYPASS or a rig reset (R51): the WAITING lanes leave the queue, and then each lane's seal and its
disabling can be taken together, lane by lane, since on an empty queue the seal of one lane does not read another. -/

namespace Sys2Proof.Machine

variable {s t : State} {n m : Fin 8} {k : Nat}

/-- The lanes and their lines are written. -/
def State.setLanes (s : State) (v : Vector Lane 8) (u : Vector LaneLine 8) : State := { s with lanes := v, laneLines := u }

/-- A seal on an empty queue admits nothing. -/
theorem State.sealMost_empty (hq : s.pool.queue = []) (n : Fin 8) (k : Nat) (cause : CloseCause) (q : Bool) :
    s.sealMost n k cause q = (s.sealReady n k cause q).sealEnd k cause q := by
  have h : (s.sealReady n k cause q).admitDecide = (s.sealReady n k cause q, []) := by
    rw [State.admitDecide, State.sealReady_frame, hq, State.admitLoop]
  rw [State.sealMost, h]; rfl

theorem State.latchAfter_setLanes (v : Vector Lane 8) (u : Vector LaneLine 8) (b : Nat) (q : Bool) :
    (s.setLanes v u).latchAfter b q = (s.latchAfter b q).setLanes v u := by
  unfold State.latchAfter State.latchTest
  simp only [apply_ite (fun x : State => x.setLanes v u)]
  rfl

/-- A seal reads no lane but its own up to its admission check. -/
theorem State.sealReady_setLanes {v : Vector Lane 8} (u : Vector LaneLine 8) (hv : v[n] = s.lane n) (k : Nat) (cause : CloseCause)
    (q : Bool) : (s.setLanes v u).sealReady n k cause q = (s.sealReady n k cause q).setLanes v u := by
  have hl : (s.setLanes v u).lane n = s.lane n := hv
  set x := s.setTake k ((s.takeAt k).closed cause (s.lane n).track.parser.midBlock (s.expectedOf (s.takeAt k))) with hx
  have h := State.latchAfter_setLanes (s := { x with pool := { x.pool with reserved := x.pool.reserved - (s.takeAt k).remaining } })
    v u x.pool.unreserved q
  unfold State.sealReady
  rw [hl]
  exact h

theorem State.sealEnd_setLanes (v : Vector Lane 8) (u : Vector LaneLine 8) (k : Nat) (cause : CloseCause) (q : Bool) :
    (s.setLanes v u).sealEnd k cause q = (s.sealEnd k cause q).setLanes v u := by
  unfold State.sealEnd State.sealTube
  cases h : ((s.takeAt k).judged s.rejectMask).tube with
  | none =>
    have h' : (((s.setLanes v u).takeAt k).judged (s.setLanes v u).rejectMask).tube = none := h
    simp only [h, h']
    cases q <;> rfl
  | some p =>
    have h' : (((s.setLanes v u).takeAt k).judged (s.setLanes v u).rejectMask).tube = some p := h
    simp only [h, h']
    cases q <;> rfl

/-- On an empty queue a lane is shut before or after the seal of another's take. -/
theorem State.shutLane_sealRecording (hq : s.pool.queue = []) (hne : m ≠ n) (cause : CloseCause) (q : Bool) :
    State.sealRecording cause q (s.shutLane m) n = (State.sealRecording cause q s n).shutLane m := by
  have hl : (s.shutLane m).lane n = s.lane n := by
    show ((s.setLane m _).setLaneLine m _).lane n = _
    rw [State.lane_setLaneLine, State.lane_setLane_ne _ _ hne.symm]
  unfold State.sealRecording
  rw [hl]
  split
  · cases hk : (s.lane n).current with
    | none =>
      have hk' : ((s.shutLane m).lane n).current = none := by rw [hl, hk]
      simp only [State.sealTake, hk, hk']
    | some k =>
      have hk' : ((s.shutLane m).lane n).current = some k := by rw [hl, hk]
      have hq' : (s.shutLane m).pool.queue = [] := hq
      have hready : (s.shutLane m).sealReady n k cause q = (s.sealReady n k cause q).setLanes
          (s.lanes.set m (Lane.disabled (s.lane m).cfg)) (s.laneLines.set m LaneLine.idle) :=
        State.sealReady_setLanes (s.laneLines.set m LaneLine.idle) hl k cause q
      rw [State.sealTake_eq hk, State.sealTake_eq hk', State.sealMost_empty hq, State.sealMost_empty hq', hready,
        State.sealEnd_setLanes]
      have hlanes : ((s.sealReady n k cause q).sealEnd k cause q).lanes = s.lanes := by
        rw [State.sealEnd_frame, State.sealTube_frame, State.sealReady_frame]; rfl
      have hlines : ((s.sealReady n k cause q).sealEnd k cause q).laneLines = s.laneLines := by
        rw [State.sealEnd_frame, State.sealTube_frame, State.sealReady_frame]; rfl
      generalize (s.sealReady n k cause q).sealEnd k cause q = x at hlanes hlines
      have e1 : (x.setLanes (s.lanes.set m (Lane.disabled (s.lane m).cfg)) (s.laneLines.set m LaneLine.idle)).lane n = x.lane n := by
        have hx : x.lane n = s.lane n := by rw [State.lane, hlanes]; rfl
        rw [hx]; exact hl
      have e2 : (x.setLane n ((x.lane n).leave cause)).lane m = s.lane m := by
        rw [State.lane_setLane_ne _ _ hne, State.lane, hlanes]; rfl
      rw [e1, State.shutLane, e2]
      simp only [State.setLanes, State.setLane, State.setLaneLine, hlanes, hlines]
      rw [Vector.set_comm _ _ (fun e => hne (Fin.ext e))]
  · rfl

/-- A lane ends its work: its take is sealed, and it is shut. -/
def State.endWork (cause : CloseCause) (q : Bool) (s : State) (n : Fin 8) : State := (State.sealRecording cause q s n).shutLane n

/-- A seal on an empty queue leaves it empty. -/
theorem State.queue_sealRecording (hq : s.pool.queue = []) (cause : CloseCause) (q : Bool) (n : Fin 8) :
    (State.sealRecording cause q s n).pool.queue = [] := by
  unfold State.sealRecording
  split
  · cases hk : (s.lane n).current with
    | none => simp only [State.sealTake, hk, hq]
    | some k =>
      rw [State.sealTake_eq hk, State.sealMost_empty hq, State.sealEnd_frame, State.sealTube_frame, State.sealReady_frame]
      exact hq
  · exact hq

theorem State.shutLane_foldl_sealRecording (hq : s.pool.queue = []) (cause : CloseCause) (q : Bool) {ns : List (Fin 8)}
    (hm : m ∉ ns) : (ns.foldl (State.sealRecording cause q) s).shutLane m = ns.foldl (State.sealRecording cause q) (s.shutLane m) := by
  induction ns generalizing s with
  | nil => rfl
  | cons n ns ih =>
    obtain ⟨hne, hm⟩ := not_or.1 (List.mem_cons.not.1 hm)
    rw [List.foldl_cons, List.foldl_cons, ih (State.queue_sealRecording hq cause q n) hm, State.shutLane_sealRecording hq hne]

/-- On an empty queue, sealing every take and then shutting every lane is ending the work of each lane in turn. -/
theorem State.foldl_endWork (hq : s.pool.queue = []) (cause : CloseCause) (q : Bool) {ns : List (Fin 8)} (hn : ns.Nodup) :
    ns.foldl State.shutLane (ns.foldl (State.sealRecording cause q) s) = ns.foldl (State.endWork cause q) s := by
  induction ns generalizing s with
  | nil => rfl
  | cons n ns ih =>
    obtain ⟨hm, hn⟩ := List.nodup_cons.1 hn
    rw [List.foldl_cons, List.foldl_cons, List.foldl_cons, State.shutLane_foldl_sealRecording
      (State.queue_sealRecording hq cause q n) cause q hm, ih (s := (State.sealRecording cause q s n).shutLane n) (State.queue_sealRecording hq cause q n) hn]
    rfl

/-- The end of a lane's work is a succession of moves. -/
theorem Moves.endWork (h : Books s) (hw : (s.lane n).state ≠ .waiting) (cause : CloseCause) (q : Bool) :
    Moves s (State.endWork cause q s n) := by
  unfold State.endWork State.sealRecording
  split
  next hr =>
    obtain ⟨k, hk⟩ := h.current_of_recording hr
    exact Moves.sealTake_shut h hk cause q
  next hr =>
    refine Moves.shutLane ?_
    rw [Lane.recording_iff] at hr
    cases hst : (s.lane n).state <;> simp_all

/-! ## The WAITING lanes -/

/-- A WAITING lane that leaves the queue at the end of all work. -/
theorem Moves.dropWaiting (h : Books s) (q : Bool) (n : Fin 8) : Moves s (State.dropWaiting q s n) := by
  unfold State.dropWaiting
  split
  next hw =>
    cases q with
    | true => exact Moves.dropHeld h hw
    | false => exact Moves.refuseHeld h hw .disabled
  next => exact .refl

theorem State.postHeld_frame (n : Fin 8) (c : RefuseCause) :
    s.postHeld n c = { s with notices := (s.postHeld n c).notices, arbiter := (s.postHeld n c).arbiter } := by
  unfold State.postHeld
  split <;> rfl

/-- The departure of WAITING lane n leaves the other lanes, and leaves n ARMED. -/
theorem Books.lane_dropWaiting (h : Books s) (q : Bool) (n m : Fin 8) : (State.dropWaiting q s n).lane m =
    if m = n ∧ (s.lane n).state = .waiting then (s.lane n).standDown else s.lane m := by
  unfold State.dropWaiting
  split
  next hw =>
    obtain ⟨p, d, hp⟩ := h.held_of_waiting hw
    simp only [hw, and_true]
    cases q with
    | true =>
      simp only [if_true]
      rw [State.dropHeld_eq hp, State.lane_setLane]
      rfl
    | false =>
      have hp' : ((s.postHeld n .disabled).lane n).held = some (p, d) := by rw [State.postHeld_frame]; exact hp
      simp only [Bool.false_eq_true, if_false]
      rw [State.dropHeld_eq hp', State.lane_setLane, State.postHeld_frame]
      rfl
  next hw => rw [if_neg (fun e => hw e.2)]

/-- Once the WAITING lanes have left, none is WAITING. -/
theorem Moves.dropWaitings (h : Books s) (q : Bool) (ns : List (Fin 8)) : Moves s (ns.foldl (State.dropWaiting q) s) ∧
    ∀ m, (m ∈ ns ∨ (s.lane m).state ≠ .waiting) → ((ns.foldl (State.dropWaiting q) s).lane m).state ≠ .waiting := by
  induction ns generalizing s with
  | nil => exact ⟨.refl, fun m hm => hm.resolve_left (by simp)⟩
  | cons n ns ih =>
    have h1 := Moves.dropWaiting h q n
    obtain ⟨h2, h3⟩ := ih (h1.books h)
    refine ⟨h1.trans h2, fun m hm => h3 m ?_⟩
    by_cases hmn : m ∈ ns
    · exact .inl hmn
    · refine .inr ?_
      rw [h.lane_dropWaiting]
      split
      next => simp [Lane.standDown]
      next hc =>
        intro hw
        obtain hm | hm := hm
        · obtain rfl | hm := List.mem_cons.1 hm
          · exact hc ⟨rfl, hw⟩
          · exact hmn hm
        · exact hm hw

theorem mem_allLanes (n : Fin 8) : n ∈ allLanes := by revert n; decide

theorem allLanes_nodup : allLanes.Nodup := by decide

theorem State.queue_endWork (hq : s.pool.queue = []) (cause : CloseCause) (q : Bool) (n : Fin 8) :
    (State.endWork cause q s n).pool.queue = [] := State.queue_sealRecording hq cause q n

theorem Moves.endAll (h : Books s) (hq : s.pool.queue = []) (cause : CloseCause) (q : Bool) (ns : List (Fin 8)) :
    Moves s (ns.foldl (State.endWork cause q) s) := by
  induction ns generalizing s with
  | nil => exact .refl
  | cons n ns ih =>
    have hw : (s.lane n).state ≠ .waiting := fun hw => by
      have := (h.queue.queued n).2 hw
      rw [hq] at this
      cases this
    have h1 := Moves.endWork h hw cause q
    exact h1.trans (ih (h1.books h) (State.queue_endWork hq cause q n))

/-- The state of the end of all work once the WAITING lanes have left. -/
def State.dropAll (s : State) (q : Bool) : State := allLanes.foldl (State.dropWaiting q) s

theorem Moves.dropAll (h : Books s) (q : Bool) : Moves s (s.dropAll q) ∧ ∀ m, ((s.dropAll q).lane m).state ≠ .waiting := by
  obtain ⟨h1, h2⟩ := Moves.dropWaitings h q allLanes
  exact ⟨h1, fun m => h2 m (.inl (mem_allLanes m))⟩

/-- The departures empty the queue. -/
theorem Books.queue_dropAll (h : Books s) (q : Bool) : (s.dropAll q).pool.queue = [] := by
  obtain ⟨h1, h2⟩ := Moves.dropAll h q
  have hb := h1.books h
  generalize s.dropAll q = x at h2 hb
  exact List.eq_nil_iff_forall_not_mem.2 fun m hm => h2 m ((hb.queue.queued m).1 hm)

/-- The end of all work, lane by lane. -/
theorem Books.disableAll_eq (h : Books s) (cause : CloseCause) (q : Bool) :
    s.disableAll cause q = allLanes.foldl (State.endWork cause q) (s.dropAll q) := by
  have hq := h.queue_dropAll q
  have he : ∀ x : State, x.pool.queue = [] → x.emptyQueue = x := fun x hx => by rw [State.emptyQueue, ← hx]
  unfold State.disableAll
  rw [← State.dropAll, he _ hq, State.foldl_endWork hq cause q allLanes_nodup]

theorem Moves.disableAll (h : Books s) (cause : CloseCause) (q : Bool) : Moves s (s.disableAll cause q) := by
  rw [h.disableAll_eq]
  have h1 := (Moves.dropAll h q).1
  exact h1.trans (Moves.endAll (h1.books h) (h.queue_dropAll q) cause q allLanes)

end Sys2Proof.Machine
end

section
/-! Lane writes as moves (R69–R75, R79, R62). What the parser makes of a take is said once: its counts, marks and flags alone. -/

namespace Sys2Proof.Machine

variable {s t : State} {n : Fin 8} {k : Nat}

/-! ## What the parser changes of a take -/

/-- A take after the parser has worked on it: its counts, marks, landmarks and flags alone have changed. -/
def TakeParsed (x y : Take) : Prop :=
  y = { x with blocks := y.blocks, samples := y.samples, missing := y.missing, axialFirst := y.axialFirst,
               axialLast := y.axialLast, landmarks := y.landmarks, landmarkList := y.landmarkList, flags := y.flags }

theorem TakeParsed.refl (x : Take) : TakeParsed x x := rfl

theorem TakeParsed.trans {x y z : Take} (h : TakeParsed x y) (h' : TakeParsed y z) : TakeParsed x z := by
  unfold TakeParsed at h h' ⊢
  rw [h', h]

theorem Work.detect_parsed (w : Work) (cfg : LaneConfig) (mag : Nat) (x : Int) : TakeParsed w.take (w.detect cfg mag x).take := by
  unfold Work.detect
  split
  · split
    · by_cases hf : w.track.farEnough cfg x = true
      · simp only [hf, if_true]; rfl
      · simp only [hf, Bool.false_eq_true, if_false]; rfl
    · rfl
  · split <;> rfl

theorem Work.examine_parsed (w : Work) (cfg : LaneConfig) (b : Block) (u : Nat) (bs : List Byte) :
    TakeParsed w.take (w.examine cfg b u bs).1.take := by
  unfold Work.examine
  generalize samplesIn cfg b u = is
  dsimp only
  induction is generalizing w with
  | nil => rfl
  | cons i is ih => exact (w.detect_parsed cfg _ _).trans (ih _)

theorem Work.finish_parsed (w : Work) (b : Block) : TakeParsed w.take (w.finish b).1.take := by
  unfold Work.finish
  split <;> rfl

theorem Work.acceptHeader_parsed (w : Work) (cfg : LaneConfig) (h : Header) (bs : List Byte) :
    TakeParsed w.take (w.acceptHeader cfg h bs).1.take := by
  have h1 : TakeParsed w.take (w.accountSeq h.seq).take := by
    unfold Work.accountSeq
    split
    · rfl
    · dsimp only; split <;> rfl
  have h2 : TakeParsed (w.accountSeq h.seq).take (((w.accountSeq h.seq).addHeaderFlags cfg h).axialRecord h).take := rfl
  exact (h1.trans h2).trans ((Work.examine_parsed _ cfg _ 0 bs).trans (Work.finish_parsed _ _))

theorem Work.takeUnit_parsed (w : Work) (cfg : LaneConfig) (bs : List Byte) : TakeParsed w.take (w.takeUnit cfg bs).1.take := by
  unfold Work.takeUnit
  split
  · exact (Work.examine_parsed _ cfg _ _ bs).trans (Work.finish_parsed _ _)
  · split
    · exact w.acceptHeader_parsed cfg _ bs
    · rfl
  · split
    · exact w.acceptHeader_parsed cfg _ bs
    · rfl

/-! ## Lane and take tweaks -/

/-- A timer started stands below its timeout (R65). -/
theorem startTimer_lt {c timeout : Nat} (h : startTimer timeout = some c) : c < timeout := by
  unfold startTimer at h
  split at h
  · cases h
  · cases h; omega

/-- An enabled lane whose last sequence, pause by a watch, home state, stray mark, parser and detector change. -/
theorem Books.laneTweak (h : Books s) (hd : (s.lane n).state ≠ .disabled) {l : Lane}
    (hl : l = { s.lane n with lastSeq := l.lastSeq, pauseWatch := l.pauseWatch, home := l.home, stray := l.stray, track := l.track }) :
    LaneTweak (s.lane n) l := by
  rw [hl]
  exact ⟨rfl, rfl, rfl, rfl, rfl, rfl, h.fields.idle n, h.fields.drain n, h.fields.admission n, h.fields.final n,
    fun e => absurd e hd⟩

/-- A lane written is touched: its running timer starts again. -/
theorem Books.touch_tweak (h : Books s) (n : Fin 8) : LaneTweak (s.lane n) (s.lane n).touch := by
  have hi := h.fields.idle n
  have hd := h.fields.drain n
  unfold Lane.touch
  split
  next hst => exact ⟨rfl, rfl, rfl, rfl, rfl, rfl, fun c hc => ⟨hst, startTimer_lt hc⟩, hd, h.fields.admission n,
    h.fields.final n, fun e => by rw [hst] at e; cases e⟩
  next hst => exact ⟨rfl, rfl, rfl, rfl, rfl, rfl, hi, fun c hc => ⟨hst, startTimer_lt hc⟩, h.fields.admission n,
    h.fields.final n, fun e => by rw [hst] at e; cases e⟩
  all_goals exact ⟨rfl, rfl, rfl, rfl, rfl, rfl, hi, hd, h.fields.admission n, h.fields.final n, fun _ => rfl⟩

/-- A lane with a current take is enabled. -/
theorem Books.enabled_of_current (h : Books s) (hk : (s.lane n).current = some k) : (s.lane n).state ≠ .disabled := by
  obtain e | e := (Lane.recording_iff _).1 (h.current hk).2.2 <;> simp [e]

/-- A current take is not FREE. -/
theorem Books.busy_of_current (h : Books s) (hk : (s.lane n).current = some k) : (s.takeAt k).state ≠ .free := by
  obtain e | e := (TakeState.recording_iff _).1 (h.current hk).2.1 <;> simp [e]

theorem Moves.flagTake (hb : (s.takeAt k).state ≠ .free) (f : Flag) : Moves s (s.flagTake k f) :=
  .single (.tweakTake k ⟨hb, rfl, rfl, rfl, rfl, rfl, rfl⟩ rfl rfl)

theorem Moves.strayWrite (h : Books s) (hd : (s.lane n).state ≠ .disabled) (src : Source) : Moves s (s.strayWrite n src) := by
  unfold State.strayWrite
  split
  · exact .refl
  · exact (Move.tweakLane n (h.laneTweak hd rfl)).moves.post _

theorem Moves.rewriteUnit (hb : (s.takeAt k).state ≠ .free) (off : Nat) (data : List Byte) :
    Moves s (s.rewriteUnit k off data).1 := .single (.tweakTake k ⟨hb, rfl, rfl, rfl, rfl, rfl, rfl⟩ rfl rfl)

/-! ## A unit in order -/

/-- The segment of an in-order write: what is taken from the pool and what the take then has. -/
theorem State.segmentFor_taken (h : Books s) {off : Nat} (ht : s.segmentFor k off = some t) :
    ∃ p chain remaining, SegmentTaken s.pool (s.takeAt k) off p chain remaining ∧
      t = { (s.setPool p).setTake k { s.takeAt k with chain := chain, remaining := remaining } with
            notices := t.notices, arbiter := t.arbiter } := by
  unfold State.segmentFor at ht
  split at ht
  next hoff =>
    unfold State.allocate at ht
    split at ht
    next => cases ht
    next seg rest hfree =>
      split at ht
      next hown =>
        cases ht
        exact ⟨_, _, _, .own hoff hfree hown, rfl⟩
      next hown =>
        split at ht
        next hun =>
          cases ht
          have hz : (s.takeAt k).remaining = 0 := by omega
          have hset := State.latchTest_settled (s := s.giveSegment k seg rest false) false h.latch.marks
          refine ⟨((s.giveSegment k seg rest false).latchTest false).pool, _, _, .shared hoff hfree hz ?_ ?_ hset, ?_⟩
          · simp only [Pool.unreserved] at hun; omega
          · rw [State.latchTest_frame]; rfl
          · rw [State.latchTest_frame]; rfl
        next => cases ht
  next hoff =>
    cases ht
    refine ⟨s.pool, _, _, .inside hoff, ?_⟩
    have := State.setTake_takeAt h.takesForm k
    show s = { s.setTake k (s.takeAt k) with notices := s.notices, arbiter := s.arbiter }
    rw [this]

/-- An in-order write recorded, up to the completion of a block. -/
theorem Moves.recordUnit (h : Books s) {off : Nat} (hk : (s.lane n).current = some k) (hoff : off = (s.lane n).nextOffset)
    (hlt : off < Config.apertureBytes) (ht : s.segmentFor k off = some t) (data : List Byte) :
    Moves s (t.recordUnit n k (t.parseUnit n k data).1) := by
  obtain ⟨p, chain, remaining, hseg, hteq⟩ := State.segmentFor_taken h ht
  have hks := h.slot (h.busy_of_current hk)
  have hlane : t.lane n = s.lane n := by rw [hteq]; rfl
  have htake : t.takeAt k = { s.takeAt k with chain := chain, remaining := remaining } := by
    rw [hteq]; exact State.takeAt_setTake_self (s := s.setPool p) h.takesForm k _
  have hpar := Work.takeUnit_parsed { track := (t.lane n).track, take := t.takeAt k } (t.lane n).cfg data
  rw [State.recordUnit, State.parseUnit]
  set w := (({ track := (t.lane n).track, take := t.takeAt k } : Work).takeUnit (t.lane n).cfg data).1 with hw
  unfold TakeParsed at hpar
  dsimp only at hpar
  rw [htake] at hpar
  set x : Take := { w.take with written := w.take.written + 64 } with hx
  set l : Lane := { t.lane n with track := w.track, nextOffset := (t.lane n).nextOffset + 64 } with hl
  have htweak := h.laneTweak (n := n) (l := { l with nextOffset := (s.lane n).nextOffset }) (h.enabled_of_current hk)
    (by rw [hl, hlane])
  have hmove := Move.store (s := s) n k (p := p) (x := x) (l := l) hk (by rw [← hoff, hx, hpar]; exact hseg)
    (by rw [hx, hpar]; exact ⟨h.busy_of_current hk, rfl, rfl, rfl, rfl, rfl, rfl⟩) (by rw [hx, hpar]) (by rw [hx, hpar])
    htweak (by rw [hl, hlane]) (by rw [← hoff]; exact hlt)
  refine .tail (.single hmove) (.keep ?_)
  have hset : ∀ a b : Take, ((s.setPool p).setTake k a).setTake k b = (s.setPool p).setTake k b := fun a b =>
    State.setTake_setTake (s := s.setPool p) h.takesForm a b hks
  have hst : t.setTake k x = { (s.setPool p).setTake k x with notices := t.notices, arbiter := t.arbiter } := by
    conv_lhs => rw [hteq]
    rw [← hset { s.takeAt k with chain := chain, remaining := remaining } x]
    rfl
  rw [hst]
  exact ⟨rfl, rfl, rfl, rfl, rfl, rfl, rfl, rfl⟩

/-- A completed block reported to its lane, with the seal that it may cause (R62). -/
theorem Moves.blockCompleted (h : Books s) (hk : (s.lane n).current = some k) (q : BitVec 16) :
    Moves s (s.blockCompleted n q) := by
  have h1 : Moves s (s.setLane n { s.lane n with lastSeq := some q }) :=
    (Move.tweakLane n (h.laneTweak (h.enabled_of_current hk) rfl)).moves
  unfold State.blockCompleted
  dsimp only
  split
  · exact h1.trans (Moves.sealTake (h1.books h) (by rw [State.lane_setLane_self]; exact hk) rfl false)
  · exact h1

theorem Moves.inOrderWrite (h : Books s) {off : Nat} (hk : (s.lane n).current = some k) (hoff : off = (s.lane n).nextOffset)
    (hlt : off < Config.apertureBytes) (data : List Byte) : Moves s (s.inOrderWrite n k off data).1 := by
  unfold State.inOrderWrite
  split
  next => exact Moves.flagTake (h.busy_of_current hk) _
  next t ht =>
    have h1 := Moves.recordUnit h hk hoff hlt ht data
    have hcur : ((t.recordUnit n k (t.parseUnit n k data).1).lane n).current = some k := by
      obtain ⟨p, chain, remaining, -, hteq⟩ := State.segmentFor_taken h ht
      rw [State.recordUnit, State.lane_setLane_self]
      show (t.lane n).current = _
      rw [hteq]; exact hk
    dsimp only
    split
    · exact h1.trans (Moves.blockCompleted (h1.books h) hcur _)
    · exact h1

theorem Moves.takenWrite (h : Books s) {off : Nat} (hk : (s.lane n).current = some k) (hlt : off < Config.apertureBytes)
    (data : List Byte) : Moves s (s.takenWrite n k off data).1 := by
  have h1 : Moves s (s.setLane n (s.lane n).touch) := (Move.tweakLane n (h.touch_tweak n)).moves
  have htouch := h.touch_tweak n
  have hb : ((s.setLane n (s.lane n).touch).takeAt k).state ≠ .free := h.busy_of_current hk
  unfold State.takenWrite
  dsimp only
  split
  · exact h1
  · split
    next hoff =>
      refine h1.trans (Moves.inOrderWrite (h1.books h) ?_ ?_ hlt data)
      · rw [State.lane_setLane_self, htouch.current, hk]
      · rw [State.lane_setLane_self, htouch.nextOffset, hoff]
    · split
      · exact h1.trans (Moves.rewriteUnit hb off data)
      · exact h1.trans (Moves.flagTake hb _)

/-- A lane write is a succession of moves (R69). -/
theorem Moves.laneWrite (h : Books s) (n : Fin 8) (src : Source) {off : Nat} (hlt : off < Config.apertureBytes)
    (data : List Byte) : Moves s (s.laneWrite n src off data).1 := by
  unfold State.laneWrite
  split
  next => exact .refl
  next hd =>
    split
    next => exact Moves.strayWrite h hd src
    next k hk =>
      have hcur : (s.lane n).current = some k := by
        split at hk
        · exact hk
        · cases hk
      have hb := h.busy_of_current hcur
      split
      · exact Moves.flagTake hb _
      · split
        · exact Moves.flagTake hb _
        · exact Moves.takenWrite h hcur hlt data

end Sys2Proof.Machine
end

section
/-! Markers, samples, periods and watch hits as moves. -/

namespace Sys2Proof.Machine

variable {s t : State} {n : Fin 8} {k : Nat} {p : TubePos} {d : Direction}

/-! ## Starts -/

/-- The start checks, all passed: no load runs, and no other lane claims the tube. -/
theorem State.startCheck_none (hc : s.startCheck n p = none) :
    s.loader.running = false ∧ ∀ m, (s.tubeAt p.index).claim = some m → m = n := by
  unfold State.startCheck at hc
  dsimp only at hc
  split at hc
  · cases hc
  split at hc
  · cases hc
  split at hc
  · cases hc
  next hl =>
    refine ⟨Bool.eq_false_iff.2 hl, fun m hm => ?_⟩
    rw [hm] at hc
    dsimp only at hc
    by_contra hne
    rw [if_neg hne] at hc
    cases hc

theorem State.countOut_frame (n : Fin 8) : s.countOut n = { s with
    pool := { s.pool with reserved := s.pool.reserved + (s.lane n).cfg.reservation, armed := (s.countOut n).pool.armed }
    notices := (s.countOut n).notices, arbiter := (s.countOut n).arbiter } := by
  unfold State.countOut
  rw [State.latchTest_frame]

/-- A start admitted at once. -/
theorem Moves.openAtOnce (h : Books s) (ha : (s.lane n).state = .armed) (hl : s.loader.running = false)
    (hc : ∀ m, (s.tubeAt p.index).claim = some m → m = n) (hq : s.pool.queue = [])
    (hu : (s.lane n).cfg.reservation ≤ s.pool.unreserved) (hk : s.freeSlot [] = some k) :
    Moves s (((s.claimTube n p).countOut n).openTake { lane := n, slot := k, pos := p, direction := d }) := by
  obtain ⟨hs, hlt, -, hfree, hleast⟩ := (State.freeSlot_given _ _).1 hk
  have hframe := State.countOut_frame (s := s.claimTube n p) n
  have hmove := Move.opens (s := s) { lane := n, slot := k, pos := p, direction := d } (q := ((s.claimTube n p).countOut n).pool)
    (x := { s.tubeAt p.index with claim := some n }) hl ⟨by simpa using hs, hlt, hfree, fun j hj => hleast j hj (by simp)⟩
    (by rw [hframe]; simp only [hq]; rw [List.filter_nil, ← hq]; rfl) hu
    (State.latchTest_settled _ h.latch.marks) rfl (.inr ⟨ha, hc, rfl⟩)
  refine .tail (.single hmove) (.keep ?_)
  rw [hframe]
  exact ⟨rfl, rfl, rfl, rfl, rfl, rfl, rfl, rfl⟩

/-- A start that finds no slot: its tube loses the claim again. -/
theorem Moves.startRefused (h : Books s) (ha : (s.lane n).state = .armed)
    (hc : ∀ m, (s.tubeAt p.index).claim = some m → m = n) (c : RefuseCause) :
    Moves s (((s.claimTube n p).refuse n p c).clearClaim p) := by
  refine .tail (.single (.unclaim n p ha hc)) (.keep ?_)
  have hclaimed : (s.claimTube n p).tubeAt p.index = { s.tubeAt p.index with claim := some n } :=
    State.tubeAt_setTube_self h.tubesForm _ _
  have htwice := State.setTube_setTube h.tubesForm { s.tubeAt p.index with claim := some n }
    { s.tubeAt p.index with claim := none } p.index_lt
  have htubes : (((s.claimTube n p).refuse n p c).clearClaim p).tubes = (s.unclaim p).tubes := by
    show ((s.claimTube n p).setTube p.index { (s.claimTube n p).tubeAt p.index with claim := none }).tubes = _
    rw [hclaimed, State.claimTube, htwice]
    rfl
  exact ⟨rfl, rfl, htubes, rfl, rfl, rfl, rfl, rfl⟩

theorem Moves.deferStart (ha : (s.lane n).state = .armed) (hl : s.loader.running = false)
    (hc : ∀ m, (s.tubeAt p.index).claim = some m → m = n) : Moves s ((s.claimTube n p).deferStart n p d) :=
  (Move.defer (s := s) n p d hl ha hc rfl fun _ e => startTimer_lt e).moves.post _

theorem Moves.requestAdmission (h : Books s) (ha : (s.lane n).state = .armed) (hc : s.startCheck n p = none) :
    Moves s ((s.claimTube n p).requestAdmission n p d) := by
  obtain ⟨hl, hclaim⟩ := State.startCheck_none hc
  unfold State.requestAdmission
  split
  next hq =>
    split
    next k hk => exact Moves.openAtOnce h ha hl hclaim hq.1 hq.2 hk
    next => exact Moves.startRefused h ha hclaim .tableFull
  next => exact Moves.deferStart ha hl hclaim

theorem Moves.replaceHeld (h : Books s) (hw : (s.lane n).state = .waiting) (hc : s.startCheck n p = none) :
    Moves s (s.replaceHeld n p d) := by
  obtain ⟨q, e, hq⟩ := h.held_of_waiting hw
  have hmove := Move.replace (s := s) n q p e d hq (State.startCheck_none hc).2
  refine .tail (.single hmove) (.keep ?_)
  unfold State.replaceHeld
  rw [hq]
  have hpost : (s.claimTube n p).postHeld n .replaced = (s.claimTube n p).refuse n q .replaced := by
    have : ((s.claimTube n p).lane n).held = some (q, e) := hq
    rw [State.postHeld, this]
  rw [hpost]
  by_cases hqp : q = p
  · simp only [hqp, if_true]
    exact ⟨rfl, rfl, rfl, rfl, rfl, rfl, rfl, rfl⟩
  · simp only [hqp, if_false]
    exact ⟨rfl, rfl, rfl, rfl, rfl, rfl, rfl, rfl⟩

theorem Moves.tubeStart (h : Books s) (n : Fin 8) (p : TubePos) (d : Direction) : Moves s (s.tubeStart n p d).1 := by
  unfold State.tubeStart
  cases hst : (s.lane n).state with
  | disabled => exact .refl
  | armed =>
    cases hc : s.startCheck n p with
    | some c => exact Moves.post _ .refl
    | none => exact Moves.requestAdmission h hst hc
  | waiting =>
    cases hc : s.startCheck n p with
    | some c => exact Moves.post _ .refl
    | none => exact Moves.replaceHeld h hst hc
  | opened => exact Moves.post _ .refl
  | closing => exact Moves.post _ .refl

/-! ## Ends, abandons and home sense -/

theorem Moves.cancelHeld (h : Books s) (hw : (s.lane n).state = .waiting) (c : RefuseCause) :
    Moves s ((s.refuseHeld n c).admissionCheck) := by
  have h1 := Moves.refuseHeld h hw c
  exact h1.trans (Moves.admissionCheck (h1.books h))

theorem Books.current_of_state (h : Books s) (hst : (s.lane n).state = .opened ∨ (s.lane n).state = .closing) :
    ∃ k, (s.lane n).current = some k := h.current_of_recording ((Lane.recording_iff _).2 hst)

theorem Moves.endOpen (h : Books s) (hst : (s.lane n).state = .opened) (f : BitVec 16) : Moves s (s.endOpen n f) := by
  obtain ⟨k, hk⟩ := h.current_of_state (.inl hst)
  unfold State.endOpen
  split
  · exact Moves.sealTake h hk rfl false
  · rw [hk]; exact .single (.closing n k _ hk hst)

theorem Moves.endClosing (h : Books s) (hst : (s.lane n).state = .closing) (f : BitVec 16) : Moves s (s.endClosing n f).1 := by
  obtain ⟨k, hk⟩ := h.current_of_state (.inr hst)
  unfold State.endClosing
  split
  · exact .refl
  · split
    · exact Moves.sealTake h hk rfl false
    · refine .single (.tweakLane n ⟨rfl, rfl, rfl, rfl, rfl, rfl, h.fields.idle n, fun c hc => ⟨hst, startTimer_lt hc⟩,
        h.fields.admission n, fun _ => hst, fun e => ?_⟩)
      rw [hst] at e; cases e

theorem Moves.tubeEnd (h : Books s) (n : Fin 8) (p : TubePos) (f : BitVec 16) : Moves s (s.tubeEnd n p f).1 := by
  unfold State.tubeEnd
  cases hst : (s.lane n).state with
  | disabled => exact .refl
  | armed => exact .refl
  | waiting =>
    dsimp only
    split
    · exact Moves.cancelHeld h hst .cancelled
    · exact .refl
  | opened =>
    dsimp only
    split
    · exact Moves.endOpen h hst f
    · exact .refl
  | closing =>
    dsimp only
    split
    · exact Moves.endClosing h hst f
    · exact .refl

theorem Moves.abandon (h : Books s) (n : Fin 8) : Moves s (s.abandon n).1 := by
  unfold State.abandon
  cases hst : (s.lane n).state with
  | disabled => exact .refl
  | armed => exact .refl
  | waiting => exact Moves.cancelHeld h hst .cancelled
  | opened =>
    obtain ⟨k, hk⟩ := h.current_of_state (.inl hst)
    exact Moves.sealTake h hk rfl false
  | closing =>
    obtain ⟨k, hk⟩ := h.current_of_state (.inr hst)
    exact Moves.sealTake h hk rfl false

theorem Moves.homeSensed (n : Fin 8) : Moves s (s.homeSensed n) := by
  unfold State.homeSensed
  split
  next k hst hk => exact .single (.closing n k none hk hst)
  next => exact .refl

/-! ## Markers -/

theorem Moves.plugMarker (p : TubePos) (g : Plug) : Moves s (s.plugMarker p g).1 := by
  unfold State.plugMarker
  split
  · exact .refl
  · split
    · exact .refl
    · exact .single (.plug p g)

theorem Moves.dispatchMarker (h : Books s) (src : Source) (m : Marker) : Moves s (s.dispatchMarker src m).1 := by
  cases m with
  | tubeStart n p d =>
    simp only [State.dispatchMarker, State.laneMarker]
    split
    · exact .refl
    · exact Moves.tubeStart h n p d
  | tubeEnd n p f =>
    simp only [State.dispatchMarker, State.laneMarker]
    split
    · exact .refl
    · exact Moves.tubeEnd h n p f
  | abandon n =>
    simp only [State.dispatchMarker, State.laneMarker]
    split
    · exact .refl
    · exact Moves.abandon h n
  | plug p =>
    simp only [State.dispatchMarker, State.plugAuthority]
    split
    · exact Moves.plugMarker p _
    · exact .refl
  | unplug p =>
    simp only [State.dispatchMarker, State.plugAuthority]
    split
    · exact Moves.plugMarker p _
    · exact .refl

theorem Moves.markerWrite (h : Books s) (src : Source) (unit : Nat) (bs : List Byte) : Moves s (s.markerWrite src unit bs) := by
  unfold State.markerWrite
  split
  next => exact Moves.post _ .refl
  next m _ =>
    have hm := Moves.dispatchMarker h src m
    split
    next t e => rw [e] at hm; exact hm
    next t c e => rw [e] at hm; exact Moves.post _ hm

/-! ## Watch hits -/

theorem Moves.holdLane (h : Books s) (n : Fin 8) : Moves s (s.holdLane n) := by
  unfold State.holdLane
  split
  next he => exact .single (.tweakLane n (h.laneTweak (by simpa [Lane.enabled] using he) rfl))
  next => exact .refl

theorem Moves.watchAct (h : Books s) (x : RigTxn) (u : Fin 4) : Moves s (s.watchAct x u) := by
  have h1 : SameBooks s { s with watches := s.watches.set u (s.watches[u].hit x) } :=
    ⟨rfl, rfl, rfl, rfl, rfl, rfl, rfl, rfl⟩
  unfold State.watchAct
  dsimp only
  by_cases hn : s.watches[u].notice = true
  · simp only [hn, if_true]
    split
    · exact (h1.moves.post _).trans (Moves.holdLane ((h1.moves.post _).books h) _)
    · exact h1.moves.post _
  · simp only [hn]
    split
    · exact h1.moves.trans (Moves.holdLane (h.same h1) _)
    · exact h1.moves

theorem Moves.watch (h : Books s) (x : RigTxn) : Moves s (s.watch x) := by
  unfold State.watch
  generalize s.watchHits x = us
  induction us generalizing s with
  | nil => exact .refl
  | cons u us ih =>
    have h1 := Moves.watchAct h x u
    exact h1.trans (ih (h1.books h))

/-! ## Periods and samples -/

/-- A timer after a period end stands where it stood, below its timeout (R65). -/
theorem advanceTimer_some {timeout c : Nat} {o : Option Nat} (h : (advanceTimer timeout o).1 = some c) :
    (∃ b, o = some b) ∧ c < timeout := by
  unfold advanceTimer at h
  cases o with
  | none => cases h
  | some b =>
    dsimp only at h
    split at h
    · cases h
    · cases h
      exact ⟨⟨b, rfl⟩, by omega⟩

theorem Books.advance_tweak (h : Books s) (n : Fin 8) : LaneTweak (s.lane n) (s.lane n).advance := by
  refine ⟨rfl, rfl, rfl, rfl, rfl, rfl, fun c hc => ?_, fun c hc => ?_, fun c hc => ?_, h.fields.final n, fun e => ?_⟩
  · obtain ⟨⟨b, hb⟩, hlt⟩ := advanceTimer_some hc
    exact ⟨(h.fields.idle n b hb).1, hlt⟩
  · obtain ⟨⟨b, hb⟩, hlt⟩ := advanceTimer_some hc
    exact ⟨(h.fields.drain n b hb).1, hlt⟩
  · obtain ⟨⟨b, hb⟩, hlt⟩ := advanceTimer_some hc
    exact ⟨(h.fields.admission n b hb).1, hlt⟩
  · rw [(h.fields.disabled n e).1]; rfl

theorem Moves.lanePeriodEnd (h : Books s) (n : Fin 8) : Moves s (s.lanePeriodEnd n) := by
  have h1 : Moves s (s.setLane n (s.lane n).advance) := (Move.tweakLane n (h.advance_tweak n)).moves
  have hcur : ∀ {k}, (s.lane n).current = some k → ((s.setLane n (s.lane n).advance).lane n).current = some k := fun hk => by
    rw [State.lane_setLane_self]; exact hk
  unfold State.lanePeriodEnd
  dsimp only
  split
  next hi =>
    obtain ⟨k, hk⟩ := h.current_of_state (n := n) (.inl (by simp_all [Lane.idleExpires]))
    exact h1.trans (Moves.sealTake (h1.books h) (hcur hk) rfl false)
  split
  next hi =>
    obtain ⟨k, hk⟩ := h.current_of_state (n := n) (.inr (by simp_all [Lane.drainExpires]))
    refine h1.trans (Moves.sealTake (h1.books h) (hcur hk) ?_ false)
    unfold Lane.drainCause
    split <;> rfl
  split
  next hi =>
    have hw : (s.lane n).state = .waiting := by simp_all [Lane.admissionExpires]
    exact h1.trans (Moves.cancelHeld (h1.books h) (by rw [State.lane_setLane_self]; exact hw) .admissionTimeout)
  · exact h1

/-- The line of an enabled lane changes. -/
theorem Move.line (hd : (s.lane n).state ≠ .disabled) (l : LaneLine) : Move s (s.setLaneLine n l) :=
  .lines _ fun _ hm => State.laneLine_setLaneLine_ne s l fun e => hd (e ▸ hm)

theorem Moves.sampleLane (h : Books s) (hd : (s.lane n).state ≠ .disabled) (level : Level) : Moves s (s.sampleLane n level) := by
  set l : Lane := { s.lane n with home := homeAfter (s.lane n).home (s.laneLine n).prev (sampleOf level) } with hl
  have h1 : Moves s (s.setLane n l) := (Move.tweakLane n (h.laneTweak hd rfl)).moves
  have h2 : Moves s ((s.setLane n l).setLaneLine n { s.laneLine n with prev := some (sampleOf level) }) := by
    refine h1.tail (Move.line ?_ _)
    rw [State.lane_setLane_self]
    exact hd
  unfold State.sampleLane
  dsimp only
  split
  · exact h2.trans (Moves.homeSensed n)
  · exact h2

/-- Events come to the enabled lanes alone. -/
theorem Move.bringDue (es : List LineEvent) : Move s (s.bringDue es) := by
  refine .lines _ fun m hm => ?_
  have := State.bringDue_laneLine (s := s) es m
  rw [if_neg (by simp [Lane.enabled, hm])] at this
  exact this

theorem Moves.clockCycle : Moves s s.clockCycle := by
  unfold State.clockCycle
  split
  · exact .single (.keep ⟨rfl, rfl, rfl, rfl, rfl, rfl, rfl, rfl⟩)
  · have h1 : Moves s { s.notTaken with timebase := s.timebase.afterCycle.1 } :=
      SameBooks.moves ⟨rfl, rfl, rfl, rfl, rfl, rfl, rfl, rfl⟩
    exact h1.tail (Move.bringDue _)

theorem Moves.timely (n : Fin 8) : Moves s (s.timely n) := by
  unfold State.timely
  split
  · have h1 : Moves s { s with timebase := s.timebase.toEvent.1 } := SameBooks.moves ⟨rfl, rfl, rfl, rfl, rfl, rfl, rfl, rfl⟩
    exact h1.tail (Move.bringDue _)
  · exact .refl

/-- A time event that comes to an enabled lane is taken. -/
theorem Moves.takeTimeEvent (hd : (s.lane n).state ≠ .disabled) :
    Moves s (s.takeTimeEvent n) ∧ (s.takeTimeEvent n).lane n = s.lane n := by
  have hl : (s.timely n).lane n = s.lane n := by rw [State.timely_frame]; rfl
  refine ⟨((Moves.timely n).tail (.keep ?_)).tail (Move.line (n := n) ?_ _), hl⟩
  · exact ⟨rfl, rfl, rfl, rfl, rfl, rfl, rfl, rfl⟩
  · rw [State.lane_takeEvent, hl]; exact hd

end Sys2Proof.Machine
end

section
/-! What a command can change of the books: a succession of moves, the map, a lane's configuration, or a lane's enabling. The end of a
power-on reset alone gives all of it anew. -/

namespace Sys2Proof.Machine

variable {s t u : State} {n : Fin 8} {k : Nat}

/-! ## The changes of a command -/

/-- Map fields of tubes, and the loader's progress, have changed. -/
structure MapChanged (s t : State) : Prop where
  lanes : t.lanes = s.lanes
  takes : t.takes = s.takes
  pool : t.pool = s.pool
  laneLines : t.laneLines = s.laneLines
  serialCounter : t.serialCounter = s.serialCounter
  windows : t.windows = s.windows
  form : s.tubesForm → t.tubesForm
  tubes : s.tubesForm → ∀ i,
    t.tubeAt i = (s.tubeAt i).mapped (t.tubeAt i).presence (t.tubeAt i).plug (t.tubeAt i).expected

/-- What a command can make of the books. -/
inductive Change (s t : State) : Prop
  /-- A succession of moves. -/
  | moves : Moves s t → Change s t
  /-- A write of the map, which the campaign lock forbids, or a unit of a map load. -/
  | maps : s.locked = false ∨ s.loader.read = .live → MapChanged s t → LoadInRange t → Change s t
  /-- A DISABLED lane is configured. -/
  | configured (n : Fin 8) (e : LaneConfigEntry) : (s.lane n).state = .disabled → laneConfigInRange e = true →
      SameBooks (s.setLane n { s.lane n with cfg := LaneConfig.ofEntry e }) t → Change s t
  /-- A DISABLED lane with a consistent configuration is enabled. -/
  | armed (n : Fin 8) : s.mode = .engaged → (s.lane n).state = .disabled → (s.lane n).cfg.consistent = true →
      SameBooks (State.armLane n s) t → Change s t

theorem SameBooks.trans (h : SameBooks s t) (h' : SameBooks t u) : SameBooks s u :=
  ⟨h'.lanes.trans h.lanes, h'.takes.trans h.takes, h'.tubes.trans h.tubes, h'.pool.trans h.pool, h'.loader.trans h.loader,
    h'.laneLines.trans h.laneLines, h'.serialCounter.trans h.serialCounter, h'.windows.trans h.windows⟩

theorem SameBooks.setLane (h : SameBooks s t) (n : Fin 8) (l : Lane) : SameBooks (s.setLane n l) (t.setLane n l) :=
  ⟨congrArg (·.set n l) h.lanes, h.takes, h.tubes, h.pool, h.loader, h.laneLines, h.serialCounter, h.windows⟩

theorem SameBooks.armLane (h : SameBooks s t) (n : Fin 8) : SameBooks (State.armLane n s) (State.armLane n t) := by
  have h1 := h.setLane n { Lane.disabled (s.lane n).cfg with state := .armed }
  unfold State.armLane
  rw [h.lane n]
  exact ⟨h1.lanes, h1.takes, h1.tubes, h1.pool, h1.loader, congrArg (·.set n LaneLine.idle) h1.laneLines, h1.serialCounter,
    h1.windows⟩

theorem MapChanged.congr {s' t' : State} (hs : SameBooks s s') (h : MapChanged s' t') (ht : SameBooks t' t) : MapChanged s t where
  lanes := ht.lanes.trans (h.lanes.trans hs.lanes)
  takes := ht.takes.trans (h.takes.trans hs.takes)
  pool := ht.pool.trans (h.pool.trans hs.pool)
  laneLines := ht.laneLines.trans (h.laneLines.trans hs.laneLines)
  serialCounter := ht.serialCounter.trans (h.serialCounter.trans hs.serialCounter)
  windows := ht.windows.trans (h.windows.trans hs.windows)
  form hf := by
    have := h.form (by rw [State.tubesForm, hs.tubes]; exact hf)
    rw [State.tubesForm, ht.tubes]; exact this
  tubes hf i := by
    have := h.tubes (by rw [State.tubesForm, hs.tubes]; exact hf) i
    rw [ht.tubeAt, this, hs.tubeAt]; rfl

/-- A change reads the mode, the lock and the books of the state it is made in, and gives the books alone. -/
theorem Change.congr {s' t' : State} (hs : SameBooks s s') (hm : s'.mode = s.mode) (hl : s'.locked = s.locked)
    (h : Change s' t') (ht : SameBooks t' t) : Change s t := by
  cases h with
  | moves h => exact .moves ((hs.moves.trans h).tail (.keep ht))
  | maps hc h hr =>
    exact .maps (by rwa [hl, hs.loader] at hc) (h.congr hs ht) (hr.congr ht.loader fun n => by rw [ht.lane]; exact id)
  | configured n e hd he h => 
    rw [hs.lane] at hd h
    exact .configured n e hd he ((hs.setLane n _).trans (h.trans ht))
  | armed n hmode hd hc h =>
    exact .armed n (by rwa [← hm]) (by rwa [← hs.lane]) (by rwa [← hs.lane]) ((hs.armLane n).trans (h.trans ht))

/-! ## Requests -/

theorem SameBooks.takeEvent : SameBooks s s.takeEvent := ⟨rfl, rfl, rfl, rfl, rfl, rfl, rfl, rfl⟩

theorem SameBooks.notTaken : SameBooks s s.notTaken := ⟨rfl, rfl, rfl, rfl, rfl, rfl, rfl, rfl⟩

theorem SameBooks.clockBytes (bs : List Byte) : SameBooks s (s.clockBytes bs) := by
  rw [State.clockBytes_frame]
  exact ⟨rfl, rfl, rfl, rfl, rfl, rfl, rfl, rfl⟩

/-- A request not taken changes nothing that the books read. -/
theorem SameBooks.ignoreRequest (c : Instr) : SameBooks s (s.ignoreRequest c) := SameBooks.notTaken.trans (.clockBytes _)

theorem SameBooks.reply (c : Instr) (e : Status) (payload : List Byte) : SameBooks s (s.reply c e payload) :=
  ⟨rfl, rfl, rfl, rfl, rfl, rfl, rfl, rfl⟩

/-- A request makes the moves of its act. -/
theorem Moves.request {c : Instr} {act : State → State × Status} (ha : Moves s.takeEvent (act s.takeEvent).1)
    (ht : s.request c act = .next t) : Moves s t := by
  unfold State.request at ht
  split at ht
  · cases ht
    exact (SameBooks.takeEvent.moves.trans ha).tail (.keep (.reply _ _ _))
  · cases ht
    exact (SameBooks.ignoreRequest c).moves

theorem Change.request {c : Instr} {act : State → State × Status} (ha : Change s.takeEvent (act s.takeEvent).1)
    (ht : s.request c act = .next t) : Change s t := by
  unfold State.request at ht
  split at ht
  · cases ht
    exact ha.congr SameBooks.takeEvent rfl rfl (.reply _ _ _)
  · cases ht
    exact .moves (SameBooks.ignoreRequest c).moves

theorem Moves.checked {checks : List (Bool × Status)} {f : State → State} (h : firstFailing checks = none → Moves s (f s)) :
    Moves s (s.checked checks f).1 := by
  unfold State.checked
  split
  · exact .refl
  next e => exact h e

theorem Moves.keep (h : SameBooks s t) : Moves s t := h.moves

theorem Moves.laneCommand {index : BitVec 16} {act : Fin 8 → State × Status} (h : ∀ n, Moves s (act n).1) :
    Moves s (s.laneCommand index act).1 := by
  unfold State.laneCommand
  split
  · exact .refl
  · exact h _

theorem Moves.amend (index : BitVec 16) (checks : List (Bool × Status)) (f : Amendment → Amendment) :
    Moves s (s.amend index checks f).1 := by
  unfold State.amend
  split
  · exact Moves.checked fun _ => Moves.keep ⟨rfl, rfl, rfl, rfl, rfl, rfl, rfl, rfl⟩
  · exact .refl

/-! ## The map load -/

/-- The loader's read or progress changes, its range kept. -/
theorem Moves.loader (h : Books s) (l : Loader) (hn : l.next = s.loader.next) (hr : l.remaining = s.loader.remaining)
    (hrun : l.running = true → s.loader.running = true) : Moves s { s with loader := l } :=
  .single (.load l ⟨by rw [hn, hr]; exact h.load.range, fun e => by rw [hr]; exact h.load.left (hrun e),
    fun e => h.load.idle (hrun e)⟩)

theorem Moves.stopLoad (h : Books s) : Moves s s.stopLoad := by
  have h1 := Moves.loader h { s.loader with running := false, read := if s.loader.read = .live then .discard else s.loader.read }
    rfl rfl nofun
  exact h1.tail (.keep ⟨rfl, rfl, rfl, rfl, rfl, rfl, rfl, rfl⟩)

/-- The checks of LOAD_MAP leave a load of tubes alone, with every lane at rest (R18). -/
theorem Moves.startLoad {base : Addr} {first count : Nat} (hb : (allLanes.any fun n => (s.lane n).busy) = false)
    (hr : loadInRange base first count = true) : Moves s (s.startLoad base first count) := by
  have hr' : first + count ≤ Config.tubeCount ∧ 1 ≤ count := by
    simp only [loadInRange, Bool.and_eq_true, decide_eq_true_eq] at hr
    tauto
  have hidle : ∀ n, (s.lane n).state = .disabled ∨ (s.lane n).state = .armed := fun n => by
    have := List.any_eq_false.1 hb n (mem_allLanes n)
    simp only [Lane.busy, Lane.recording, Bool.or_eq_true, decide_eq_true_eq] at this
    cases hst : (s.lane n).state <;> simp_all
  have h1 : Moves s { s with loader := { running := true, base := base, next := first, remaining := count, applied := 0,
                                         read := s.loader.read } } :=
    .single (.load _ ⟨hr'.1, fun _ => hr'.2, fun _ => hidle⟩)
  exact h1.tail (.keep ⟨rfl, rfl, rfl, rfl, rfl, rfl, rfl, rfl⟩)

theorem MapChanged.refl (s : State) : MapChanged s s := ⟨rfl, rfl, rfl, rfl, rfl, rfl, id, fun _ _ => rfl⟩

theorem MapChanged.trans (h : MapChanged s t) (h' : MapChanged t u) : MapChanged s u :=
  ⟨h'.lanes.trans h.lanes, h'.takes.trans h.takes, h'.pool.trans h.pool, h'.laneLines.trans h.laneLines,
    h'.serialCounter.trans h.serialCounter, h'.windows.trans h.windows, fun hf => h'.form (h.form hf), fun hf i => by
      rw [h'.tubes (h.form hf) i, h.tubes hf i]; rfl⟩

/-- One tube's map fields change. -/
theorem MapChanged.setTube {i : Nat} (hi : i < Config.tubeCount) (p : Presence) (g : Plug) (e : Nat) :
    MapChanged s (s.setTube i ((s.tubeAt i).mapped p g e)) := by
  refine ⟨rfl, rfl, rfl, rfl, rfl, rfl, fun hf => State.tubesForm_setTube hf _ hi, fun hf j => ?_⟩
  rw [State.tubeAt_setTube hf]
  split
  next e => rw [e]; rfl
  next => rfl

/-- The loader's progress changes, and whatever the books do not read. -/
theorem MapChanged.loader (h1 : t.lanes = s.lanes) (h2 : t.takes = s.takes) (h3 : t.tubes = s.tubes) (h4 : t.pool = s.pool)
    (h5 : t.laneLines = s.laneLines) (h6 : t.serialCounter = s.serialCounter) (h7 : t.windows = s.windows) : MapChanged s t :=
  ⟨h1, h2, h4, h5, h6, h7, fun hf => by rwa [State.tubesForm, h3], fun _ i => by simp only [State.tubeAt, h3]; rfl⟩

/-- Map fields in range are given to a tube. -/
theorem Tube.mapFields_mapped {x y : Tube} {p g e : Byte} (h : x.mapFields p g e = some y) :
    y = x.mapped y.presence y.plug y.expected := by
  unfold Tube.mapFields at h
  split at h
  · split at h
    · cases h; rfl
    · cases h
  · cases h

/-- An entry applied: its tube's map fields and the loader's progress change. -/
theorem State.applyEntry_changed {bs : List Byte} {off : Nat} (h : s.applyEntry bs off = some t)
    (hi : s.loader.next < Config.tubeCount) : MapChanged s t ∧ t.loader = { s.loader with
      next := s.loader.next + 1, remaining := s.loader.remaining - 1, applied := s.loader.applied + 1 } := by
  unfold State.applyEntry at h
  dsimp only at h
  split at h
  · split at h
    next x hx =>
      cases h
      refine ⟨?_, rfl⟩
      have h1 := MapChanged.setTube (s := s) hi x.presence x.plug x.expected
      rw [← Tube.mapFields_mapped hx] at h1
      exact h1.trans (.loader rfl rfl rfl rfl rfl rfl rfl)
    next => cases h
  · cases h

theorem LoadInRange.stopped (h : t.loader.next + t.loader.remaining ≤ Config.tubeCount) (hr : t.loader.running = false) :
    LoadInRange t := ⟨h, fun e => absurd e (by simp [hr]), fun e => absurd e (by simp [hr])⟩

/-- The entries of a unit applied, up to its end or its first bad entry. -/
theorem State.applyEntries_changed (bs : List Byte) (m j : Nat) (hr : s.loader.next + s.loader.remaining ≤ Config.tubeCount)
    (hm : m ≤ s.loader.remaining) (hl : s.loader.running = true → ∀ n, (s.lane n).state = .disabled ∨ (s.lane n).state = .armed) :
    MapChanged s (State.applyEntries bs m j s) ∧ LoadInRange (State.applyEntries bs m j s) := by
  induction m generalizing s j with
  | zero =>
    unfold State.applyEntries State.afterUnit
    split
    · exact ⟨.loader rfl rfl rfl rfl rfl rfl rfl, .stopped hr rfl⟩
    next h0 => exact ⟨.loader rfl rfl rfl rfl rfl rfl rfl, ⟨hr, fun _ => by
      show 0 < s.loader.remaining
      omega, hl⟩⟩
  | succ m ih =>
    unfold State.applyEntries
    split
    next t ht =>
      obtain ⟨h1, h2⟩ := State.applyEntry_changed ht (by omega)
      obtain ⟨h3, h4⟩ := ih (s := t) (j + 1) (by rw [h2]; dsimp only; omega) (by rw [h2]; dsimp only; omega)
        (fun e n => by
          have : t.lane n = s.lane n := by simp only [State.lane, h1.lanes]
          rw [this]
          rw [h2] at e
          exact hl e n)
      exact ⟨h1.trans h3, h4⟩
    next => exact ⟨.loader rfl rfl rfl rfl rfl rfl rfl, .stopped hr rfl⟩

end Sys2Proof.Machine
end

section
/-! Every command but the end of a power-on reset makes a change of the books, and so keeps them right (R9, R27, R49, R76, R77,
R82, R90). -/

namespace Sys2Proof.Machine

variable {s t u : State} {n : Fin 8} {k : Nat}

/-! ## The rig port -/

theorem SameBooks.respond : SameBooks s s.respond := ⟨rfl, rfl, rfl, rfl, rfl, rfl, rfl, rfl⟩

theorem SameBooks.join (f : Flight) : SameBooks s (s.join f) := ⟨rfl, rfl, rfl, rfl, rfl, rfl, rfl, rfl⟩

/-- An address classified to a lane comes with an offset in its aperture. -/
theorem classify_lane_offset {l : Layout} {a : Addr} {off : Nat} (h : classify l a = .lane n off) : off < Config.apertureBytes := by
  unfold classify at h
  split at h
  · cases h
    exact Nat.mod_lt _ (by norm_num)
  · split_ifs at h

theorem Moves.actOn (h : Books s) (x : RigTxn) (a : AddrClass) (ha : ∀ n off, a = .lane n off → off < Config.apertureBytes) :
    Moves s (s.actOn x a).1 := by
  unfold State.actOn
  cases a with
  | lane n off =>
    cases x.op with
    | write data => exact Moves.laneWrite h n _ (ha n off rfl) data
    | read size => exact .refl
  | marker unit =>
    cases x.op with
    | write data =>
      dsimp only
      split
      · exact Moves.markerWrite h _ unit data
      · exact .refl
    | read size => exact .refl
  | review w off => cases x.op <;> exact .refl
  | capture => cases x.op <;> exact .refl
  | ring => cases x.op <;> exact .refl
  | other => exact .refl

theorem Moves.rigTransaction (h : Books s) (x : RigTxn) : Moves s (s.rigTransaction x) := by
  have h1 := Moves.watch h x
  have h2 : Moves (s.watch x) ((s.watch x).route x).1 := by
    unfold State.route
    split
    · exact .refl
    · exact Moves.actOn (h1.books h) x _ fun n off e => classify_lane_offset e
  exact (h1.trans h2).tail (.keep ((SameBooks.join _).trans .respond))

/-! ## The store port -/

theorem Moves.grant (h : Books s) (g : Grant) : Moves s (s.grant g) := by
  cases g with
  | notice =>
    simp only [State.grant, State.grantNotice]
    split <;> exact Moves.keep ⟨rfl, rfl, rfl, rfl, rfl, rfl, rfl, rfl⟩
  | loader =>
    exact (Moves.loader h { s.loader with read := .live } rfl rfl id).tail (.keep ⟨rfl, rfl, rfl, rfl, rfl, rfl, rfl, rfl⟩)
  | forwarded => exact Moves.keep ⟨rfl, rfl, rfl, rfl, rfl, rfl, rfl, rfl⟩

/-- A unit that returns to the Map Loader. -/
theorem Change.loaderReturn (h : Books s) (r : ReadReturn) : Change s (s.loaderReturn r) := by
  have h1 : Moves s { s with loader := { s.loader with read := .idle } } := Moves.loader h _ rfl rfl id
  unfold State.loaderReturn
  dsimp only
  split
  next hlive =>
    obtain ⟨h2, h3⟩ := State.applyEntries_changed (s := { s with loader := { s.loader with read := .idle } })
      (returnedBytes r 0 64) (min 8 s.loader.remaining) 0 h.load.range (Nat.min_le_right _ _) h.load.idle
    have h4 : MapChanged s { s with loader := { s.loader with read := .idle } } := .loader rfl rfl rfl rfl rfl rfl rfl
    exact .maps (.inr hlive) (h4.trans h2) h3
  next =>
    split
    · exact .moves (h1.tail (.keep ⟨rfl, rfl, rfl, rfl, rfl, rfl, rfl, rfl⟩))
    · exact .moves h1
  next => exact .moves h1

/-! ## Table writes and commands -/

theorem Lane.disabled_of_not_enabled {l : Lane} (h : ¬l.enabled = true) : l.state = .disabled := by
  by_contra hd
  exact h (decide_eq_true hd)

/-- A write of the GLOBAL entry: the marks, and the latch test. -/
theorem Moves.writeGlobal {e : GlobalEntry} (he : globalInRange e = true) : Moves s (s.writeGlobal e) := by
  have hm : e.lowMark.toNat ≤ e.highMark.toNat := by
    simp only [globalInRange, Bool.and_eq_true, decide_eq_true_eq] at he
    tauto
  have hset := State.latchTest_settled (s := s.setGlobal e) false hm
  have hframe := State.latchTest_frame (s := s.setGlobal e) false
  refine .tail (.single (.latch (s.writeGlobal e).pool ?_ hset)) (.keep ?_)
  · unfold State.writeGlobal; rw [hframe]; rfl
  · unfold State.writeGlobal; rw [hframe]; exact ⟨rfl, rfl, rfl, rfl, rfl, rfl, rfl, rfl⟩

theorem Change.laneConfig {index : BitVec 16} {e : LaneConfigEntry} (ht : execWriteEntryLaneConfig index e s = .next t) :
    Change s t := by
  refine Change.request ?_ ht
  split
  next => exact .moves .refl
  next n _ =>
    unfold State.checked
    split
    · exact .moves .refl
    next hc =>
      simp only [firstFailing] at hc
      split_ifs at hc with h1 h2
      exact .configured n e (Lane.disabled_of_not_enabled h1) (by simpa using h2) (SameBooks.refl _)

theorem Change.tubeWrite {index : BitVec 16} {e : TubeEntry} (h : Books s) (ht : execWriteEntryTube index e s = .next t) :
    Change s t := by
  refine Change.request ?_ ht
  unfold State.checkedValue
  split
  · exact .moves .refl
  · exact .moves .refl
  next x hc hx =>
    simp only [firstFailing] at hc
    split_ifs at hc with h1 h2
    have hm := MapChanged.setTube (s := s.takeEvent) (i := index.toNat) (by simpa using h1) x.presence x.plug x.expected
    rw [← Tube.mapFields_mapped hx] at hm
    exact .maps (.inl (by simpa using h2)) hm ((h.same SameBooks.takeEvent).load.congr rfl fun _ => id)

theorem Change.enableLane {index : BitVec 16} (ht : execEnableLane index s = .next t) : Change s t := by
  refine Change.request ?_ ht
  unfold State.laneCommand
  split
  · exact .moves .refl
  next n _ =>
    dsimp only
    unfold State.checked
    split
    · exact .moves .refl
    next hc =>
      simp only [firstFailing] at hc
      split_ifs at hc with h1 h2 h3
      refine .armed n ?_ (Lane.disabled_of_not_enabled h2) (by simpa using h3) (SameBooks.refl _)
      cases hm : s.takeEvent.mode
      · rw [hm] at h1
        exact absurd rfl h1
      · rfl

theorem Moves.windowWrite {index : BitVec 16} {e : WindowEntry} (ht : execWriteEntryWindow index e s = .next t) : Moves s t := by
  refine Moves.request ?_ ht
  split
  · split
    · exact .refl
    next w _ =>
      refine Moves.checked fun hc => .single (.bind _ w fun k hk => ?_)
      subst hk
      simp only [State.bindChecks, firstFailing] at hc
      split_ifs at hc with h1
      exact fun e => h1 (decide_eq_true e)
  · exact .refl

theorem Moves.leaveEngaged (h : Books s) : Moves s s.leaveEngaged := by
  have h1 := Moves.disableAll h .bypass false
  unfold State.leaveEngaged
  generalize s.disableAll .bypass false = x at h1
  exact h1.tail (.keep ⟨rfl, rfl, rfl, rfl, rfl, rfl, rfl, rfl⟩)

theorem Moves.release (h : Books s) (hr : releasable (s.takeAt k).state = true) (hb : (s.takeAt k).bindings = 0) :
    Moves s (s.release k) := by
  have h1 : Moves s (s.releaseBefore k) := .single (.release k hr hb)
  exact h1.trans (Moves.admissionCheck (h1.books h))

theorem Moves.verdict {index : BitVec 16} {serial : BitVec 32} {v : Verdict} {f : State → State}
    (hf : v = .taken → Moves s (f s)) : Moves s (s.verdict index serial v f).1 := by
  refine Moves.checked fun _ => ?_
  split
  next e => exact hf e
  next => exact .refl

theorem Moves.releaseTake {index : BitVec 16} {serial : BitVec 32} (h : Books s)
    (ht : execReleaseTake index serial s = .next t) : Moves s t := by
  refine Moves.request (Moves.checked fun hc => ?_) ht
  simp only [State.takeChecks, List.cons_append, List.nil_append, firstFailing] at hc
  split_ifs at hc with h1 h2 h3 h4
  exact Moves.release (h.same SameBooks.takeEvent) (by simpa using h3)
    (Nat.eq_zero_of_not_pos fun e => h4 (decide_eq_true e))

theorem Moves.loadMap {base : Addr} {first count : BitVec 16} (ht : execLoadMap base first count s = .next t) : Moves s t := by
  refine Moves.request (Moves.checked fun hc => ?_) ht
  simp only [firstFailing] at hc
  split_ifs at hc with h1 h2 h3 h4
  exact Moves.startLoad (by simpa using h3) (by simpa using h4)

/-! ## Resets and time events -/

theorem Moves.rigReset {clocked : List Byte} (h : Books s) (ht : execRigReset s clocked = .next t) : Moves s t := by
  unfold execRigReset at ht
  split_ifs at ht
  · cases ht; exact Moves.keep .notTaken
  · cases ht; exact Moves.keep ⟨rfl, rfl, rfl, rfl, rfl, rfl, rfl, rfl⟩
  · obtain rfl := Host.Outcome.next.inj ht
    have h0 : SameBooks s (s.takeEvent.clockBytes clocked) := SameBooks.takeEvent.trans (.clockBytes _)
    have hb := h.same h0
    have h1 := Moves.disableAll hb .rigReset true
    have h2 := Moves.stopLoad (h1.books hb)
    refine h0.moves.trans (h1.trans (h2.trans (.tail (.single .unbind) (.keep ?_))))
    unfold State.rigResetEvent
    generalize (s.takeEvent.clockBytes clocked).disableAll .rigReset true = x
    exact ⟨rfl, rfl, rfl, rfl, rfl, rfl, rfl, rfl⟩

theorem Moves.powerOnResetEntry {clocked : List Byte} (h : Books s) (ht : execPowerOnResetEntry s clocked = .next t) :
    Moves s t := by
  unfold execPowerOnResetEntry at ht
  split_ifs at ht
  · cases ht; exact Moves.keep .notTaken
  · cases ht
    have h0 : SameBooks s (s.takeEvent.clockBytes clocked) := SameBooks.takeEvent.trans (.clockBytes _)
    have h1 := Moves.loader (h.same h0) { (s.takeEvent.clockBytes clocked).loader with read := .idle } rfl rfl id
    exact (h0.moves.trans h1).tail (.keep ⟨rfl, rfl, rfl, rfl, rfl, rfl, rfl, rfl⟩)

/-- A time event comes to an enabled lane alone. -/
theorem State.enabled_of_comes {e : LineEvent} (h : s.comes n e = true) : (s.lane n).state ≠ .disabled := by
  simp only [State.comes, Bool.and_eq_true] at h
  simpa [Lane.enabled] using h.1.2

theorem Moves.endPeriod (h : Books s) {e : LineEvent} (hc : s.comes n e = true) : Moves s ((s.takeTimeEvent n).endPeriod n) := by
  have hd := State.enabled_of_comes hc
  obtain ⟨h1, hl⟩ := Moves.takeTimeEvent hd
  have h2 : Moves s ((s.takeTimeEvent n).driverOff n) := h1.tail (Move.line (by rw [hl]; exact hd) _)
  exact h2.trans (Moves.lanePeriodEnd (h2.books h) n)

theorem Moves.senseWindowSample (h : Books s) {level : Level} (ht : execSenseWindowSample n level s = .next t) : Moves s t := by
  unfold execSenseWindowSample at ht
  split at ht
  next hc =>
    cases ht
    have hd := State.enabled_of_comes hc
    obtain ⟨h1, hl⟩ := Moves.takeTimeEvent hd
    exact h1.trans (Moves.sampleLane (h1.books h) (by rw [hl]; exact hd) level)
  next => cases ht; exact Moves.keep .notTaken

theorem Moves.drivePhaseStart (ht : execDrivePhaseStart n s = .next t) : Moves s t := by
  unfold execDrivePhaseStart at ht
  split at ht
  next hc =>
    cases ht
    have hd := State.enabled_of_comes hc
    obtain ⟨h1, hl⟩ := Moves.takeTimeEvent hd
    exact h1.tail (Move.line (by rw [hl]; exact hd) _)
  next => cases ht; exact Moves.keep .notTaken

/-! ## Every command -/

/-- The reason WATCH taken out of a lane's pause reasons; a DISABLED lane has none. -/
theorem Books.unwatch_tweak (h : Books s) (n : Fin 8) : LaneTweak (s.lane n) { s.lane n with pauseWatch := false } :=
  ⟨rfl, rfl, rfl, rfl, rfl, rfl, h.fields.idle n, h.fields.drain n, h.fields.admission n, h.fields.final n, fun e => by
    rw [(h.fields.disabled n e).1]; rfl⟩

/-- A command other than the end of a power-on reset changes the books as `Change` says. -/
theorem exec_change {c : Instr} (h : Books s) (hc : ∀ straps, c ≠ .powerOnReset straps) (ht : exec c s = .next t) : Change s t := by
  have hte := h.same SameBooks.takeEvent
  cases c with
  | rigPortTransaction x =>
    simp only [exec, execRigPortTransaction] at ht
    split_ifs at ht
    · cases ht; exact .moves (Moves.keep .notTaken)
    · cases ht; exact .moves (SameBooks.takeEvent.moves.trans (Moves.rigTransaction hte x))
  | storePortGrant =>
    simp only [exec, execStorePortGrant] at ht
    split at ht
    · cases ht; exact .moves (Moves.keep .notTaken)
    · split at ht
      · cases ht; exact .moves (Moves.keep .notTaken)
      · cases ht; exact .moves (SameBooks.takeEvent.moves.trans (Moves.grant hte _))
  | storePortReadReturn r =>
    simp only [exec, execStorePortReadReturn] at ht
    split at ht
    · cases ht; exact .moves (Moves.keep .notTaken)
    · split at ht
      · cases ht; exact .moves (Moves.keep .notTaken)
      next o rest _ =>
        cases ht
        have h0 : SameBooks s { s.takeEvent with issued := rest } := ⟨rfl, rfl, rfl, rfl, rfl, rfl, rfl, rfl⟩
        cases o with
        | rig => exact .moves (Moves.keep ⟨rfl, rfl, rfl, rfl, rfl, rfl, rfl, rfl⟩)
        | loader => exact (Change.loaderReturn (h.same h0) r).congr h0 rfl rfl (SameBooks.refl _)
  | chipSelectFall =>
    simp only [exec, execChipSelectFall] at ht
    split_ifs at ht <;> cases ht <;> exact .moves (Moves.keep ⟨rfl, rfl, rfl, rfl, rfl, rfl, rfl, rfl⟩)
  | chipSelectRise clocked =>
    simp only [exec, execChipSelectRise] at ht
    split_ifs at ht
    · cases ht; exact .moves (Moves.keep .notTaken)
    · cases ht; exact .moves (Moves.keep ⟨rfl, rfl, rfl, rfl, rfl, rfl, rfl, rfl⟩)
    · cases ht
      refine .moves (Moves.keep ((SameBooks.takeEvent.trans (.clockBytes clocked)).trans ?_))
      exact ⟨rfl, rfl, rfl, rfl, rfl, rfl, rfl, rfl⟩
  | badRequest frame =>
    simp only [exec, execBadRequest] at ht
    split at ht
    · split at ht
      · exact .moves (Moves.request .refl ht)
      · cases ht; exact .moves (Moves.keep .notTaken)
    · cases ht; exact .moves (Moves.keep .notTaken)
  | readEntry table i levels =>
    simp only [exec, execReadEntry] at ht
    split at ht
    · cases ht; exact .moves (Moves.keep ⟨rfl, rfl, rfl, rfl, rfl, rfl, rfl, rfl⟩)
    · cases ht; exact .moves (Moves.keep (.ignoreRequest _))
  | writeEntryLayout i e =>
    simp only [exec, execWriteEntryLayout] at ht
    refine .moves (Moves.request (Moves.checked fun _ => ?_) ht)
    exact Moves.keep ⟨rfl, rfl, rfl, rfl, rfl, rfl, rfl, rfl⟩
  | writeEntryGlobal i e =>
    simp only [exec, execWriteEntryGlobal] at ht
    refine .moves (Moves.request (Moves.checked fun hc => ?_) ht)
    simp only [firstFailing] at hc
    split_ifs at hc with h1 h2
    exact Moves.writeGlobal (by simpa using h2)
  | writeEntryLaneConfig i e => exact Change.laneConfig ht
  | writeEntryTube i e => exact Change.tubeWrite h ht
  | writeEntryWindow i e => exact .moves (Moves.windowWrite ht)
  | writeKey i key =>
    simp only [exec, execWriteKey] at ht
    exact .moves (Moves.request (Moves.amend ..) ht)
  | writeValue i v =>
    simp only [exec, execWriteValue] at ht
    exact .moves (Moves.request (Moves.amend ..) ht)
  | writeBoth i key v =>
    simp only [exec, execWriteBoth] at ht
    exact .moves (Moves.request (Moves.amend ..) ht)
  | disable i =>
    simp only [exec, execDisable] at ht
    exact .moves (Moves.request (Moves.amend ..) ht)
  | writeEntryWatch i e =>
    simp only [exec, execWriteEntryWatch] at ht
    refine .moves (Moves.request ?_ ht)
    split
    · unfold State.checkedValue
      split <;> exact Moves.keep ⟨rfl, rfl, rfl, rfl, rfl, rfl, rfl, rfl⟩
    · exact .refl
  | writeEntryLines i e =>
    simp only [exec, execWriteEntryLines] at ht
    refine .moves (Moves.request ?_ ht)
    split
    · unfold State.checkedValue
      split <;> exact Moves.keep ⟨rfl, rfl, rfl, rfl, rfl, rfl, rfl, rfl⟩
    · exact .refl
  | writeEntryReadOnly table i =>
    simp only [exec, execWriteEntryReadOnly] at ht
    exact .moves (Moves.request .refl ht)
  | engage =>
    simp only [exec, execEngage] at ht
    refine .moves (Moves.request ?_ ht)
    split
    · exact .refl
    · exact Moves.checked fun _ => Moves.keep ⟨rfl, rfl, rfl, rfl, rfl, rfl, rfl, rfl⟩
  | bypass =>
    simp only [exec, execBypass] at ht
    refine .moves (Moves.request ?_ ht)
    split
    · exact .refl
    · exact Moves.leaveEngaged hte
  | enableLane i => exact Change.enableLane ht
  | disableLane i =>
    simp only [exec, execDisableLane] at ht
    exact .moves (Moves.request (Moves.laneCommand fun n => Moves.disableLane hte n) ht)
  | acceptTake i serial =>
    simp only [exec, execAcceptTake] at ht
    exact .moves (Moves.request (Moves.verdict fun e => .single (.accept _ e)) ht)
  | rejectTake i serial =>
    simp only [exec, execRejectTake] at ht
    exact .moves (Moves.request (Moves.verdict fun e => .single (.reject _ e)) ht)
  | releaseTake i serial => exact .moves (Moves.releaseTake h ht)
  | loadMap base first count => exact .moves (Moves.loadMap ht)
  | abortLoad =>
    simp only [exec, execAbortLoad] at ht
    exact .moves (Moves.request (Moves.checked fun _ => Moves.post _ (Moves.stopLoad hte)) ht)
  | lockCampaign =>
    simp only [exec, execLockCampaign] at ht
    refine .moves (Moves.request (Moves.checked fun _ => ?_) ht)
    exact Moves.keep ⟨rfl, rfl, rfl, rfl, rfl, rfl, rfl, rfl⟩
  | clearAttention =>
    simp only [exec, execClearAttention] at ht
    exact .moves (Moves.request (Moves.keep ⟨rfl, rfl, rfl, rfl, rfl, rfl, rfl, rfl⟩) ht)
  | clearHold i =>
    simp only [exec, execClearHold] at ht
    refine .moves (Moves.request (Moves.laneCommand fun n => .single (.tweakLane n ?_)) ht)
    exact h.unwatch_tweak n
  | powerOnReset straps => exact absurd rfl (hc straps)
  | rigReset clocked => exact .moves (Moves.rigReset h ht)
  | senseWindowSample n level => exact .moves (Moves.senseWindowSample h ht)
  | drivePhaseStart n => exact .moves (Moves.drivePhaseStart ht)
  | periodEnd n =>
    simp only [exec, execPeriodEnd] at ht
    split at ht
    next hcomes => cases ht; exact .moves (Moves.endPeriod h hcomes)
    next => cases ht; exact .moves (Moves.keep .notTaken)
  | idleTimerExpiry n =>
    simp only [exec, execIdleTimerExpiry] at ht
    split at ht
    next hcomes => cases ht; exact .moves (Moves.endPeriod h hcomes.1)
    next => cases ht; exact .moves (Moves.keep .notTaken)
  | drainTimerExpiry n =>
    simp only [exec, execDrainTimerExpiry] at ht
    split at ht
    next hcomes => cases ht; exact .moves (Moves.endPeriod h hcomes.1)
    next => cases ht; exact .moves (Moves.keep .notTaken)
  | admissionTimerExpiry n =>
    simp only [exec, execAdmissionTimerExpiry] at ht
    split at ht
    next hcomes => cases ht; exact .moves (Moves.endPeriod h hcomes.1)
    next => cases ht; exact .moves (Moves.keep .notTaken)
  | powerOnResetEntry clocked => exact .moves (Moves.powerOnResetEntry h ht)
  | rigResetRelease =>
    simp only [exec, execRigResetRelease] at ht
    split at ht
    · cases ht; exact .moves (Moves.keep .notTaken)
    · cases ht
      split <;> exact .moves (Moves.keep ⟨rfl, rfl, rfl, rfl, rfl, rfl, rfl, rfl⟩)

end Sys2Proof.Machine
end

section
/-! The books at power-on, and at every step. -/

namespace Sys2Proof.Machine

variable {s t u : State} {n : Fin 8} {k : Nat}

/-! ## The values of a power-on reset -/

/-- `t` holds the values of a power-on reset: all but the mode, the layout, the straps, the pins, the free-value counter, the queue
and the outputs. -/
def PoweredOn (t : State) : Prop :=
  t = { State.reset with mode := t.mode, layout := t.layout, strap := t.strap, pins := t.pins, fresh := t.fresh, out := t.out,
                         pending := t.pending }

theorem poweredOn_reset : PoweredOn State.reset := rfl

theorem poweredOn_powerOn (u : State) (straps : BitVec 2) : PoweredOn (u.powerOn straps) := rfl

theorem lane_reset (n : Fin 8) : State.reset.lane n = Lane.disabled (LaneConfig.reset n) := by revert n; decide

theorem laneLine_reset (n : Fin 8) : State.reset.laneLine n = LaneLine.idle := by
  simp [State.laneLine, State.reset]

namespace PoweredOn

theorem lane (h : PoweredOn t) (n : Fin 8) : t.lane n = Lane.disabled (LaneConfig.reset n) := by rw [h]; exact lane_reset n

theorem takeAt (h : PoweredOn t) (k : Nat) : t.takeAt k = Take.free := by rw [h]; rfl

theorem tubeAt (h : PoweredOn t) (i : Nat) : t.tubeAt i = Tube.reset := by rw [h]; rfl

theorem laneLine (h : PoweredOn t) (n : Fin 8) : t.laneLine n = LaneLine.idle := by rw [h]; exact laneLine_reset n

/-- The values of a power-on reset balance: no work, every segment free. -/
theorem books (h : PoweredOn t) : Books t where
  takesForm := by rw [h]; rfl
  tubesForm := by rw [h]; rfl
  blank k _ := h.takeAt k
  kept k _ := by rw [h.takeAt]; rfl
  lanes := by
    constructor
    · intro n k hk; rw [h.lane] at hk; cases hk
    · intro n _; rw [h.lane]; rfl
    · intro k hk; rw [h.takeAt] at hk; cases hk
  queue := by
    have hq : t.pool.queue = [] := by rw [h]; rfl
    constructor
    · intro n; rw [h.lane]; simp [Lane.disabled]
    · intro n; rw [h.lane, hq]; simp [Lane.disabled]
    · rw [hq]; exact List.nodup_nil
  pool := by
    have hp : t.pool = State.reset.pool := by rw [h]
    have ht : t.takes = [] := by rw [h]; rfl
    constructor
    · rw [hp]; simp [State.reset]
    · rw [hp, ht]; rfl
    · rw [hp]; exact Nat.zero_le _
    · rw [hp, ht]; simp [State.reset]
  latch := by
    have hp : t.pool = State.reset.pool := by rw [h]
    rw [latchSettled_iff, hp]
    exact ⟨by decide, fun _ => by decide, nofun⟩
  fields := by
    constructor
    · intro n c hc; rw [h.lane] at hc; cases hc
    · intro n c hc; rw [h.lane] at hc; cases hc
    · intro n c hc; rw [h.lane] at hc; cases hc
    · intro n hf; rw [h.lane] at hf; cases hf
    · intro n; rw [h.lane]; simp [Lane.disabled]
    · intro n _; rw [h.lane, h.laneLine]; exact ⟨rfl, rfl⟩
  accepted := by
    constructor
    · intro i k hk; rw [h.tubeAt] at hk; cases hk
    · intro k i hk; rw [h.takeAt] at hk; cases hk
  load := by
    have hl : t.loader = State.reset.loader := by rw [h]
    constructor
    · rw [hl]; exact Nat.zero_le _
    · intro e; rw [hl] at e; cases e
    · intro e; rw [hl] at e; cases e

theorem tubesMatch (h : PoweredOn t) : TubesMatch t := by
  have ht : t.takes = [] := by rw [h]; rfl
  constructor
  · intro i n
    rw [h.tubeAt]
    simp [State.works, h.lane, Tube.reset, Lane.disabled]
  · intro i
    rw [h.tubeAt]
    simp [h.takeAt, Tube.reset, Take.free, TakeState.recording]
  · intro i; rw [h.tubeAt, ht]; rfl
  · intro i k hk; rw [h.tubeAt] at hk; cases hk
  · intro i; rw [h.tubeAt]; simp [Tube.reset]

theorem serialsDistinct (h : PoweredOn t) : SerialsDistinct t := by
  have hs : t.serialCounter = 1 := by rw [h]; rfl
  constructor
  · intro k hk; exact absurd (by rw [h.takeAt]; rfl) hk
  · intro j k hj; exact absurd (by rw [h.takeAt]; rfl) hj
  · rw [hs]; exact ⟨le_refl 1, by norm_num⟩

theorem bindingsMatch (h : PoweredOn t) : BindingsMatch t := by
  have hw : t.windows = Vector.replicate 16 .unbound := by rw [h]; rfl
  intro k
  rw [h.takeAt, hw]
  rfl

theorem chainsMatchLengths (h : PoweredOn t) : ChainsMatchLengths t := by
  constructor
  · intro k hk; exact absurd (by rw [h.takeAt]; rfl) hk
  · intro n k hk; rw [h.lane] at hk; cases hk

theorem noticesInRange (h : PoweredOn t) : NoticesInRange t := by
  have hn : t.notices = State.reset.notices := by rw [h]
  constructor
  · rw [hn]; exact Nat.zero_le _
  · rw [hn]; simp [State.reset]
  · rw [hn]; simp [State.reset]
  · rw [hn]; simp [State.reset]

theorem arbiterSound (h : PoweredOn t) : ArbiterSound t := by
  have ha : t.arbiter = State.reset.arbiter := by rw [h]
  have hn : t.notices = State.reset.notices := by rw [h]
  constructor
  · rw [ha]; exact nofun
  · rw [ha]; exact nofun
  · intro _; rw [ha, hn]; decide

theorem portsSound (h : PoweredOn t) : PortsSound t := by
  have h1 : t.inFlight = [] := by rw [h]; rfl
  have h2 : t.issued = [] := by rw [h]; rfl
  have h3 : t.loader = State.reset.loader := by rw [h]
  have h4 : t.arbiter = State.reset.arbiter := by rw [h]
  constructor
  · rw [h1]; exact Nat.zero_le _
  · rw [h1]; exact nofun
  · rw [h1, h2]; rfl
  · rw [h2, h3]; rfl
  · rw [h3]; exact nofun
  · rw [h3, h4]; exact fun _ => by decide

theorem timebaseInRange (h : PoweredOn t) : TimebaseInRange t := by
  have ht : t.timebase = State.reset.timebase := by rw [h]
  constructor <;> rw [ht] <;> decide

theorem configsInRange (h : PoweredOn t) : ConfigsInRange t := by
  intro n
  rw [h.lane]
  constructor <;> simp [Lane.disabled, LaneConfig.reset]

theorem frameSound (h : PoweredOn t) : FrameSound t := by
  have hl : t.link = Link.quiet := by rw [h]; rfl
  constructor
  · rw [hl]; exact fun e => absurd rfl e
  · rw [hl]; exact fun _ => rfl
  · rw [hl]; exact fun e => by obtain e | e := e <;> cases e

theorem disabled (h : PoweredOn t) (n : Fin 8) : (t.lane n).state = .disabled := by rw [h.lane]; rfl

/-- All the invariants at power-on, where an ENGAGED layout is valid. -/
theorem sound (h : PoweredOn t) (hv : EngagedLayoutValid t) :
    Books t ∧ TubesMatch t ∧ SerialsDistinct t ∧ ChainsMatchLengths t ∧ BindingsMatch t ∧ NoticesInRange t ∧ ArbiterSound t ∧
      PortsSound t ∧ LockStopsLoads t ∧ BypassRestsLanes t ∧ EngagedLayoutValid t ∧ FrameSound t ∧ TimebaseInRange t ∧
      ConfigsInRange t ∧ EnabledConfigsConsistent t :=
  ⟨h.books, h.tubesMatch, h.serialsDistinct, h.chainsMatchLengths, h.bindingsMatch, h.noticesInRange, h.arbiterSound,
    h.portsSound, fun _ => by rw [h]; rfl, fun _ => h.disabled, hv, h.frameSound, h.timebaseInRange, h.configsInRange,
    fun n hn => absurd (h.disabled n) hn⟩

end PoweredOn

/-- The mode that the straps select comes with a valid layout (R154). -/
theorem engagedLayoutValid_powerOn (u : State) (straps : BitVec 2) : EngagedLayoutValid (u.powerOn straps) := by
  intro hm
  by_cases h0 : straps = 0
  · subst h0; cases hm
  · exact (layoutValid_iff _).2 (layoutGood_preset h0)

/-- Settles O54: the values of a power-on reset satisfy every invariant. -/
theorem powerOnStateIsSound : Obligations.PowerOnStateIsSound := by
  refine ⟨fun straps s t ht => ?_, poweredOn_reset.sound nofun⟩
  cases ht
  exact (poweredOn_powerOn s straps).sound (engagedLayoutValid_powerOn s straps)

/-! ## Every step -/

/-- A step changes the books as its command does; a clock cycle moves the lines alone. -/
theorem step_change (h : Books s) (ht : step s = .next t) : Change s t ∨ PoweredOn t := by
  unfold step at ht
  split at ht
  next c rest _ =>
    have h0 : SameBooks s { s with pending := rest } := ⟨rfl, rfl, rfl, rfl, rfl, rfl, rfl, rfl⟩
    by_cases hc : ∃ straps, c = .powerOnReset straps
    · obtain ⟨straps, rfl⟩ := hc
      cases ht
      exact .inr (poweredOn_powerOn _ _)
    · exact .inl ((exec_change (h.same h0) (fun straps e => hc ⟨straps, e⟩) ht).congr h0 rfl rfl (SameBooks.refl t))
  next =>
    cases ht
    exact .inl (.moves Moves.clockCycle)

theorem MapChanged.takeAt (h : MapChanged s t) (k : Nat) : t.takeAt k = s.takeAt k := by simp only [State.takeAt, h.takes]

theorem MapChanged.lane (h : MapChanged s t) (n : Fin 8) : t.lane n = s.lane n := by simp only [State.lane, h.lanes]

theorem Books.maps (h : Books s) (hm : MapChanged s t) (hl : LoadInRange t) : Books t where
  takesForm := by rw [hm.takes]; exact h.takesForm
  tubesForm := hm.form h.tubesForm
  blank k := by rw [hm.takeAt]; exact h.blank k
  kept k := by rw [hm.takeAt]; exact h.kept k
  lanes := h.lanes.congr (fun n => by rw [hm.lane]) (fun n => by rw [hm.lane]) (fun k => by rw [hm.takeAt])
    fun k => by rw [hm.takeAt]
  queue := h.queue.congr (fun n => by rw [hm.lane]) (fun n => by rw [hm.lane]) (by rw [hm.pool])
  pool := h.pool.congr hm.pool hm.takes
  latch := by rw [latchSettled_iff, hm.pool]; exact h.settled
  fields := h.fields.congr hm.lanes hm.laneLines
  accepted := h.accepted.congr (fun i => by rw [hm.tubes h.tubesForm]; rfl) (fun k => by rw [hm.takeAt])
    fun k _ => by rw [hm.takeAt]
  load := hl

/-- An enabled lane rests, ARMED. -/
theorem Lane.armed_rests (l : Lane) (v : LaneLine) : LaneRests l { Lane.disabled l.cfg with state := .armed } v :=
  ⟨rfl, rfl, rfl, rfl, rfl, rfl, rfl, rfl, .inl rfl⟩

theorem Change.books (h : Books s) (hc : Change s t) : Books t := by
  cases hc with
  | moves hm => exact hm.books h
  | maps _ hm hl => exact h.maps hm hl
  | configured n e hd _ hs => exact (h.configure n _ hd).same hs
  | armed n _ hd _ hs => exact (h.rest n (.inl hd) (Lane.armed_rests _ _)).same hs

/-- Settles O55: the change that a step makes keeps the books. -/
theorem booksStayRightAtEveryStep : Obligations.BooksStayRightAtEveryStep := by
  intro s t h ht
  obtain hc | hp := step_change h ht
  · exact hc.books h
  · exact hp.books

end Sys2Proof.Machine
end

section
/-! The agreement of the tubes with lanes and takes, kept by every move (R1, R3, R6–R8). What a move does to it is said in three
words: which tube a lane works, which tubes are in test, and how many SEALED takes a tube has. -/

namespace Sys2Proof.Machine

variable {s t u : State} {n : Fin 8} {k : Nat}

/-! ## Words of the agreement -/

/-- A take of the tube records. -/
def State.tests (s : State) (i : Nat) : Prop := ∃ k, (s.takeAt k).state.recording = true ∧ (s.takeAt k).tubeIndex = some i

/-- The take is a SEALED one of the tube. -/
def Take.sealedOf (x : Take) (i : Nat) : Bool := decide (x.state = .sealed) && decide (x.tubeIndex = some i)

/-- The number of SEALED takes of a tube. -/
def State.sealedOf (s : State) (i : Nat) : Nat := s.takes.countP fun e => e.2.sealedOf i

theorem State.sealedOf_setTake (h : s.takesForm) (k : Nat) (x : Take) (i : Nat) :
    (s.setTake k x).sealedOf i + ((s.takeAt k).sealedOf i).toNat = s.sealedOf i + (x.sealedOf i).toNat :=
  Sparse.countP_set (fun y : Take => y.sealedOf i) rfl h k x

theorem State.sealedOf_congr (h : t.takes = s.takes) (i : Nat) : t.sealedOf i = s.sealedOf i := by rw [State.sealedOf, h, State.sealedOf]

/-- A take that is and was none of the SEALED ones of a tube does not count. -/
theorem State.sealedOf_setTake_same (h : s.takesForm) {x : Take} (i : Nat) (hx : x.sealedOf i = (s.takeAt k).sealedOf i) :
    (s.setTake k x).sealedOf i = s.sealedOf i := by
  have := s.sealedOf_setTake h k x i
  rw [hx] at this
  omega

/-- The number of SEALED takes does not see a change of every record that keeps state and tube. -/
theorem State.sealedOf_unbindAll (i : Nat) : s.unbindAll.sealedOf i = s.sealedOf i := by
  have key : ∀ l : List (Nat × Take), (Sparse.mapAll Take.free (fun x => { x with bindings := 0 }) l).countP
      (fun e => e.2.sealedOf i) = l.countP fun e => e.2.sealedOf i := fun l => by
    induction l with
    | nil => rfl
    | cons e l ih =>
      obtain ⟨k, v⟩ := e
      have hv : ({ v with bindings := 0 } : Take).sealedOf i = v.sealedOf i := rfl
      simp only [Sparse.mapAll]
      split
      next hf =>
        have : v.sealedOf i = false := by rw [← hv, hf]; rfl
        rw [List.countP_cons_of_neg (by simp [this]), ih]
      next => rw [List.countP_cons, List.countP_cons, hv, ih]
  exact key s.takes

/-- The tube's fields of the agreement are the same. -/
structure SameTest (x y : Tube) : Prop where
  claim : y.claim = x.claim
  status : y.status = x.status
  pending : y.pending = x.pending
  history : y.history = x.history

theorem SameTest.refl (x : Tube) : SameTest x x := ⟨rfl, rfl, rfl, rfl⟩

/-- A lane with the same held start and the same take, of the same tube, works the same tube. -/
theorem State.works_congr (hh : (t.lane n).held = (s.lane n).held) (hc : (t.lane n).current = (s.lane n).current)
    (hi : ∀ k, (s.lane n).current = some k → (t.takeAt k).tubeIndex = (s.takeAt k).tubeIndex) (i : Nat) :
    t.works n i ↔ s.works n i := by
  unfold State.works
  rw [hh, hc]
  refine or_congr Iff.rfl (exists_congr fun k => and_congr_right fun hk => ?_)
  rw [hi k hk]

/-- A change that keeps each tube's fields, each lane's tube, the tubes in test, and the SEALED takes. -/
theorem TubesMatch.congr (h : TubesMatch s) (htube : ∀ i, SameTest (s.tubeAt i) (t.tubeAt i))
    (hworks : ∀ n i, t.works n i ↔ s.works n i) (htests : ∀ i, t.tests i ↔ s.tests i)
    (hsealed : ∀ i, t.sealedOf i = s.sealedOf i)
    (hindex : ∀ i k, k ∈ (s.tubeAt i).history → (t.takeAt k).tubeIndex = (s.takeAt k).tubeIndex) : TubesMatch t where
  claims i n := by rw [(htube i).claim, hworks]; exact h.claims i n
  inTest i := by rw [(htube i).status]; exact (h.inTest i).trans (htests i).symm
  pending i := by rw [(htube i).pending, h.pending]; exact (hsealed i).symm
  history i k hk := by
    rw [(htube i).history] at hk
    rw [hindex i k hk]
    exact h.history i k hk
  short i := by rw [(htube i).history]; exact h.short i

/-- Where the takes keep their records, the tubes in test do. -/
theorem State.tests_congr (h : ∀ k, (t.takeAt k).state.recording = (s.takeAt k).state.recording ∧
    (t.takeAt k).tubeIndex = (s.takeAt k).tubeIndex) (i : Nat) : t.tests i ↔ s.tests i :=
  exists_congr fun k => by rw [(h k).1, (h k).2]

/-- One take changes with its tube, recording or not as before, SEALED or not as before; lanes work as they did. -/
theorem TubesMatch.tweakTake (h : TubesMatch s) (hf : s.takesForm) {x : Take} (ht : t.takes = (s.setTake k x).takes)
    (hu : ∀ i, SameTest (s.tubeAt i) (t.tubeAt i)) (hx : x.tube = (s.takeAt k).tube)
    (hr : x.state.recording = (s.takeAt k).state.recording) (hs : x.state = .sealed ↔ (s.takeAt k).state = .sealed)
    (hh : ∀ n, (t.lane n).held = (s.lane n).held) (hc : ∀ n, (t.lane n).current = (s.lane n).current) : TubesMatch t := by
  have htake (j) : t.takeAt j = if j = k then x else s.takeAt j := by
    rw [State.takeAt, ht]; exact State.takeAt_setTake hf k j x
  have hrec (j) : (t.takeAt j).state.recording = (s.takeAt j).state.recording ∧
      (t.takeAt j).tubeIndex = (s.takeAt j).tubeIndex := by
    rw [htake]
    split
    next e => subst e; exact ⟨hr, by rw [Take.tubeIndex, hx, Take.tubeIndex]⟩
    next => exact ⟨rfl, rfl⟩
  refine h.congr hu (fun n => State.works_congr (hh n) (hc n) fun k _ => (hrec k).2) (State.tests_congr hrec) (fun i => ?_)
    fun i k _ => (hrec k).2
  rw [State.sealedOf_congr ht]
  refine State.sealedOf_setTake_same hf i ?_
  have hxi : x.tubeIndex = (s.takeAt k).tubeIndex := by rw [Take.tubeIndex, hx, Take.tubeIndex]
  rw [Take.sealedOf, Take.sealedOf, hxi, Bool.eq_iff_iff]
  simp only [Bool.and_eq_true, decide_eq_true_eq, hs]

/-- Takes, lanes' work and tubes' fields unchanged. -/
theorem TubesMatch.same (h : TubesMatch s) (ht : t.takes = s.takes) (hu : ∀ i, SameTest (s.tubeAt i) (t.tubeAt i))
    (hh : ∀ n, (t.lane n).held = (s.lane n).held) (hc : ∀ n, (t.lane n).current = (s.lane n).current) : TubesMatch t := by
  have htake (k) : t.takeAt k = s.takeAt k := by rw [State.takeAt, ht, State.takeAt]
  exact h.congr hu (fun n => State.works_congr (hh n) (hc n) fun k _ => by rw [htake])
    (State.tests_congr fun k => by rw [htake]; exact ⟨rfl, rfl⟩) (State.sealedOf_congr ht) fun i k _ => by rw [htake]

/-! ## Which tube a lane works -/

/-- Two lanes do not work one tube (R6). -/
theorem TubesMatch.works_unique (h : TubesMatch s) {m n : Fin 8} {i : Nat} (hm : s.works m i) (hn : s.works n i) : m = n :=
  Option.some_injective _ (((h.claims i m).2 hm).symm.trans ((h.claims i n).2 hn))

theorem State.works_held {p : TubePos} {d : Direction} (hc : (s.lane n).current = none) (hp : (s.lane n).held = some (p, d))
    (i : Nat) : s.works n i ↔ some p.index = some i := by
  simp only [State.works, hc, hp]
  constructor
  · rintro (⟨q, e, hq, hi⟩ | ⟨k, hk, -⟩)
    · cases hq; rw [hi]
    · cases hk
  · rintro hi
    exact .inl ⟨p, d, rfl, Option.some_injective _ hi⟩

theorem State.works_current (hh : (s.lane n).held = none) (hk : (s.lane n).current = some k) (i : Nat) :
    s.works n i ↔ (s.takeAt k).tubeIndex = some i := by
  simp only [State.works, hh, hk]
  constructor
  · rintro (⟨q, e, hq, -⟩ | ⟨j, hj, hi⟩)
    · cases hq
    · cases hj; exact hi
  · exact fun hi => .inr ⟨k, rfl, hi⟩

theorem State.not_works (hh : (s.lane n).held = none) (hc : (s.lane n).current = none) (i : Nat) :
    s.works n i ↔ (none : Option Nat) = some i := by simp [State.works, hh, hc]

/-- The lane of a held start works its tube alone. -/
theorem Books.works_held (h : Books s) {p : TubePos} {d : Direction} (hp : (s.lane n).held = some (p, d)) (i : Nat) :
    s.works n i ↔ some p.index = some i :=
  State.works_held (h.current_none (by simp [Lane.recording, h.waiting_of_held hp])) hp i

/-- The lane of a take works its tube alone. -/
theorem Books.works_current (h : Books s) (hk : (s.lane n).current = some k) (i : Nat) :
    s.works n i ↔ (s.takeAt k).tubeIndex = some i := by
  refine State.works_current (h.held_none ?_) hk i
  obtain e | e := (Lane.recording_iff _).1 (h.current hk).2.2 <;> simp [e]

/-- A lane at rest works no tube. -/
theorem Books.works_resting (h : Books s) (hr : (s.lane n).state = .disabled ∨ (s.lane n).state = .armed) (i : Nat) :
    s.works n i ↔ (none : Option Nat) = some i := by
  refine State.not_works (h.held_none ?_) (h.current_none ?_) i
  · obtain e | e := hr <;> simp [e]
  · obtain e | e := hr <;> simp [Lane.recording, e]

/-- Lane n goes from tube `old` to tube `new`, either of which may be none: the claims follow where no other lane claims `new`. -/
theorem TubesMatch.claims_moved (h : TubesMatch s) {n : Fin 8} {old new : Option Nat} (hold : ∀ i, s.works n i ↔ old = some i)
    (hfree : ∀ i m, new = some i → (s.tubeAt i).claim = some m → m = n)
    (hworks : ∀ m i, t.works m i ↔ if m = n then new = some i else s.works m i)
    (hclaim : ∀ i, (t.tubeAt i).claim = if new = some i then some n else if old = some i then none else (s.tubeAt i).claim)
    (i : Nat) (m : Fin 8) : (t.tubeAt i).claim = some m ↔ t.works m i := by
  rw [hworks, hclaim]
  have hc := h.claims i m
  by_cases hm : m = n
  · subst hm
    rw [if_pos rfl]
    by_cases hnew : new = some i
    · simp [hnew]
    · rw [if_neg hnew]
      simp only [hnew, iff_false]
      split
      · simp
      next ho => exact fun e => ho ((hold i).1 (hc.1 e))
  · rw [if_neg hm]
    by_cases hnew : new = some i
    · rw [if_pos hnew]
      exact ⟨fun e => absurd (Option.some_injective _ e).symm hm, fun e => absurd (hfree i m hnew (hc.2 e)) hm⟩
    · rw [if_neg hnew]
      split
      next ho => exact ⟨nofun, fun e => absurd (h.works_unique e ((hold i).2 ho)) hm⟩
      next => exact hc

end Sys2Proof.Machine
end

section
/-! Each move keeps the agreement of the tubes with lanes and takes, and so does every step (O56). -/

namespace Sys2Proof.Machine

variable {s t u : State} {n : Fin 8} {k : Nat}

/-! ## Moves of a lane from tube to tube -/

/-- A move that changes lanes and claims alone. -/
theorem TubesMatch.claimed (h : TubesMatch s) (ht : t.takes = s.takes)
    (hu : ∀ i, t.tubeAt i = { s.tubeAt i with claim := (t.tubeAt i).claim })
    (hc : ∀ i n, (t.tubeAt i).claim = some n ↔ t.works n i) : TubesMatch t := by
  have htake (k) : t.takeAt k = s.takeAt k := by rw [State.takeAt, ht, State.takeAt]
  refine ⟨hc, fun i => ?_, fun i => ?_, fun i k hk => ?_, fun i => ?_⟩
  · rw [hu i]
    exact (h.inTest i).trans (State.tests_congr (fun k => by rw [htake]; exact ⟨rfl, rfl⟩) i).symm
  · rw [hu i, ht]; exact h.pending i
  · rw [hu i] at hk
    rw [htake]; exact h.history i k hk
  · rw [hu i]; exact h.short i

/-- The lanes of a move that sets one. -/
theorem State.works_setLane {l : Lane} (hl : ∀ m, t.lane m = if m = n then l else s.lane m)
    (ht : ∀ j, t.takeAt j = s.takeAt j) {new : Option Nat}
    (hn : ∀ i, ((∃ p d, l.held = some (p, d) ∧ p.index = i) ∨ ∃ k, l.current = some k ∧ (s.takeAt k).tubeIndex = some i) ↔ new = some i)
    (m : Fin 8) (i : Nat) : t.works m i ↔ if m = n then new = some i else s.works m i := by
  unfold State.works
  simp only [hl, ht]
  split
  · exact hn i
  · rfl

theorem TubesMatch.drop (h : TubesMatch s) (hb : Books s) {p : TubePos} {d : Direction} {l : Lane} {v : LaneLine}
    (hp : (s.lane n).held = some (p, d)) (hl : LaneRests (s.lane n) l v) :
    TubesMatch (((s.leaveQueue n).unclaim p).setLaneBoth n l v) := by
  have htube (i) : ((((s.leaveQueue n).unclaim p).setLaneBoth n l v).tubeAt i) =
      if i = p.index then { s.tubeAt p.index with claim := none } else s.tubeAt i :=
    State.tubeAt_setTube (s := s.leaveQueue n) hb.tubesForm p.index i _
  refine h.claimed rfl (fun i => ?_) (h.claims_moved (n := n) (old := some p.index) (new := none) (hb.works_held hp) nofun ?_ fun i => ?_)
  · rw [htube]; split
    next e => rw [e]
    next => rfl
  · refine State.works_setLane (l := l) (fun m => State.lane_setLaneBoth _ n m l v) (fun _ => rfl) fun i => ?_
    simp [hl.held, hl.current]
  · rw [htube]
    simp only [reduceCtorEq, if_false, Option.some_inj, eq_comm (a := p.index)]
    split <;> rfl

/-- A tube that no other lane claims is claimed for lane n, which goes there from `old`. -/
theorem TubesMatch.defer (h : TubesMatch s) (hb : Books s) {p : TubePos} {d : Direction} {l : Lane}
    (ha : (s.lane n).state = .armed) (hc : ∀ m, (s.tubeAt p.index).claim = some m → m = n)
    (hl : l = { s.lane n with state := .waiting, held := some (p, d), pauseAdmission := true, admission := l.admission })
    (q : Pool) : TubesMatch (((s.claimTube n p).setPool q).setLane n l) := by
  have htube (i) : ((((s.claimTube n p).setPool q).setLane n l).tubeAt i) =
      if i = p.index then { s.tubeAt p.index with claim := some n } else s.tubeAt i :=
    State.tubeAt_setTube hb.tubesForm p.index i _
  have hcur : l.current = none := by rw [hl]; exact hb.current_none (by simp [Lane.recording, ha])
  have hheld : l.held = some (p, d) := by rw [hl]
  refine h.claimed rfl (fun i => ?_) (h.claims_moved (n := n) (old := none) (new := some p.index) (hb.works_resting (.inr ha))
    (fun i m e hm => hc m (by rw [Option.some_injective _ e]; exact hm)) ?_ fun i => ?_)
  · rw [htube]; split
    next e => rw [e]
    next => rfl
  · refine State.works_setLane (fun m => State.lane_setLane _ n m l) (fun _ => rfl) fun i => ?_
    simp only [hcur, hheld, Option.some_inj, Prod.mk.injEq]
    constructor
    · rintro (⟨q, e, ⟨rfl, rfl⟩, hi⟩ | ⟨k, hk, -⟩)
      · exact hi
      · cases hk
    · exact fun hi => .inl ⟨p, d, ⟨rfl, rfl⟩, hi⟩
  · rw [htube]
    simp only [Option.some_inj, eq_comm (a := p.index), reduceCtorEq, if_false]
    split <;> rfl

theorem TubesMatch.replace (h : TubesMatch s) (hb : Books s) {p q : TubePos} {d e : Direction}
    (hq : (s.lane n).held = some (q, e)) (hc : ∀ m, (s.tubeAt p.index).claim = some m → m = n) :
    TubesMatch ((if q = p then s.claimTube n p else (s.claimTube n p).clearClaim q).setLane n
      { s.lane n with held := some (p, d) }) := by
  have hclaim (i) : (s.claimTube n p).tubeAt i = if i = p.index then { s.tubeAt p.index with claim := some n } else s.tubeAt i :=
    State.tubeAt_setTube hb.tubesForm p.index i _
  have hform : (s.claimTube n p).tubesForm := State.tubesForm_setTube hb.tubesForm _ p.index_lt
  set x := (if q = p then s.claimTube n p else (s.claimTube n p).clearClaim q) with hx
  have htube (i) : x.tubeAt i = { s.tubeAt i with
      claim := if some p.index = some i then some n else if some q.index = some i then none else (s.tubeAt i).claim } := by
    simp only [Option.some_inj, eq_comm (b := i)]
    by_cases hqp : q = p
    · rw [hx, if_pos hqp, hclaim, hqp]
      split
      next e => rw [e]
      next => rfl
    · have hne : q.index ≠ p.index := fun e => hqp (TubePos.index_inj e)
      rw [hx, if_neg hqp, State.clearClaim, State.tubeAt_setTube hform, hclaim, if_neg hne, hclaim]
      by_cases h1 : i = p.index
      · subst h1; simp [hne.symm]
      · by_cases h2 : i = q.index
        · subst h2; simp [hne]
        · simp [h1, h2]
  have htakes : x.takes = s.takes := by rw [hx]; split <;> rfl
  have hlanes : x.lanes = s.lanes := by rw [hx]; split <;> rfl
  have hcur : (s.lane n).current = none := hb.current_none (by simp [Lane.recording, hb.waiting_of_held hq])
  refine h.claimed htakes (fun i => ?_) (h.claims_moved (n := n) (old := some q.index) (new := some p.index) (hb.works_held hq)
    (fun i m e hm => hc m (by rw [Option.some_injective _ e]; exact hm)) ?_ fun i => ?_)
  · rw [State.tubeAt_setLane, htube]
  · refine State.works_setLane (l := { s.lane n with held := some (p, d) }) (fun m => ?_) (fun j => ?_) fun i => ?_
    · rw [State.lane_setLane, State.lane, State.lane, hlanes]; rfl
    · rw [State.takeAt_setLane, State.takeAt, htakes]; rfl
    · simp only [hcur, Option.some_inj, Prod.mk.injEq]
      constructor
      · rintro (⟨q, e, ⟨rfl, rfl⟩, hi⟩ | ⟨k, hk, -⟩)
        · exact hi
        · cases hk
      · exact fun hi => .inl ⟨p, d, ⟨rfl, rfl⟩, hi⟩
  · rw [State.tubeAt_setLane, htube]

/-! ## A take opens -/

theorem TubesMatch.opens (h : TubesMatch s) (hb : Books s) (o : Opening) {q : Pool} {x : Tube} (hk : opensAt s o.slot)
    (hx : x = { s.tubeAt o.pos.index with claim := x.claim })
    (ho : ((s.lane o.lane).held = some (o.pos, o.direction) ∧ x = s.tubeAt o.pos.index) ∨
      ((s.lane o.lane).state = .armed ∧ (∀ m, (s.tubeAt o.pos.index).claim = some m → m = o.lane) ∧ x.claim = some o.lane)) :
    TubesMatch (((s.setPool q).setTube o.pos.index x).openTake o) := by
  set b := (s.setPool q).setTube o.pos.index x with hbdef
  have hbform : b.tubesForm := State.tubesForm_setTube (s := s.setPool q) hb.tubesForm x o.pos.index_lt
  have hfree := hb.blank _ hk.2.2.1
  -- the lane's tube before
  obtain ⟨old, hold, hclaim, hfreetube⟩ : ∃ old : Option Nat, (∀ i, s.works o.lane i ↔ old = some i) ∧
      (x.claim = some o.lane ∧ (old = none ∨ old = some o.pos.index)) ∧
      ∀ m, (s.tubeAt o.pos.index).claim = some m → m = o.lane := by
    obtain ⟨hh, hxe⟩ | ⟨ha, hc, hxc⟩ := ho
    · have hc := (h.claims o.pos.index o.lane).2 ((hb.works_held hh _).2 rfl)
      refine ⟨some o.pos.index, hb.works_held hh, ⟨by rw [hxe, hc], .inr rfl⟩, fun m hm => ?_⟩
      rw [hc] at hm; exact (Option.some_injective _ hm).symm
    · exact ⟨none, hb.works_resting (.inr ha), ⟨hxc, .inl rfl⟩, hc⟩
  have htake (j) : (b.openTake o).takeAt j = if j = o.slot then Take.atOpen s.serialCounter o (s.lane o.lane).cfg.reservation
      else s.takeAt j := State.takeAt_openTake (s := b) hb.takesForm o j
  have hbtube (i) : b.tubeAt i = if i = o.pos.index then x else s.tubeAt i :=
    State.tubeAt_setTube (s := s.setPool q) hb.tubesForm o.pos.index i x
  have htube (i) : (b.openTake o).tubeAt i = if i = o.pos.index then x.opened o.slot else s.tubeAt i := by
    rw [State.tubeAt_openTake hbform, hbtube, if_pos rfl, hbtube]
    split <;> rfl
  have hlane (m) : (b.openTake o).lane m = if m = o.lane then (s.lane o.lane).atOpen o.slot else s.lane m :=
    State.lane_openTake b o m
  have hindex (j i) (hj : (s.takeAt j).tubeIndex = some i) : ((b.openTake o).takeAt j).tubeIndex = some i := by
    rw [htake, if_neg, hj]
    rintro rfl
    rw [hfree] at hj; cases hj
  refine ⟨h.claims_moved (n := o.lane) (old := old) (new := some o.pos.index) hold
    (fun i m e hm => hfreetube m (by rw [Option.some_injective _ e]; exact hm)) (fun m i => ?_) fun i => ?_,
    fun i => ?_, fun i => ?_, fun i j hj => ?_, fun i => ?_⟩
  · -- the lane works the tube of its take
    by_cases hm : m = o.lane
    · subst hm
      rw [if_pos rfl, State.works_current (k := o.slot) (by rw [hlane, if_pos rfl]; rfl) (by rw [hlane, if_pos rfl]; rfl), htake,
        if_pos rfl]
      rfl
    · rw [if_neg hm]
      refine State.works_congr (by rw [hlane, if_neg hm]) (by rw [hlane, if_neg hm]) (fun j hj => ?_) i
      rw [htake, if_neg]
      rintro rfl
      have := (hb.current hj).2.1
      rw [hfree] at this; cases this
  · rw [htube]
    simp only [Option.some_inj, eq_comm (a := o.pos.index)]
    split
    · exact hclaim.1
    next hi =>
      obtain e | e := hclaim.2
      · simp [e]
      · simp [e, Ne.symm hi]
  · -- the tubes in test
    rw [htube]
    have hiff : (∃ j, ((b.openTake o).takeAt j).state.recording = true ∧ ((b.openTake o).takeAt j).tubeIndex = some i) ↔
        o.pos.index = i ∨ s.tests i := by
      constructor
      · rintro ⟨j, hj, hi⟩
        rw [htake] at hj hi
        split at hi
        · exact .inl (Option.some_injective _ hi)
        next hne =>
          rw [if_neg hne] at hj
          exact .inr ⟨j, hj, hi⟩
      · rintro (rfl | ⟨j, hj, hi⟩)
        · exact ⟨o.slot, by rw [htake, if_pos rfl]; rfl, by rw [htake, if_pos rfl]; rfl⟩
        · refine ⟨j, ?_, hindex j i hi⟩
          rw [htake, if_neg, hj]
          rintro rfl
          rw [hfree] at hj; cases hj
    rw [hiff]
    split
    next e => simp [Tube.opened, e]
    next e => rw [h.inTest i]; simp [State.tests, Ne.symm e]
  · -- the SEALED takes
    have hcount : (b.openTake o).sealedOf i = s.sealedOf i := by
      refine (State.sealedOf_setTake_same (s := s) (k := o.slot) hb.takesForm i ?_)
      rw [hfree]; rfl
    have hp : ((b.openTake o).tubeAt i).pending = (s.tubeAt i).pending := by
      rw [htube]; split
      next e => rw [e, hx]; rfl
      next => rfl
    rw [hp, h.pending i]
    exact hcount.symm
  · -- the histories
    rw [htube] at hj
    split at hj
    next e =>
      have hj' := List.mem_of_mem_take hj
      obtain rfl | hj' := List.mem_cons.1 hj'
      · rw [htake, if_pos rfl, e]; rfl
      · refine hindex j i (h.history i j ?_)
        rw [e]; rw [hx] at hj'; exact hj'
    next => exact hindex j i (h.history i j hj)
  · rw [htube]
    split
    next e =>
      have hhist : x.history = (s.tubeAt o.pos.index).history := by rw [hx]
      refine ⟨by simp [Tube.opened], (List.nodup_cons.2 ⟨fun hm => ?_, ?_⟩).sublist (List.take_sublist _ _)⟩
      · rw [hhist] at hm
        have := h.history _ _ hm
        rw [hfree] at this; cases this
      · rw [hhist]; exact (h.short _).2
    next => exact h.short i

end Sys2Proof.Machine
end

section
/-! Seals, verdicts and releases keep the agreement of the tubes, and so does every step (O56). -/

namespace Sys2Proof.Machine

variable {s t u : State} {n : Fin 8} {k : Nat}

/-! ## A seal -/

/-- A tube sealed with its take in the statements' words (R5). -/
theorem Tube.sealed_eq (x : Tube) (st : TakeState) : x.sealed (decide (st = .sealed)) = tubeAfterSeal x st := by
  simp only [Tube.sealed, Tube.recompute, tubeAfterSeal, standing, decide_eq_true_eq]

/-- A recomputed status is not IN_TEST (R3). -/
theorem standing_ne (p : Nat) (m : Bool) (a : Nat) : standing p m a ≠ .inTest := by
  unfold standing; split_ifs <;> exact nofun

/-- The tubes after a seal: that of the take alone has changed. -/
theorem State.tubeAt_sealTube (h : s.tubesForm) (x : Take) (i : Nat) : (s.sealTube x).tubeAt i =
    if x.tubeIndex = some i then tubeAfterSeal (s.tubeAt i) x.state else s.tubeAt i := by
  unfold State.sealTube Take.tubeIndex
  cases hp : x.tube with
  | none => simp
  | some p =>
    dsimp only
    rw [State.tubeAt_setTube h, Tube.sealed_eq]
    simp only [Option.map_some, Option.some_inj, eq_comm (a := i)]
    split
    next e => rw [e]
    next => rfl

theorem TubesMatch.seals (h : TubesMatch s) (hb : Books s) {x : Take} {l : Lane} {line : LaneLine}
    (hk : (s.lane n).current = some k) (hx : TakeTweak (s.takeAt k) x) (hst : x.state = .sealed ∨ x.state = .rejected)
    (hl : LaneRests (s.lane n) l line) (ht : t = { (s.setTake k x).setLaneBoth n l line with tubes := t.tubes })
    (hu : (∀ m p, (s.takeAt k).tube = some p → s.works m p.index → m = n) → t.tubes = ((s.setTake k x).sealTube x).tubes) :
    TubesMatch t := by
  have hwork := hb.works_current hk
  have hxi : x.tubeIndex = (s.takeAt k).tubeIndex := by rw [Take.tubeIndex, hx.tube, Take.tubeIndex]
  have htubes := hu fun m p hp hm => h.works_unique hm ((hwork _).2 (by rw [Take.tubeIndex, hp]; rfl))
  have htube (i) : t.tubeAt i = if (s.takeAt k).tubeIndex = some i then tubeAfterSeal (s.tubeAt i) x.state else s.tubeAt i := by
    rw [State.tubeAt, htubes, ← hxi]
    exact State.tubeAt_sealTube (s := s.setTake k x) hb.tubesForm x i
  have htakes : t.takes = (s.setTake k x).takes := by rw [ht]; rfl
  have htake (j) : t.takeAt j = if j = k then x else s.takeAt j := by
    rw [State.takeAt, htakes]; exact State.takeAt_setTake hb.takesForm k j x
  have hlane (m) : t.lane m = if m = n then l else s.lane m := by rw [ht]; exact State.lane_setLaneBoth _ n m l line
  have hindex (j) : (t.takeAt j).tubeIndex = (s.takeAt j).tubeIndex := by
    rw [htake]; split
    next e => rw [hxi, e]
    next => rfl
  have hxr : x.state.recording = false := by obtain e | e := hst <;> simp [e, TakeState.recording]
  refine ⟨h.claims_moved (n := n) (old := (s.takeAt k).tubeIndex) (new := none) hwork nofun (fun m i => ?_) fun i => ?_,
    fun i => ?_, fun i => ?_, fun i j hj => ?_, fun i => ?_⟩
  · by_cases hm : m = n
    · subst hm
      rw [if_pos rfl]
      exact State.not_works (by rw [hlane, if_pos rfl, hl.held]) (by rw [hlane, if_pos rfl, hl.current]) i
    · rw [if_neg hm]
      exact State.works_congr (by rw [hlane, if_neg hm]) (by rw [hlane, if_neg hm]) (fun j _ => hindex j) i
  · rw [htube]
    simp only [reduceCtorEq, if_false]
    split <;> rfl
  · -- no other take of the tube records
    have hiff : (∃ j, (t.takeAt j).state.recording = true ∧ (t.takeAt j).tubeIndex = some i) ↔
        ∃ j, j ≠ k ∧ (s.takeAt j).state.recording = true ∧ (s.takeAt j).tubeIndex = some i := by
      refine exists_congr fun j => ?_
      rw [hindex, htake]
      by_cases hj : j = k
      · simp [hj, hxr]
      · simp [hj]
    rw [hiff, htube]
    split
    next hi =>
      refine ⟨fun e => absurd e (standing_ne _ _ _), ?_⟩
      rintro ⟨j, hne, hr, hji⟩
      have hcur := hb.lanes.named j hr
      have hlanes := h.works_unique ((hb.works_current hcur i).2 hji) ((hwork i).2 hi)
      rw [hlanes, hk] at hcur
      exact absurd (Option.some_injective _ hcur).symm hne
    next hi =>
      rw [h.inTest i]
      refine exists_congr fun j => ⟨fun hj => ⟨?_, hj⟩, fun hj => hj.2⟩
      rintro rfl
      exact hi hj.2
  · -- the SEALED takes
    have hcount : t.sealedOf i + ((s.takeAt k).sealedOf i).toNat = s.sealedOf i + (x.sealedOf i).toNat := by
      rw [State.sealedOf_congr htakes]; exact s.sealedOf_setTake hb.takesForm k x i
    have hnot : (s.takeAt k).sealedOf i = false := by
      have := (hb.current hk).2.1
      unfold Take.sealedOf
      cases e : (s.takeAt k).state <;> simp_all [TakeState.recording]
    have hp : (s.tubeAt i).pending = s.sealedOf i := h.pending i
    show (t.tubeAt i).pending = t.sealedOf i
    rw [hnot] at hcount
    rw [htube]
    have hxs : x.sealedOf i = (decide (x.state = .sealed) && decide ((s.takeAt k).tubeIndex = some i)) := by
      rw [Take.sealedOf, hxi]
    rw [hxs] at hcount
    split
    next hi =>
      obtain e | e := hst <;> simp [tubeAfterSeal, e, hi] at hcount ⊢ <;> omega
    next hi =>
      simp [hi] at hcount
      omega
  · rw [htube] at hj
    rw [hindex]
    refine h.history i j ?_
    split at hj <;> exact hj
  · rw [htube]
    split <;> exact h.short i

/-! ## Verdicts and releases -/

/-- A take that does not record changes to a state that is not SEALED; its tube's counts and history follow. -/
theorem TubesMatch.verdict (h : TubesMatch s) (hf : s.takesForm) {y : Take} (hk : (s.takeAt k).state.recording = false)
    (hy : y.state.recording = false) (hys : y.state ≠ .sealed) (ht : t.takes = (s.setTake k y).takes) (hl : t.lanes = s.lanes)
    (hcur : ∀ n, (s.lane n).current ≠ some k)
    (hu : ∀ i, (t.tubeAt i).claim = (s.tubeAt i).claim ∧ ((t.tubeAt i).status = .inTest ↔ (s.tubeAt i).status = .inTest) ∧
      (t.tubeAt i).pending = (if (s.takeAt k).tubeIndex = some i then pendingAfter (s.tubeAt i) (s.takeAt k).state
        else (s.tubeAt i).pending) ∧ (t.tubeAt i).history.Sublist (s.tubeAt i).history)
    (hkeep : y.tubeIndex = (s.takeAt k).tubeIndex ∨ ∀ i, k ∉ (t.tubeAt i).history) : TubesMatch t := by
  have htake (j) : t.takeAt j = if j = k then y else s.takeAt j := by
    rw [State.takeAt, ht]; exact State.takeAt_setTake hf k j y
  have hlane (m) : t.lane m = s.lane m := by rw [State.lane, hl, State.lane]
  refine ⟨fun i n => ?_, fun i => ?_, fun i => ?_, fun i j hj => ?_, fun i => ?_⟩
  · rw [(hu i).1, h.claims]
    refine (State.works_congr (by rw [hlane]) (by rw [hlane]) (fun j hj => ?_) i).symm
    rw [htake, if_neg (by rintro rfl; exact hcur n hj)]
  · rw [(hu i).2.1, h.inTest]
    refine exists_congr fun j => ?_
    rw [htake]
    by_cases hj : j = k
    · subst hj; simp [hk, hy]
    · simp [hj]
  · have hcount : t.sealedOf i + ((s.takeAt k).sealedOf i).toNat = s.sealedOf i + (y.sealedOf i).toNat := by
      rw [State.sealedOf_congr ht]; exact s.sealedOf_setTake hf k y i
    have hp : (s.tubeAt i).pending = s.sealedOf i := h.pending i
    have hy0 : y.sealedOf i = false := by simp [Take.sealedOf, hys]
    show (t.tubeAt i).pending = t.sealedOf i
    rw [(hu i).2.2.1]
    rw [hy0] at hcount
    by_cases hi : (s.takeAt k).tubeIndex = some i
    · by_cases hse : (s.takeAt k).state = .sealed
      · simp [Take.sealedOf, hse, hi] at hcount
        simp only [hi, if_true, pendingAfter, hse]
        omega
      · simp [Take.sealedOf, hse] at hcount
        simp only [hi, if_true, pendingAfter, hse, if_false]
        omega
    · simp [Take.sealedOf, hi] at hcount
      simp only [hi, if_false]
      omega
  · have hs := h.history i j ((hu i).2.2.2.subset hj)
    rw [htake]
    split
    next e =>
      subst e
      obtain e | e := hkeep
      · rw [e, hs]
      · exact absurd hj (e i)
    next => exact hs
  · exact ⟨(hu i).2.2.2.length_le.trans (h.short i).1, (h.short i).2.sublist (hu i).2.2.2⟩

/-- A tube after a verdict is IN_TEST as before. -/
theorem tubeAfterVerdict_inTest (x : Tube) (a : Option Nat) (m : Bool) (p : Nat) :
    (tubeAfterVerdict x a m p).status = .inTest ↔ x.status = .inTest := by
  unfold tubeAfterVerdict
  dsimp only
  split
  next e => simp [e]
  next e => exact ⟨fun e' => absurd e' (standing_ne _ _ _), fun e' => absurd e' e⟩

/-- A tube after a release is IN_TEST as before. -/
theorem Tube.release_inTest (x : Tube) (k : Nat) (st : TakeState) : (x.release k st).status = .inTest ↔ x.status = .inTest := by
  rw [Tube.release_eq]
  exact tubeAfterVerdict_inTest x (if x.accepted = some k then none else x.accepted) x.acceptMark (pendingAfter x st)

theorem Books.not_current (h : Books s) (hk : (s.takeAt k).state.recording = false) (n : Fin 8) : (s.lane n).current ≠ some k :=
  fun hc => by simp [(h.current hc).2.1] at hk

/-- The rival of a take goes from ACCEPTED to SUPERSEDED. -/
theorem TubesMatch.supersede (h : TubesMatch s) (hb : Books s) (k : Nat) : TubesMatch (s.supersede k) := by
  unfold State.supersede
  split
  next v hv =>
    obtain ⟨p, -, -, -, hst⟩ := hb.rival hv
    exact h.tweakTake hb.takesForm (k := v) (x := { s.takeAt v with state := .superseded }) rfl (fun i => .refl _) rfl
      (by rw [hst]; rfl) (by rw [hst]; simp) (fun _ => rfl) fun _ => rfl
  next => exact h

/-- The tubes after a change of the record of a take's tube. -/
theorem State.tubeAt_modTubeOf_index (h : s.tubesForm) (k : Nat) (f : Tube → Tube) (i : Nat) : (s.modTubeOf k f).tubeAt i =
    if (s.takeAt k).tubeIndex = some i then f (s.tubeAt i) else s.tubeAt i := by
  unfold State.modTubeOf Take.tubeIndex
  cases hp : (s.takeAt k).tube with
  | none => simp
  | some p =>
    dsimp only
    rw [State.tubeAt_setTube h]
    simp only [Option.map_some, Option.some_inj, eq_comm (a := i)]
    split
    next e => rw [e]
    next => rfl

theorem TubesMatch.accept (h : TubesMatch s) (hb : Books s) (k : Nat) (hv : acceptBy (s.takeAt k).state = .taken) :
    TubesMatch (s.accept k) := by
  have hself : (s.supersede k).takeAt k = s.takeAt k := by
    rw [State.takeAt_supersede hb.takesForm, if_neg fun e => (hb.rival e).choose_spec.2.2.1 rfl]
  have hrec : (s.takeAt k).state.recording = false := by
    cases e : (s.takeAt k).state <;> simp [e, acceptBy, TakeState.recording] at hv ⊢
  have hframe := State.supersede_frame s k
  have hform := hb.takesForm_supersede k
  have hset : ((s.supersede k).setTakeState k .accepted).takeAt k = { s.takeAt k with state := .accepted } := by
    rw [State.takeAt_setTakeState hform, if_pos rfl, hself]
  have htubesForm : ((s.supersede k).setTakeState k .accepted).tubesForm := by
    rw [State.tubesForm, State.setTakeState_frame, hframe]; exact hb.tubesForm
  have htube (i) : (s.accept k).tubeAt i = if (s.takeAt k).tubeIndex = some i then
      tubeAfterVerdict (s.tubeAt i) (some k) true (pendingAfter (s.tubeAt i) (s.takeAt k).state) else s.tubeAt i := by
    rw [State.accept, State.tubeAt_modTubeOf_index htubesForm, hset, State.tubeAt_setTakeState, State.tubeAt_supersede,
      Tube.accept_eq]
    rfl
  refine (h.supersede hb k).verdict (k := k) (y := { s.takeAt k with state := .accepted }) hform (by rw [hself]; exact hrec) rfl
    nofun (by rw [State.accept, State.modTubeOf_frame, State.setTakeState, State.modTake, hself]) ?_ (fun n => ?_) (fun i => ?_) ?_
  · rw [State.accept_frame, hframe]
  · rw [hframe]; exact hb.not_current hrec n
  · rw [htube, hself, State.tubeAt_supersede]
    split
    · exact ⟨rfl, tubeAfterVerdict_inTest _ _ _ _, rfl, .refl _⟩
    · exact ⟨rfl, Iff.rfl, rfl, .refl _⟩
  · rw [hself]; exact .inl rfl

theorem TubesMatch.reject (h : TubesMatch s) (hb : Books s) (k : Nat) (hv : rejectBy (s.takeAt k).state = .taken) :
    TubesMatch (s.reject k) := by
  have hrec : (s.takeAt k).state.recording = false := by
    cases e : (s.takeAt k).state <;> simp [e, rejectBy, TakeState.recording] at hv ⊢
  refine h.verdict (k := k) (y := { s.takeAt k with state := .rejected }) hb.takesForm hrec rfl nofun
    (by rw [State.reject_frame]; rfl) (by rw [State.reject_frame]) (hb.not_current hrec) (fun i => ?_) (.inl rfl)
  rw [State.tubeAt_reject hb.takesForm hb.tubesForm, Tube.reject_eq]
  split
  · split <;> exact ⟨rfl, tubeAfterVerdict_inTest _ _ _ _, rfl, .refl _⟩
  · exact ⟨rfl, Iff.rfl, rfl, .refl _⟩

theorem TubesMatch.release (h : TubesMatch s) (hb : Books s) (k : Nat) (hv : releasable (s.takeAt k).state = true) :
    TubesMatch (s.releaseBefore k) := by
  have hrec : (s.takeAt k).state.recording = false := by
    cases e : (s.takeAt k).state <;> simp [e, releasable, TakeState.recording] at hv ⊢
  have hframe := State.releaseBefore_frame s k
  have htube (i) : (s.releaseBefore k).tubeAt i =
      if (s.takeAt k).tubeIndex = some i then (s.tubeAt i).release k (s.takeAt k).state else s.tubeAt i := by
    rw [hframe]; exact State.tubeAt_modTubeOf_index hb.tubesForm k _ i
  refine h.verdict (k := k) (y := Take.free) hb.takesForm hrec rfl nofun (by rw [hframe]) (by rw [hframe]) (hb.not_current hrec)
    (fun i => ?_) (.inr fun i hi => ?_)
  · rw [htube]
    split
    · refine ⟨?_, Tube.release_inTest _ _ _, ?_, ?_⟩ <;> rw [Tube.release_eq]
      · rfl
      · rfl
      · exact List.filter_sublist
    · exact ⟨rfl, Iff.rfl, rfl, .refl _⟩
  · rw [htube, Tube.release_eq] at hi
    split at hi
    · simp at hi
    next hne => exact hne (h.history i k hi)

/-- A binding counted changes no tube's takes. -/
theorem TubesMatch.countBinding (h : TubesMatch s) (hf : s.takesForm) (w : Window) (f : Nat → Nat) :
    TubesMatch (s.countBinding w f) := by
  unfold State.countBinding
  split
  · exact h.tweakTake hf rfl (fun i => .refl _) rfl rfl Iff.rfl (fun _ => rfl) fun _ => rfl
  · exact h
  · exact h

/-! ## Every move -/

theorem Move.tubesMatch (hm : Move s t) (hb : Books s) (h : TubesMatch s) : TubesMatch t := by
  have same (i) : SameTest (s.tubeAt i) (s.tubeAt i) := .refl _
  cases hm with
  | keep hs => exact h.of_fields hs.lanes hs.takes hs.tubes
  | tweakLane n hl =>
    refine h.same rfl same (fun m => ?_) fun m => ?_ <;> rw [State.lane_setLane] <;> split
    next e => rw [e, hl.held]
    next => rfl
    next e => rw [e, hl.current]
    next => rfl
  | lines v hv => exact h.same rfl same (fun _ => rfl) fun _ => rfl
  | tweakTake k hx hs hr =>
    exact h.tweakTake hb.takesForm rfl same hx.tube (by rw [hs]) (by rw [hs]) (fun _ => rfl) fun _ => rfl
  | plug p g =>
    refine h.same rfl (fun i => ?_) (fun _ => rfl) fun _ => rfl
    rw [State.tubeAt_setTube hb.tubesForm]
    split
    next e => rw [e]; exact ⟨rfl, rfl, rfl, rfl⟩
    next => exact .refl _
  | load l hl => exact h.same rfl same (fun _ => rfl) fun _ => rfl
  | latch p hp hs => exact h.same rfl same (fun _ => rfl) fun _ => rfl
  | shut n hn =>
    have hheld : (s.lane n).held = none := hb.held_none (by obtain e | e := hn <;> simp [e])
    have hcur : (s.lane n).current = none := hb.current_none (by obtain e | e := hn <;> simp [Lane.recording, e])
    have hlane (m) : (s.shutLane n).lane m = if m = n then Lane.disabled (s.lane n).cfg else s.lane m :=
      State.lane_setLane s n m _
    refine h.same rfl same (fun m => ?_) fun m => ?_ <;> rw [hlane] <;> split
    next e => rw [e, hheld]; rfl
    next => rfl
    next e => rw [e, hcur]; rfl
    next => rfl
  | store n k hk hseg hx hs hw hl hno hlt =>
    refine h.tweakTake (k := k) hb.takesForm rfl same hx.tube (by rw [hs]) (by rw [hs]) (fun m => ?_) fun m => ?_ <;>
      rw [State.lane_setLane] <;> split
    next e => rw [e]; exact hl.held
    next => rfl
    next e => rw [e]; exact hl.current
    next => rfl
  | drop n p d hh hr => exact h.drop hb hh hr
  | opens o hload hk hq hu hset hx ho => exact h.opens hb o hk hx ho
  | defer n p d hload hn hc hl ht => exact h.defer hb hn hc hl _
  | replace n q p e d hh hc => exact h.replace hb hh hc
  | unclaim n p hn hc =>
    have hnone : (s.tubeAt p.index).claim = none := by
      cases e : (s.tubeAt p.index).claim with
      | none => rfl
      | some m =>
        have hw := (h.claims p.index m).1 e
        rw [hc m e, hb.works_resting (.inr hn)] at hw
        cases hw
    have hback := State.setTube_tubeAt hb.tubesForm p.index
    have : s.unclaim p = s := by
      rw [State.unclaim, ← hnone]; exact hback
    rw [this]; exact h
  | closing n k f hk hn =>
    have hst := hb.current hk
    have hstate : (s.takeAt k).state = .opened := by
      obtain ⟨-, ⟨-, e⟩ | ⟨e, -⟩⟩ := hb.lanes.current n k hk
      · exact e
      · rw [hn] at e; cases e
    have hlane (m) : (s.enterClosing n k f).lane m = if m = n then { s.lane n with
        state := .closing, finalSeq := f, idle := none, drain := startTimer (s.lane n).cfg.drain } else s.lane m :=
      State.lane_setLane _ n m _
    refine h.tweakTake (k := k) (x := { s.takeAt k with state := .closing }) hb.takesForm rfl same rfl (by rw [hstate]; rfl)
      (by rw [hstate]; simp) (fun m => ?_) fun m => ?_ <;> rw [hlane] <;> split
    next e => rw [e]
    next => rfl
    next e => rw [e]
    next => rfl
  | unreserve k hk hx hs hr hp hset =>
    exact h.tweakTake hb.takesForm rfl same hx.tube (by rw [hs]) (by rw [hs]) (fun _ => rfl) fun _ => rfl
  | seals n k hk hrem hx hr hs hl ht hform hacc hu => exact h.seals hb hk hx hs hl ht hu
  | accept k hv => exact h.accept hb k hv
  | reject k hv => exact h.reject hb k hv
  | release k hv hbind => exact h.release hb k hv
  | bind i w hw =>
    have hb1 := (hb.countBinding s.windows[i] (· - 1) (.inl rfl)).takesForm
    have h1 := h.countBinding hb.takesForm s.windows[i] (· - 1)
    exact TubesMatch.countBinding (h1.of_fields (t := { s.countBinding s.windows[i] (· - 1) with
      windows := (s.countBinding s.windows[i] (· - 1)).windows.set i w }) rfl rfl rfl) hb1 w (· + 1)
  | unbind =>
    have htake := State.takeAt_unbindAll hb.takesForm
    exact h.congr same (fun n => State.works_congr rfl rfl fun k _ => by rw [htake]; rfl)
      (State.tests_congr fun k => by rw [htake]; exact ⟨rfl, rfl⟩) State.sealedOf_unbindAll fun i k _ => by rw [htake]; rfl

/-! ## Every step -/

theorem Change.tubesMatch (hc : Change s t) (hb : Books s) (h : TubesMatch s) : TubesMatch t := by
  cases hc with
  | moves hm => exact (Moves.keeps (P := TubesMatch) Move.tubesMatch hm hb h).2
  | maps _ hm _ =>
    refine h.same hm.takes (fun i => ?_) (fun n => by rw [hm.lane]) fun n => by rw [hm.lane]
    rw [hm.tubes hb.tubesForm i]
    exact ⟨rfl, rfl, rfl, rfl⟩
  | configured n e hd _ hs =>
    refine TubesMatch.of_fields (s := s.setLane n { s.lane n with cfg := LaneConfig.ofEntry e }) ?_ hs.lanes hs.takes hs.tubes
    refine h.same rfl (fun i => .refl _) (fun m => ?_) fun m => ?_ <;> rw [State.lane_setLane] <;> split
    next e => rw [e]
    next => rfl
    next e => rw [e]
    next => rfl
  | armed n _ hd _ hs =>
    refine TubesMatch.of_fields (s := State.armLane n s) ?_ hs.lanes hs.takes hs.tubes
    have hheld : (s.lane n).held = none := hb.held_none (by simp [hd])
    have hcur : (s.lane n).current = none := hb.current_none (by simp [Lane.recording, hd])
    have hlane (m) : (State.armLane n s).lane m =
        if m = n then { Lane.disabled (s.lane n).cfg with state := .armed } else s.lane m := State.lane_setLane s n m _
    refine h.same rfl (fun i => .refl _) (fun m => ?_) fun m => ?_ <;> rw [hlane] <;> split
    next e => rw [e, hheld]; rfl
    next => rfl
    next e => rw [e, hcur]; rfl
    next => rfl

/-- Settles O56: the change that a step makes keeps the agreement of the tubes. -/
theorem tubesMatchAtEveryStep : Obligations.TubesMatchAtEveryStep := by
  intro s t hb h ht
  obtain hc | hp := step_change hb ht
  · exact hc.tubesMatch hb h
  · exact hp.tubesMatch

end Sys2Proof.Machine
end

section
/-! Serials, bindings and chains stay sound at every step (O57). -/

namespace Sys2Proof.Machine

variable {s t u : State} {n : Fin 8} {k : Nat}

/-! ## What a move makes of every take -/

/-- A take that a move changes, but does not open or free. -/
structure TakeKept (x y : Take) : Prop where
  serial : y.serial = x.serial
  bindings : y.bindings = x.bindings
  chain : y.chain = x.chain
  written : y.written = x.written

theorem TakeKept.refl (x : Take) : TakeKept x x := ⟨rfl, rfl, rfl, rfl⟩

theorem TakeTweak.kept {x y : Take} (h : TakeTweak x y) : TakeKept x y := ⟨h.serial, h.bindings, h.chain, h.written⟩

/-- Takes not FREE were not, and keep what ties them to serials, windows and the pool. -/
def TakesKept (s t : State) : Prop := ∀ k, (t.takeAt k).state ≠ .free → (s.takeAt k).state ≠ .free ∧ TakeKept (s.takeAt k) (t.takeAt k)

theorem TakesKept.of_takes (h : t.takes = s.takes) : TakesKept s t := fun k hk => by
  have e : t.takeAt k = s.takeAt k := by rw [State.takeAt, h, State.takeAt]
  rw [e] at hk ⊢
  exact ⟨hk, .refl _⟩

theorem TakesKept.setTake (hf : s.takesForm) {x : Take} (ht : t.takes = (s.setTake k x).takes)
    (hx : x.state ≠ .free → (s.takeAt k).state ≠ .free ∧ TakeKept (s.takeAt k) x) : TakesKept s t := fun j hj => by
  have e : t.takeAt j = if j = k then x else s.takeAt j := by
    rw [State.takeAt, ht]; exact State.takeAt_setTake hf k j x
  rw [e] at hj ⊢
  split at hj
  next e => subst e; rw [if_pos rfl]; exact hx hj
  next e => rw [if_neg e]; exact ⟨hj, .refl _⟩

/-! ## Serials -/

theorem SerialsDistinct.kept (h : SerialsDistinct s) (ht : TakesKept s t) (hc : t.serialCounter = s.serialCounter) :
    SerialsDistinct t where
  below k hk := by
    obtain ⟨hs, hx⟩ := ht k hk
    rw [hx.serial, hc]; exact h.below k hs
  distinct j k hj hk e := by
    obtain ⟨hs, hx⟩ := ht k hk
    obtain ⟨hs', hx'⟩ := ht j hj
    rw [hx.serial, hx'.serial] at e
    exact h.distinct j k hs' hs e
  counter := by rw [hc]; exact h.counter

/-- The serial given to an opening is above all that are held. -/
theorem SerialsDistinct.openTake (h : SerialsDistinct s) (hf : s.takesForm) (o : Opening) (hlt : s.serialCounter < 2 ^ 32) :
    SerialsDistinct (s.openTake o) := by
  have htake := State.takeAt_openTake hf o
  have hc : (s.openTake o).serialCounter = s.serialCounter + 1 := rfl
  have hb (j) (hj : ((s.openTake o).takeAt j).state ≠ .free) (hne : j ≠ o.slot) :
      (s.takeAt j).state ≠ .free ∧ ((s.openTake o).takeAt j).serial = (s.takeAt j).serial := by
    rw [htake, if_neg hne] at hj ⊢
    exact ⟨hj, rfl⟩
  have hn : ((s.openTake o).takeAt o.slot).serial = s.serialCounter := by rw [htake, if_pos rfl]; rfl
  refine ⟨fun j hj => ?_, fun j k hj hk e => ?_, ?_⟩
  · by_cases hne : j = o.slot
    · subst hne
      rw [hn, hc]; exact ⟨h.counter.1, Nat.lt_succ_self _⟩
    · obtain ⟨h1, h2⟩ := hb j hj hne
      have := h.below j h1
      rw [h2, hc]; omega
  · by_cases hjo : j = o.slot <;> by_cases hko : k = o.slot
    · rw [hjo, hko]
    · subst hjo
      obtain ⟨h1, h2⟩ := hb k hk hko
      have := (h.below k h1).2
      rw [hn, h2] at e; omega
    · subst hko
      obtain ⟨h1, h2⟩ := hb j hj hjo
      have := (h.below j h1).2
      rw [hn, h2] at e; omega
    · obtain ⟨h1, h2⟩ := hb j hj hjo
      obtain ⟨h3, h4⟩ := hb k hk hko
      rw [h2, h4] at e
      exact h.distinct j k h1 h3 e
  · rw [hc]
    simp only [Config.spentSerial]
    omega

/-! ## Bindings -/

theorem BindingsMatch.congr (h : BindingsMatch s) (hw : t.windows = s.windows) (hb : ∀ k, (t.takeAt k).bindings = (s.takeAt k).bindings) :
    BindingsMatch t := fun k => by rw [hb, hw]; exact h k

/-- Where the takes keep their bindings, and a FREE one has none. -/
theorem BindingsMatch.kept (h : BindingsMatch s) (hw : t.windows = s.windows) (ht : TakesKept s t)
    (hfree : ∀ k, (t.takeAt k).state = .free → (t.takeAt k).bindings = (s.takeAt k).bindings) : BindingsMatch t :=
  h.congr hw fun k => by
    by_cases hk : (t.takeAt k).state = .free
    · exact hfree k hk
    · exact (ht k hk).2.bindings

/-- The take table of a binding's replacement does not see the window between its two counts. -/
theorem State.takeAt_bindWindow (i : Fin 16) (w : Window) (k : Nat) : (s.bindWindow i w).takeAt k =
    ((s.countBinding s.windows[i] (· - 1)).countBinding w (· + 1)).takeAt k := by
  unfold State.bindWindow
  dsimp only
  generalize s.countBinding s.windows[i] (· - 1) = x
  cases w <;> rfl

/-- The bindings of a take once a window's binding is replaced (R130). -/
theorem State.bindings_bindWindow (hf : s.takesForm) (i : Fin 16) (w : Window)
    (hform : (s.countBinding s.windows[i] (· - 1)).takesForm) (k : Nat) : ((s.bindWindow i w).takeAt k).bindings =
      (s.takeAt k).bindings - (if s.windows[i] = .take k then 1 else 0) + (if w = .take k then 1 else 0) := by
  rw [State.takeAt_bindWindow, State.takeAt_countBinding hform, State.takeAt_countBinding hf]
  by_cases ha : s.windows[i] = .take k <;> by_cases hb : w = .take k <;> simp only [ha, hb, if_true, if_false] <;> rfl

theorem BindingsMatch.bind (h : BindingsMatch s) (hf : s.takesForm) (i : Fin 16) (w : Window)
    (hform : (s.countBinding s.windows[i] (· - 1)).takesForm) : BindingsMatch (s.bindWindow i w) := by
  intro k
  have hwin : (s.bindWindow i w).windows = s.windows.set i w := by rw [State.bindWindow_frame]
  have hlen : i.val < s.windows.toList.length := by simp
  rw [State.bindings_bindWindow hf i w hform, hwin, Vector.toList_set, List.countP_set hlen, h k]
  simp only [decide_eq_true_eq, Vector.getElem_toList]
  rfl

theorem BindingsMatch.unbind (hf : s.takesForm) : BindingsMatch s.unbindAll := by
  intro k
  rw [State.takeAt_unbindAll hf]
  rfl

/-! ## Chains -/

/-- Where the takes keep their chains, and each lane its take and its next offset or has none. -/
theorem ChainsMatchLengths.kept (h : ChainsMatchLengths s) (ht : TakesKept s t)
    (hn : ∀ n k, (t.lane n).current = some k → (s.lane n).current = some k ∧ (t.lane n).nextOffset = (s.lane n).nextOffset ∧
      (t.takeAt k).state ≠ .free) : ChainsMatchLengths t where
  lengths k hk := by
    obtain ⟨hs, hx⟩ := ht k hk
    rw [hx.written, hx.chain]; exact h.lengths k hs
  next n k hk := by
    obtain ⟨h1, h2, h3⟩ := hn n k hk
    rw [(ht k h3).2.written, h2]; exact h.next n k h1

/-- One more unit: the chain has grown by a segment exactly where the last one was full. -/
theorem SegmentTaken.length {q p : Pool} {x : Take} {chain : List Nat} {r : Nat}
    (h : SegmentTaken q x x.written p chain r) (hw : x.written % Config.unitBytes = 0)
    (hl : x.chain.length = ceilDiv x.written Config.segmentBytes) :
    chain.length = ceilDiv (x.written + 64) Config.segmentBytes := by
  simp only [ceilDiv, Config.unitBytes, Config.segmentBytes] at hw hl ⊢
  cases h with
  | inside ho =>
    simp only [Config.segmentBytes] at ho
    omega
  | own ho =>
    simp only [Config.segmentBytes] at ho
    rw [List.length_append, List.length_singleton]
    omega
  | shared ho =>
    simp only [Config.segmentBytes] at ho
    rw [List.length_append, List.length_singleton]
    omega

end Sys2Proof.Machine
end

section
/-! Serials, bindings and chains: every move and every step (O57). -/

namespace Sys2Proof.Machine

variable {s t u : State} {n : Fin 8} {k : Nat}

/-- What a change makes of the take records: each of the three invariants on them is kept. -/
structure RecordsSound (s t : State) : Prop where
  serials : SerialsDistinct s → SerialsDistinct t
  bindings : BindingsMatch s → BindingsMatch t
  chains : ChainsMatchLengths s → ChainsMatchLengths t

theorem RecordsSound.trans (h : RecordsSound s t) (h' : RecordsSound t u) : RecordsSound s u :=
  ⟨h'.serials ∘ h.serials, h'.bindings ∘ h.bindings, h'.chains ∘ h.chains⟩

/-- A change that opens no take, records no unit and binds no window. -/
structure RecordsKept (s t : State) : Prop where
  takes : TakesKept s t
  bindings : ∀ k, (t.takeAt k).bindings = (s.takeAt k).bindings
  counter : t.serialCounter = s.serialCounter
  windows : t.windows = s.windows
  lanes : ∀ n k, (t.lane n).current = some k → (s.lane n).current = some k ∧ (t.lane n).nextOffset = (s.lane n).nextOffset

theorem RecordsKept.sound (h : RecordsKept s t) (ht : Books t) : RecordsSound s t where
  serials hs := hs.kept h.takes h.counter
  bindings hs := hs.congr h.windows h.bindings
  chains hs := hs.kept h.takes fun n k hk => by
    obtain ⟨hc, hn⟩ := h.lanes n k hk
    exact ⟨hc, hn, ht.busy_of_current hk⟩

/-- A lane that keeps its take and its next offset, or has no take any more. -/
theorem lanes_kept {l : Lane} (hl : ∀ m, t.lane m = if m = n then l else s.lane m)
    (h : l.current = none ∨ l.current = (s.lane n).current ∧ l.nextOffset = (s.lane n).nextOffset) (m : Fin 8) (k : Nat)
    (hk : (t.lane m).current = some k) : (s.lane m).current = some k ∧ (t.lane m).nextOffset = (s.lane m).nextOffset := by
  rw [hl] at hk ⊢
  split at hk
  next e =>
    rw [if_pos e, e]
    obtain h | ⟨hc, hn⟩ := h
    · rw [h] at hk; cases hk
    · exact ⟨hc ▸ hk, hn⟩
  next e => rw [if_neg e]; exact ⟨hk, rfl⟩

/-- A change of one lane alone. -/
theorem RecordsKept.lane {l : Lane} (ht : t.takes = s.takes) (hc : t.serialCounter = s.serialCounter) (hw : t.windows = s.windows)
    (hl : ∀ m, t.lane m = if m = n then l else s.lane m)
    (h : l.current = none ∨ l.current = (s.lane n).current ∧ l.nextOffset = (s.lane n).nextOffset) : RecordsKept s t :=
  ⟨.of_takes ht, fun k => by simp only [State.takeAt, ht], hc, hw, lanes_kept hl h⟩

/-- A change of no lane and no take. -/
theorem RecordsKept.rest (ht : t.takes = s.takes) (hc : t.serialCounter = s.serialCounter) (hw : t.windows = s.windows)
    (hl : t.lanes = s.lanes) : RecordsKept s t :=
  ⟨.of_takes ht, fun k => by simp only [State.takeAt, ht], hc, hw, fun m j hj => by
    simp only [State.lane, hl] at hj ⊢; exact ⟨hj, trivial⟩⟩

/-- A change of one take, with its lane or not. -/
theorem RecordsKept.take (hf : s.takesForm) {x : Take} (ht : t.takes = (s.setTake k x).takes)
    (hc : t.serialCounter = s.serialCounter) (hw : t.windows = s.windows) (hx : TakeTweak (s.takeAt k) x)
    (hl : ∀ m j, (t.lane m).current = some j → (s.lane m).current = some j ∧ (t.lane m).nextOffset = (s.lane m).nextOffset) :
    RecordsKept s t where
  takes := .setTake hf ht fun _ => ⟨hx.busy, hx.kept⟩
  bindings j := by
    rw [State.takeAt, ht]
    refine (congrArg Take.bindings (State.takeAt_setTake hf k j x)).trans ?_
    split
    next e => rw [e, hx.bindings]
    next => rfl
  counter := hc
  windows := hw
  lanes := hl

theorem RecordsKept.takeRemoved (hf : s.takesForm) (ht : t.takes = (s.setTake k Take.free).takes)
    (hc : t.serialCounter = s.serialCounter) (hw : t.windows = s.windows) (hk : (s.takeAt k).bindings = 0) (hl : t.lanes = s.lanes) :
    RecordsKept s t where
  takes := .setTake hf ht fun h => absurd rfl h
  bindings j := by
    rw [State.takeAt, ht]
    refine (congrArg Take.bindings (State.takeAt_setTake hf k j Take.free)).trans ?_
    split
    next e => rw [e, hk]; rfl
    next => rfl
  counter := hc
  windows := hw
  lanes m j hj := by simp only [State.lane, hl] at hj ⊢; exact ⟨hj, trivial⟩

/-- A take whose state alone is one of another sort of take: ACCEPT_TAKE, REJECT_TAKE. -/
theorem RecordsKept.states (ht : ∀ j, ∃ st, t.takeAt j = { s.takeAt j with state := st } ∧ ((s.takeAt j).state = .free → st = .free))
    (hc : t.serialCounter = s.serialCounter) (hw : t.windows = s.windows) (hl : t.lanes = s.lanes) : RecordsKept s t where
  takes j hj := by
    obtain ⟨st, e, hfree⟩ := ht j
    rw [e] at hj ⊢
    exact ⟨fun h => hj (hfree h), rfl, rfl, rfl, rfl⟩
  bindings j := by
    obtain ⟨st, e, -⟩ := ht j
    rw [e]
  counter := hc
  windows := hw
  lanes m j hj := by simp only [State.lane, hl] at hj ⊢; exact ⟨hj, trivial⟩

/-! ## The moves that open, record and bind -/

theorem RecordsSound.store (hb : Books s) (n : Fin 8) (k : Nat) {p : Pool} {x : Take} {l : Lane} (hk : (s.lane n).current = some k)
    (hseg : SegmentTaken s.pool (s.takeAt k) (s.lane n).nextOffset p x.chain x.remaining)
    (hx : TakeTweak (s.takeAt k) { x with chain := (s.takeAt k).chain, written := (s.takeAt k).written })
    (hs : x.state = (s.takeAt k).state) (hw : x.written = (s.takeAt k).written + 64)
    (hl : LaneTweak (s.lane n) { l with nextOffset := (s.lane n).nextOffset }) (hno : l.nextOffset = (s.lane n).nextOffset + 64)
    (hlt : (s.lane n).nextOffset < Config.apertureBytes) : RecordsSound s (((s.setPool p).setTake k x).setLane n l) := by
  have htake (j) : (((s.setPool p).setTake k x).setLane n l).takeAt j = if j = k then x else s.takeAt j :=
    State.takeAt_setTake (s := s.setPool p) hb.takesForm k j x
  have hlane (m) : (((s.setPool p).setTake k x).setLane n l).lane m = if m = n then l else s.lane m :=
    State.lane_setLane _ n m l
  have hser (j) : ((((s.setPool p).setTake k x).setLane n l).takeAt j).serial = (s.takeAt j).serial := by
    rw [htake]; split
    next e => rw [e]; exact hx.serial
    next => rfl
  have hbusy (j) (hj : ((((s.setPool p).setTake k x).setLane n l).takeAt j).state ≠ .free) : (s.takeAt j).state ≠ .free := by
    rw [htake] at hj; split at hj
    next e => rw [e]; exact hx.busy
    next => exact hj
  refine ⟨fun h => ⟨fun j hj => ?_, fun i j hi hj e => ?_, h.counter⟩, fun h => h.congr rfl fun j => ?_,
    fun h => ⟨fun j hj => ?_, fun m j hj => ?_⟩⟩
  · rw [hser]; exact h.below j (hbusy j hj)
  · rw [hser, hser] at e; exact h.distinct i j (hbusy i hi) (hbusy j hj) e
  · rw [htake]; split
    next e => rw [e]; exact hx.bindings
    next => rfl
  · obtain ⟨hm, hle, hlen⟩ := h.lengths j (hbusy j hj)
    rw [htake]; split
    next e =>
      subst e
      have hnext := h.next n j hk
      rw [← hnext] at hseg hlt
      refine ⟨by rw [hw]; simp only [Config.unitBytes] at hm ⊢; omega, ?_, by rw [hw]; exact hseg.length hm hlen⟩
      rw [hw]; simp only [Config.unitBytes, Config.apertureBytes] at hm hlt ⊢; omega
    next => exact ⟨hm, hle, hlen⟩
  · rw [hlane] at hj ⊢
    rw [htake]
    split at hj
    next e =>
      subst e
      have hcur : l.current = (s.lane m).current := hl.current
      rw [hcur, hk] at hj
      obtain rfl := Option.some.inj hj
      rw [if_pos rfl, if_pos rfl, hw, hno, h.next m k hk]
    next e =>
      have hne : j ≠ k := fun he => e <| by
        subst he
        obtain ⟨h2, -⟩ := hb.lanes.current n j hk
        obtain ⟨h3, -⟩ := hb.lanes.current m j hj
        exact h3.symm.trans h2
      rw [if_neg e, if_neg hne]; exact h.next m j hj

theorem RecordsSound.opens (hb : Books s) (o : Opening) {q : Pool} {x : Tube} (hk : opensAt s o.slot)
    : RecordsSound s (((s.setPool q).setTube o.pos.index x).openTake o) := by
  obtain ⟨hlt, -, hfree, -⟩ := hk
  have hform : ((s.setPool q).setTube o.pos.index x).takesForm := hb.takesForm
  have htake := State.takeAt_openTake hform o
  have hlane := State.lane_openTake ((s.setPool q).setTube o.pos.index x) o
  refine ⟨fun h => SerialsDistinct.openTake (s := (s.setPool q).setTube o.pos.index x) ⟨h.below, h.distinct, h.counter⟩ hform o hlt, fun h => h.congr rfl fun j => ?_,
    fun h => ⟨fun j hj => ?_, fun m j hj => ?_⟩⟩
  · rw [htake]; split
    next e =>
      rw [e, hb.blank _ hfree]; rfl
    next => rfl
  · rw [htake] at hj ⊢; split
    next => exact ⟨rfl, Nat.zero_le _, (by decide : 0 = ceilDiv 0 Config.segmentBytes)⟩
    next e => rw [if_neg e] at hj; exact h.lengths j hj
  · rw [hlane] at hj ⊢
    rw [htake]
    split at hj
    next e =>
      obtain rfl := Option.some.inj hj
      rw [if_pos rfl, if_pos e]; rfl
    next e =>
      have hne : j ≠ o.slot := fun he => by
        subst he
        exact hb.busy_of_current hj hfree
      rw [if_neg e, if_neg hne]; exact h.next m j hj

/-- A change of the windows, counted in the bindings alone. -/
theorem RecordsSound.rebound (htake : ∀ j, ∃ c, t.takeAt j = { s.takeAt j with bindings := c })
    (hc : t.serialCounter = s.serialCounter) (hl : t.lanes = s.lanes) (hbind : BindingsMatch s → BindingsMatch t) :
    RecordsSound s t := by
  have hfield {β : Type} (f : Take → β) (hf : ∀ x c, f { x with bindings := c } = f x) (j) : f (t.takeAt j) = f (s.takeAt j) := by
    obtain ⟨c, e⟩ := htake j
    rw [e, hf]
  have hstate := hfield Take.state fun _ _ => rfl
  have hserial := hfield Take.serial fun _ _ => rfl
  have hwritten := hfield Take.written fun _ _ => rfl
  have hchain := hfield Take.chain fun _ _ => rfl
  refine ⟨fun h => ⟨fun j => ?_, fun i j => ?_, hc ▸ h.counter⟩, hbind, fun h => ⟨fun j => ?_, fun m j => ?_⟩⟩
  · rw [hstate, hserial, hc]; exact h.below j
  · rw [hstate, hstate, hserial, hserial]; exact h.distinct i j
  · rw [hstate, hwritten, hchain]; exact h.lengths j
  · rw [hwritten, State.lane, hl]; exact h.next m j

theorem Move.recordsSound (hm : Move s t) (hb : Books s) : RecordsSound s t := by
  have ht := hm.books hb
  cases hm with
  | keep hs =>
    exact RecordsKept.sound (s := s) (RecordsKept.rest hs.takes hs.serialCounter hs.windows hs.lanes) ht
  | tweakLane n hl =>
    exact RecordsKept.sound (s := s) (RecordsKept.lane (n := n) rfl rfl rfl (fun m => State.lane_setLane s n m _) (.inr ⟨hl.current, hl.nextOffset⟩)) ht
  | lines v hv => exact RecordsKept.sound (s := s) (RecordsKept.rest rfl rfl rfl rfl) ht
  | tweakTake k hx hs hr =>
    exact RecordsKept.sound (s := s) (RecordsKept.take hb.takesForm rfl rfl rfl hx fun _ _ hj => ⟨hj, rfl⟩) ht
  | plug p g => exact RecordsKept.sound (s := s) (RecordsKept.rest rfl rfl rfl rfl) ht
  | load l hl => exact RecordsKept.sound (s := s) (RecordsKept.rest rfl rfl rfl rfl) ht
  | latch p hp hs => exact RecordsKept.sound (s := s) (RecordsKept.rest rfl rfl rfl rfl) ht
  | shut n hn =>
    exact RecordsKept.sound (s := s) (RecordsKept.lane (n := n) (l := Lane.disabled (s.lane n).cfg) rfl rfl rfl (fun m => State.lane_setLane s n m _)
      (.inl rfl)) ht
  | store n k hk hseg hx hs hw hl hno hlt => exact .store hb n k hk hseg hx hs hw hl hno hlt
  | drop n p d hh hr =>
    exact RecordsKept.sound (s := s) (RecordsKept.lane (n := n) rfl rfl rfl (fun m => State.lane_setLaneBoth _ n m _ _) (.inl hr.current)) ht
  | opens o hload hk hq hu hset hx ho =>
    exact .opens hb o hk
  | defer n p d hload hn hc hl hadm =>
    refine RecordsKept.sound (s := s) (RecordsKept.lane (n := n) rfl rfl rfl (fun m => State.lane_setLane _ n m _) (.inl ?_)) ht
    rw [hl]
    exact hb.current_none (by simp [Lane.recording, hn])
  | replace n q p e d hh hc =>
    have hnone : (s.lane n).current = none := hb.current_none (by simp [Lane.recording, hb.waiting_of_held hh])
    refine RecordsKept.sound (s := s) ?_ ht
    split
    next => exact RecordsKept.lane (n := n) rfl rfl rfl (fun m => State.lane_setLane _ n m _) (.inl hnone)
    next => exact RecordsKept.lane (n := n) rfl rfl rfl (fun m => State.lane_setLane _ n m _) (.inl hnone)
  | unclaim n p hn hc => exact RecordsKept.sound (s := s) (RecordsKept.rest rfl rfl rfl rfl) ht
  | closing n k f hk hn =>
    exact RecordsKept.sound (s := s) (RecordsKept.take (x := { s.takeAt k with state := .closing }) hb.takesForm rfl rfl rfl
      ⟨hb.busy_of_current hk, rfl, rfl, rfl, rfl, rfl, rfl⟩
      (lanes_kept (n := n) (fun m => State.lane_setLane _ n m _) (.inr ⟨rfl, rfl⟩))) ht
  | unreserve k hk hx hs hr hp hset =>
    exact RecordsKept.sound (s := s) (RecordsKept.take hb.takesForm rfl rfl rfl hx fun _ _ hj => ⟨hj, rfl⟩) ht
  | @seals _ n k x l line hk hrem hx hr hs hl hteq hform hacc hu =>
    refine RecordsKept.sound (s := s) (RecordsKept.take hb.takesForm ?_ ?_ ?_ hx (lanes_kept (n := n) (fun m => ?_) (.inl hl.current))) ht <;> rw [hteq]
    · rfl
    · rfl
    · rfl
    · exact State.lane_setLaneBoth (s.setTake k x) n m l line
  | accept k hv =>
    have hbusy : (s.takeAt k).state ≠ .free := fun e => by simp [e, acceptBy] at hv
    refine RecordsKept.sound (s := s) (RecordsKept.states (fun j => ?_) ?_ ?_ ?_) ht
    · rw [hb.takeAt_accept]
      split
      next e => subst e; exact ⟨.accepted, rfl, fun e => absurd e hbusy⟩
      next =>
        split
        next hr =>
          obtain ⟨p, -, -, -, hst⟩ := hb.rival hr
          exact ⟨.superseded, rfl, fun e => by rw [hst] at e; cases e⟩
        next => exact ⟨_, rfl, id⟩
    all_goals rw [State.accept_frame]
  | reject k hv =>
    have hbusy : (s.takeAt k).state ≠ .free := fun e => by simp [e, rejectBy] at hv
    refine RecordsKept.sound (s := s) (RecordsKept.states (fun j => ?_) ?_ ?_ ?_) ht
    · rw [State.takeAt_reject hb.takesForm]
      split
      next e => subst e; exact ⟨.rejected, rfl, fun e => absurd e hbusy⟩
      next => exact ⟨_, rfl, id⟩
    all_goals rw [State.reject_frame]
  | release k hv hbind =>
    refine RecordsKept.sound (s := s) (RecordsKept.takeRemoved hb.takesForm ?_ ?_ ?_ hbind ?_) ht <;> rw [State.releaseBefore_frame]
  | bind i w hw =>
    have hform := (hb.countBinding s.windows[i] (· - 1) (.inl rfl)).takesForm
    have htake (j) : ∃ c, (s.bindWindow i w).takeAt j = { s.takeAt j with bindings := c } := by
      rw [State.takeAt_bindWindow, State.takeAt_countBinding hform, State.takeAt_countBinding hb.takesForm]
      split <;> split <;> exact ⟨_, rfl⟩
    have hlanes : (s.bindWindow i w).lanes = s.lanes := by rw [State.bindWindow_frame]
    exact .rebound htake (by rw [State.bindWindow_frame]) hlanes fun h => h.bind hb.takesForm i w hform
  | unbind =>
    exact .rebound (fun j => ⟨0, State.takeAt_unbindAll hb.takesForm j⟩) rfl rfl fun _ => .unbind hb.takesForm

/-! ## Every step -/

theorem SameBooks.recordsSound (hs : SameBooks s t) (ht : Books t) : RecordsSound s t :=
  (RecordsKept.rest hs.takes hs.serialCounter hs.windows hs.lanes).sound ht

theorem Change.recordsSound (hc : Change s t) (hb : Books s) : RecordsSound s t := by
  have hbt := hc.books hb
  cases hc with
  | moves hm =>
    clear hbt
    induction hm with
    | refl => exact ⟨id, id, id⟩
    | tail hm hlast ih => exact ih.trans (hlast.recordsSound (Moves.books hm hb))
  | maps _ hm _ => exact (RecordsKept.rest hm.takes hm.serialCounter hm.windows hm.lanes).sound hbt
  | configured n e hd hin hs =>
    have hmid : RecordsKept s (s.setLane n { s.lane n with cfg := LaneConfig.ofEntry e }) :=
      .lane (n := n) rfl rfl rfl (fun m => State.lane_setLane s n m _) (.inr ⟨rfl, rfl⟩)
    exact (hmid.sound (hb.configure n _ hd)).trans (hs.recordsSound hbt)
  | armed n hmode hd hcons hs =>
    have hmid : RecordsKept s (State.armLane n s) := .lane (n := n) rfl rfl rfl (fun m => State.lane_setLane s n m _) (.inl rfl)
    exact (hmid.sound (hb.rest n (.inl hd) (Lane.armed_rests _ _))).trans (hs.recordsSound hbt)

/-- Settles O57: the change that a step makes keeps what the takes' records say of serials, windows and the pool. -/
theorem takeRecordsStaySoundAtEveryStep : Obligations.TakeRecordsStaySoundAtEveryStep := by
  intro s t hb ht
  obtain hc | hp := step_change hb ht
  · obtain ⟨hs, hw, hl⟩ := hc.recordsSound hb
    exact ⟨hs, hw, hl⟩
  · exact ⟨fun _ => hp.serialsDistinct, fun _ => hp.bindingsMatch, fun _ => hp.chainsMatchLengths⟩

end Sys2Proof.Machine
end

section
/-! Steps, resets and the frame of the link: what the link sends and how it goes on, which commands are taken in power-on reset and
outside RECEIVING (O1, O3, O4, O5, O7, O8). -/

namespace Sys2Proof.Machine

variable {s t u : State} {n : Fin 8} {k : Nat}

/-- Settles O1: the step is defined so. -/
theorem stepRunsFrontCommand : Obligations.StepRunsFrontCommand := by
  intro c s rest h
  rw [step, h]

/-! ## What the link sends -/

/-- What the link still has to send once the request has been taken: the WAIT bytes and the reply (R176). -/
def Link.sends (l : Link) : List Byte :=
  match l.phase with
  | .working => List.replicate l.waitLeft waitByte ++ l.reply
  | .replying => l.reply
  | .idle => []
  | .receiving => []
  | .trailing => []

/-- One byte clocked returns the first byte to send, or the idle byte. -/
theorem Link.clockOne_byte (l : Link) : l.clockOne.2 = l.sends.headD idleByte := by
  obtain ⟨phase, wait, reply⟩ := l
  cases phase with
  | working => cases wait <;> cases reply <;> rfl
  | replying => cases reply <;> rfl
  | idle => rfl
  | receiving => rfl
  | trailing => rfl

/-- One byte clocked leaves the other bytes to send. -/
theorem Link.sends_clockOne (l : Link) : l.clockOne.1.sends = l.sends.tail := by
  obtain ⟨phase, wait, reply⟩ := l
  cases phase with
  | working =>
    cases wait with
    | succ w => rfl
    | zero =>
      cases reply with
      | nil => rfl
      | cons b bs => cases bs <;> rfl
  | replying =>
    cases reply with
    | nil => rfl
    | cons b bs => cases bs <;> rfl
  | idle => rfl
  | receiving => rfl
  | trailing => rfl

/-- The bytes returned are those to send, then idle bytes, as far as the host clocks. -/
theorem Link.clock_bytes (l : Link) (n : Nat) : (l.clock n).2 = (l.sends ++ List.replicate n idleByte).take n := by
  induction n generalizing l with
  | zero => rfl
  | succ n ih =>
    rw [Link.clock]
    simp only
    rw [ih, Link.clockOne_byte, Link.sends_clockOne]
    cases l.sends with
    | nil => simp [List.replicate_succ]
    | cons b bs =>
      simp only [List.headD_cons, List.tail_cons, List.cons_append, List.take_succ_cons, List.cons.injEq, true_and,
        List.take_append, List.take_replicate]
      congr 2; omega

/-- One byte clocked leads the link on (R176). -/
theorem Link.after_clockOne {l : Link} (h : l.phase = .working ∨ l.phase = .replying → l.reply ≠ []) (n : Nat) :
    linkAfter l.clockOne.1 n = linkAfter l (n + 1) := by
  obtain ⟨phase, wait, reply⟩ := l
  cases phase with
  | idle => rfl
  | receiving => rfl
  | trailing => rfl
  | working =>
    cases wait with
    | succ w =>
      simp only [Link.clockOne, linkAfter, Nat.add_le_add_iff_right, Nat.add_sub_add_right]
      congr 3
      simp only [eq_iff_iff]; omega
    | zero =>
      cases reply with
      | nil => exact absurd rfl (h (.inl rfl))
      | cons b bs => cases bs <;> simp [Link.clockOne, linkAfter]
  | replying =>
    cases reply with
    | nil => exact absurd rfl (h (.inr rfl))
    | cons b bs => cases bs <;> simp [Link.clockOne, linkAfter]

/-- While a reply is under way it has bytes left after each byte clocked, or it is complete. -/
theorem Link.reply_clockOne {l : Link} (h : l.phase = .working ∨ l.phase = .replying → l.reply ≠ []) :
    l.clockOne.1.phase = .working ∨ l.clockOne.1.phase = .replying → l.clockOne.1.reply ≠ [] := by
  obtain ⟨phase, wait, reply⟩ := l
  cases phase with
  | working =>
    cases wait with
    | succ w => exact h
    | zero =>
      cases reply with
      | nil => exact h
      | cons b bs => cases bs <;> simp [Link.clockOne]
  | replying =>
    cases reply with
    | nil => exact h
    | cons b bs => cases bs <;> simp [Link.clockOne]
  | idle => exact h
  | receiving => exact h
  | trailing => exact h

theorem Link.after_zero {l : Link} (h : l.phase = .working ∨ l.phase = .replying → l.reply ≠ []) : linkAfter l 0 = l := by
  obtain ⟨phase, wait, reply⟩ := l
  cases phase with
  | working => simp [linkAfter]
  | replying => simp [linkAfter, List.length_pos_iff.2 (h (.inr rfl))]
  | idle => rfl
  | receiving => rfl
  | trailing => rfl

/-- The link after `n` bytes clocked, its reply under way or complete. -/
theorem Link.clock_after {l : Link} (h : l.phase = .working ∨ l.phase = .replying → l.reply ≠ []) (n : Nat) :
    (l.clock n).1 = linkAfter l n := by
  induction n generalizing l with
  | zero => exact (Link.after_zero h).symm
  | succ n ih => rw [Link.clock, ih (Link.reply_clockOne h), Link.after_clockOne h]

/-- The bytes of an advance, whatever the phase. -/
theorem Link.advance_after {l : Link} (h : l.phase = .working ∨ l.phase = .replying → l.reply ≠ []) (n : Nat) :
    l.advance n = linkAfter l n := by
  obtain ⟨phase, wait, reply⟩ := l
  cases phase with
  | idle => rfl
  | receiving => rfl
  | working => exact Link.clock_after h n
  | replying => exact Link.clock_after h n
  | trailing => exact Link.clock_after h n

/-- The bytes that the host receives for those it clocks are as R176 gives them. -/
theorem State.clockedBytes_received (clocked : List Byte) (h : s.pins.selectLow = true) :
    HostReceives s clocked (s.clockedBytes clocked) := by
  have hclock (hp : s.link.phase ≠ .idle ∧ s.link.phase ≠ .receiving) : s.clockedBytes clocked = (s.link.clock clocked.length).2 := by
    unfold State.clockedBytes
    split <;> simp_all
  have hfront (hp : s.link.phase = .receiving) : s.clockedBytes clocked = untakenBytes clocked := by
    unfold State.clockedBytes; rw [hp]
  have hcount : receivingCount clocked =
      if 6 ≤ clocked.length then min clocked.length (7 + declaredLength clocked) else clocked.length := rfl
  constructor
  · intro e; rw [h] at e; cases e
  · intro _
    unfold State.clockedBytes
    split <;> simp only [List.length_map, List.length_range, Link.clock_length, untakenBytes, List.length_append,
      List.length_replicate]
    split at hcount <;> omega
  · intro _ hp hlen
    have : receivingCount clocked = clocked.length := by split at hcount <;> omega
    rw [hfront hp, untakenBytes, this]; simp [idleByte]
  · intro _ hp h6 hle
    have : receivingCount clocked = 7 + declaredLength clocked := by rw [hcount, if_pos h6]; omega
    rw [hfront hp, untakenBytes, this]; rfl
  · intro _ hp
    rw [hclock (by simp [hp]), Link.clock_bytes, Link.sends, hp]; rfl
  · intro _ hp
    rw [hclock (by simp [hp]), Link.clock_bytes, Link.sends, hp]; rfl
  · intro _ hp
    rw [hclock (by simp [hp]), Link.clock_trailing hp]; rfl

/-- What the host receives, out of power-on reset, where no bytes stood on the outputs. -/
theorem State.clockBytes_received (clocked : List Byte) (hp : s.pins.powerReset = false) (ho : s.out.linkBytes = []) :
    HostReceives s clocked (s.clockBytes clocked).out.linkBytes := by
  cases h : s.pins.selectLow with
  | true => rw [State.clockBytes_low h hp]; exact State.clockedBytes_received clocked h
  | false =>
    rw [State.clockBytes_high h, ho]
    have hlow {P : Prop} (e : s.pins.selectLow = true) : P := by simp [h] at e
    exact ⟨fun _ => rfl, hlow, hlow, hlow, hlow, hlow, hlow⟩

/-- What the host receives depends on the link and the pins alone. -/
theorem HostReceives.congr {clocked bytes : List Byte} (h : HostReceives s clocked bytes) (hp : t.pins = s.pins) (hl : t.link = s.link) :
    HostReceives t clocked bytes := by
  obtain ⟨h1, h2, h3, h4, h5, h6, h7⟩ := h
  constructor <;> rw [hp]
  · exact h1
  · exact h2
  · rw [hl]; exact h3
  · rw [hl]; exact h4
  · rw [hl]; exact h5
  · rw [hl]; exact h6
  · rw [hl]; exact h7

/-! ## Chip select -/

/-- A rise of chip select out of power-on reset ends the frame, whatever its phase. -/
theorem exec_chipSelectRise {clocked : List Byte} (h : s.pins.selectLow = true) (hp : s.pins.powerReset = false) :
    exec (.chipSelectRise clocked) s = .next { s.takeEvent.clockBytes clocked with
      pins := { s.pins with selectLow := false }, link := Link.quiet } := by
  simp [exec, execChipSelectRise, h, hp]

/-- Settles O8: the fall starts RECEIVING, the rise ends the frame. -/
theorem chipSelectFramesRequests : Obligations.ChipSelectFramesRequests := by
  refine ⟨fun s hsel hpow hidle => ?_, fun clocked s hsel hpow => ?_⟩
  · simp [exec, execChipSelectFall, hsel, hpow, hidle, State.takeEvent]
  · have hr := State.clockBytes_received (s := s.takeEvent) clocked hpow rfl
    have hf := State.clockBytes_frame (s := s.takeEvent) clocked
    refine ⟨_, exec_chipSelectRise hsel hpow, ?_, rfl, ?_, ?_, ?_, hr.congr rfl rfl⟩ <;> rw [hf] <;> rfl

/-! ## Power-on reset -/

/-- A request outside RECEIVING is not taken: its bytes are clocked, where they are a request's. -/
theorem exec_request_unheard {c : Instr} (hr : isRequest c = true) (hw : wellSent c = true) (h : s.listening = false) :
    exec c s = .next (s.ignoreRequest c) := by
  cases c with
  | badRequest frame =>
    simp only [wellSent, Bool.and_eq_true] at hw
    obtain ⟨hc, hb⟩ := hw
    obtain ⟨e, he⟩ := Option.isSome_iff_exists.1 hb
    simp only [exec, execBadRequest, hc, he, if_true]
    exact State.request_ignored h
  | readEntry table index levels => simp [exec, execReadEntry, h]
  | rigPortTransaction | storePortGrant | storePortReadReturn | chipSelectFall | chipSelectRise | powerOnReset | rigReset
  | senseWindowSample | drivePhaseStart | periodEnd | idleTimerExpiry | drainTimerExpiry | admissionTimerExpiry
  | powerOnResetEntry | rigResetRelease => cases hr
  | _ =>
    simp only [exec, execWriteEntryLayout, execWriteEntryGlobal, execWriteEntryLaneConfig, execWriteEntryTube, execWriteEntryWindow,
      execWriteKey, execWriteValue, execWriteBoth, execDisable, execWriteEntryWatch, execWriteEntryLines, execWriteEntryReadOnly,
      execEngage, execBypass, execEnableLane, execDisableLane, execAcceptTake, execRejectTake, execReleaseTake, execLoadMap,
      execAbortLoad, execLockCampaign, execClearAttention, execClearHold]
    exact State.request_ignored h

/-- Bytes that are no bad request are no event. -/
theorem exec_not_wellSent {c : Instr} (hw : wellSent c = false) : exec c s = .next s.notTaken := by
  cases c with
  | badRequest frame =>
    simp only [wellSent, Bool.and_eq_false_iff, Option.isSome_eq_false_iff, Option.isNone_iff_eq_none] at hw
    simp only [exec, execBadRequest]
    obtain h | h := hw
    · simp [h]
    · simp [h]
  | _ => cases hw

theorem State.listening_held (h : s.pins.powerReset = true) : s.listening = false := by simp [State.listening, h]

/-- In power-on reset a request is not taken, and the link ignores the clock. -/
theorem exec_request_held {c : Instr} (hr : isRequest c = true) (h : s.pins.powerReset = true) : exec c s = .next s.notTaken := by
  cases hw : wellSent c with
  | false => exact exec_not_wellSent hw
  | true =>
    rw [exec_request_unheard hr hw (State.listening_held h), State.ignoreRequest, State.clockBytes_held (s := s.notTaken) h]

theorem State.comes_held (h : s.pins.powerReset = true) (n : Fin 8) (e : LineEvent) : s.comes n e = false := by
  simp [State.comes, h]

/-- What power-on reset leaves of a state that takes no event: the pins alone follow their levels. -/
theorem exec_held {c : Instr} (h : s.pins.powerReset = true) (hc : ∀ straps, c ≠ .powerOnReset straps) (hw : c.wf = true) :
    ∃ p : Pins, exec c s = .next { s with pins := p, out := Outputs.none } ∧ p.powerReset = true := by
  have same : (.next s.notTaken : Host.Outcome State Fault Refusal) = .next { s with pins := s.pins, out := Outputs.none } := rfl
  cases c with
  | powerOnReset straps => exact absurd rfl (hc straps)
  | rigPortTransaction t =>
    have ht : t.wf = true := hw
    exact ⟨s.pins, by simp [exec, execRigPortTransaction, ht, h, same], h⟩
  | storePortGrant => exact ⟨s.pins, by simp [exec, execStorePortGrant, h, same], h⟩
  | storePortReadReturn r => exact ⟨s.pins, by simp [exec, execStorePortReadReturn, h, same], h⟩
  | chipSelectFall =>
    cases hs : s.pins.selectLow with
    | true => exact ⟨s.pins, by simp [exec, execChipSelectFall, hs, same], h⟩
    | false => exact ⟨{ s.pins with selectLow := true }, by simp [exec, execChipSelectFall, hs, h, State.notTaken], rfl.trans h⟩
  | chipSelectRise clocked =>
    cases hs : s.pins.selectLow with
    | false => exact ⟨s.pins, by simp [exec, execChipSelectRise, hs, same], h⟩
    | true => exact ⟨{ s.pins with selectLow := false }, by simp [exec, execChipSelectRise, hs, h, State.notTaken], rfl.trans h⟩
  | rigReset clocked =>
    cases hs : s.pins.rigReset with
    | true => exact ⟨s.pins, by simp [exec, execRigReset, hs, same], h⟩
    | false => exact ⟨{ s.pins with rigReset := true }, by simp [exec, execRigReset, hs, h, State.notTaken], rfl.trans h⟩
  | rigResetRelease =>
    cases hs : s.pins.rigReset with
    | false => exact ⟨s.pins, by simp [exec, execRigResetRelease, hs, same], h⟩
    | true => exact ⟨{ s.pins with rigReset := false }, by simp [exec, execRigResetRelease, hs, h, State.notTaken], rfl.trans h⟩
  | powerOnResetEntry clocked => exact ⟨s.pins, by simp [exec, execPowerOnResetEntry, h, same], h⟩
  | senseWindowSample n level => exact ⟨s.pins, by simp [exec, execSenseWindowSample, State.comes_held h, same], h⟩
  | drivePhaseStart n => exact ⟨s.pins, by simp [exec, execDrivePhaseStart, State.comes_held h, same], h⟩
  | periodEnd n => exact ⟨s.pins, by simp [exec, execPeriodEnd, State.comes_held h, same], h⟩
  | idleTimerExpiry n => exact ⟨s.pins, by simp [exec, execIdleTimerExpiry, State.comes_held h, same], h⟩
  | drainTimerExpiry n => exact ⟨s.pins, by simp [exec, execDrainTimerExpiry, State.comes_held h, same], h⟩
  | admissionTimerExpiry n => exact ⟨s.pins, by simp [exec, execAdmissionTimerExpiry, State.comes_held h, same], h⟩
  | _ => exact ⟨s.pins, exec_request_held rfl h, h⟩

theorem exec_powerOnResetEntry {clocked : List Byte} (h : s.pins.powerReset = false) : exec (.powerOnResetEntry clocked) s =
    .next { (s.takeEvent.clockBytes clocked).abandonPorts with pins := { s.pins with powerReset := true } } := by
  simp [exec, execPowerOnResetEntry, h]

/-- Settles O5: the ports and the frame are abandoned, and then no event is taken. -/
theorem partInPowerOnResetTakesNoEvent : Obligations.PartInPowerOnResetTakesNoEvent := by
  refine ⟨fun clocked s hpow => ?_, fun c s h hc hw => ?_⟩
  · have hr := State.clockBytes_received (s := s.takeEvent) clocked hpow rfl
    have hf := State.clockBytes_frame (s := s.takeEvent) clocked
    refine ⟨_, exec_powerOnResetEntry hpow, rfl, fun i => rfl, ?_, rfl, rfl, rfl, rfl, ?_, ?_, hr.congr rfl rfl⟩
    · simp [State.attentionLine]
    · rw [hf]; rfl
    · rw [hf]; rfl
  · obtain ⟨p, he, hp⟩ := exec_held h hc hw
    exact ⟨_, he, rfl, hp⟩

/-- The values of a lane at a power-on reset. -/
theorem State.lane_powerOn (straps : BitVec 2) (n : Fin 8) : (s.powerOn straps).lane n = Lane.disabled (LaneConfig.reset n) :=
  (poweredOn_powerOn s straps).lane n

/-- Settles O3: each block's value is read off its definition. -/
theorem powerOnResetGivesPowerOnValues : Obligations.PowerOnResetGivesPowerOnValues := by
  intro straps s
  have hl := State.lane_powerOn (s := s) straps
  refine ⟨s.powerOn straps, rfl, fun _ => rfl, fun _ => rfl, fun n => ?_, fun n => ?_, rfl, (by decide : State.reset.rejectMask = _),
    rfl, rfl, rfl, rfl, fun w => ?_,
    fun a => ?_, rfl, rfl, rfl, rfl, fun i => ?_, fun n => ?_, rfl, fun v => ?_, rfl, rfl, rfl, rfl⟩
  · rw [hl]; rfl
  · rw [hl]; rfl
  · exact Vector.getElem_replicate w.isLt
  · exact Vector.getElem_replicate a.isLt
  · exact Vector.getElem_replicate i.isLt
  · rw [(poweredOn_powerOn s straps).laneLine]; exact ⟨rfl, rfl⟩
  · exact Vector.getElem_replicate v.isLt

end Sys2Proof.Machine
end

section
/-! What the work of the lanes changes of the part: the lanes with their lines, the takes, the tubes, the pool and the serial counter,
and the notices that it posts. Nothing else changes, and the Notice Writer asks for the store port from the first notice on. -/

namespace Sys2Proof.Machine

variable {s t u : State} {n : Fin 8} {k : Nat}

/-- What the lanes' work leaves of the part. -/
structure Works (s t : State) : Prop where
  frame : t = { s with pool := t.pool, takes := t.takes, tubes := t.tubes, lanes := t.lanes, laneLines := t.laneLines,
                       serialCounter := t.serialCounter, notices := t.notices, arbiter := t.arbiter }
  posts : ∃ rs : List Report, t.notices = rs.foldl NoticeWriter.create s.notices ∧ t.arbiter = arbiterAfter s.arbiter rs
  cfgs : ∀ n, (t.lane n).cfg = (s.lane n).cfg

/-- Work that posts no notice. -/
structure Silent (s t : State) : Prop where
  frame : t = { s with pool := t.pool, takes := t.takes, tubes := t.tubes, lanes := t.lanes, laneLines := t.laneLines,
                       serialCounter := t.serialCounter }
  cfgs : ∀ n, (t.lane n).cfg = (s.lane n).cfg

theorem arbiterAfter_append (a : Arbiter) (rs rs' : List Report) :
    arbiterAfter (arbiterAfter a rs) rs' = arbiterAfter a (rs ++ rs') := by
  cases rs with
  | nil => rfl
  | cons r rs => cases rs' with
    | nil => rw [List.append_nil]; rfl
    | cons r' rs' => rfl

/-- A notice created leaves one queued. -/
theorem NoticeWriter.create_queue_ne_nil (w : NoticeWriter) (r : Report) : (w.create r).queue ≠ [] := by
  simp only [NoticeWriter.create, Config.noticeQueueLimit]
  split
  · simp
  · next h => intro e; rw [e] at h; simp at h

theorem State.arbiter_post (r : Report) : (s.post r).arbiter = arbiterAfter s.arbiter [r] := by
  have hq := s.notices.create_queue_ne_nil r
  rw [State.post_arbiter, Arbiter.askNotice, arbiterAfter]
  cases s.arbiter.notice with
  | some c => rfl
  | none => simp [hq]

namespace Silent

theorem works (h : Silent s t) : Works s t :=
  ⟨by rw [h.frame], ⟨[], by rw [h.frame]; rfl, by rw [h.frame]; rfl⟩, h.cfgs⟩

theorem refl (s : State) : Silent s s := ⟨rfl, fun _ => rfl⟩

theorem trans (h : Silent s t) (h' : Silent t u) : Silent s u :=
  ⟨by rw [h'.frame, h.frame], fun n => (h'.cfgs n).trans (h.cfgs n)⟩

/-- A change of what is no lane. -/
theorem of_frame (h : t = { s with pool := t.pool, takes := t.takes, tubes := t.tubes, laneLines := t.laneLines,
                                   serialCounter := t.serialCounter }) : Silent s t :=
  ⟨by rw [h], fun n => by rw [h]; rfl⟩

theorem setLane (n : Fin 8) {l : Lane} (h : l.cfg = (s.lane n).cfg) : Silent s (s.setLane n l) :=
  ⟨rfl, fun m => by
    rw [State.lane_setLane]; split
    next e => rw [e, h]
    next => rfl⟩

end Silent

namespace Works

theorem refl (s : State) : Works s s := (Silent.refl s).works

theorem trans (h : Works s t) (h' : Works t u) : Works s u := by
  obtain ⟨hf, ⟨rs, hn, ha⟩, hc⟩ := h
  obtain ⟨hf', ⟨rs', hn', ha'⟩, hc'⟩ := h'
  exact ⟨by rw [hf', hf], ⟨rs ++ rs', by rw [hn', hn, List.foldl_append], by rw [ha', ha, arbiterAfter_append]⟩,
    fun n => (hc' n).trans (hc n)⟩

theorem post (r : Report) : Works s (s.post r) := ⟨rfl, ⟨[r], rfl, State.arbiter_post r⟩, fun _ => rfl⟩

/-- A succession of works, one for each of a list. -/
theorem foldl {α : Type} {f : State → α → State} (h : ∀ s a, Works s (f s a)) (l : List α) (s : State) : Works s (l.foldl f s) := by
  induction l generalizing s with
  | nil => exact .refl s
  | cons a l ih => exact (h s a).trans (ih _)

theorem setTake (k : Nat) (x : Take) : Works s (s.setTake k x) := (Silent.of_frame rfl).works
theorem setTube (i : Nat) (x : Tube) : Works s (s.setTube i x) := (Silent.of_frame rfl).works
theorem setLane (n : Fin 8) {l : Lane} (h : l.cfg = (s.lane n).cfg) : Works s (s.setLane n l) := (Silent.setLane n h).works
theorem setLaneLine (n : Fin 8) (l : LaneLine) : Works s (s.setLaneLine n l) := (Silent.of_frame rfl).works
theorem pool (p : Pool) : Works s { s with pool := p } := (Silent.of_frame rfl).works

end Works

/-! ## The pool, the tubes and the openings -/

theorem State.latchTest_works (q : Bool) : Works s (s.latchTest q) := by
  unfold State.latchTest
  split
  next =>
    split
    next =>
      dsimp only
      split
      next => exact .pool _
      next => exact (Works.pool _).trans (.post _)
    next => exact .refl s
  next =>
    split
    next => exact .pool _
    next => exact .refl s

theorem State.latchAfter_works (before : Nat) (q : Bool) : Works s (s.latchAfter before q) := by
  unfold State.latchAfter
  split
  · exact .refl s
  · exact State.latchTest_works q

theorem State.openTake_works (s : State) (o : Opening) : Works s (s.openTake o) :=
  ((Silent.of_frame (s := s) (t := { s with serialCounter := s.serialCounter + 1 }) rfl).works.trans
    ((Works.setTake _ _).trans (.setTube _ _))).trans (.setLane o.lane rfl)

theorem State.openAll_works (os : List Opening) : Works s (s.openAll os) := .foldl State.openTake_works os s

theorem State.releaseHeld_works (n : Fin 8) : Works s (s.releaseHeld n) :=
  (Silent.of_frame (by rw [State.releaseHeld_frame])).works

theorem State.dropHeld_works (n : Fin 8) : Works s (s.dropHeld n) :=
  ((Works.pool _).trans (State.releaseHeld_works (s := s.leaveQueue n) n)).trans (.setLane n (by
    rw [State.releaseHeld_frame]; rfl))

theorem State.postHeld_works (n : Fin 8) (c : RefuseCause) : Works s (s.postHeld n c) := by
  unfold State.postHeld
  split
  · exact .post _
  · exact .refl s

theorem State.refuseHeld_works (n : Fin 8) (c : RefuseCause) : Works s (s.refuseHeld n c) :=
  (State.postHeld_works n c).trans (State.dropHeld_works n)

theorem State.admitHead_works (h : Fin 8) (rest : List (Fin 8)) : Works s (s.admitHead h rest) :=
  (Works.pool _).trans (State.latchTest_works false)

theorem State.admitLoop_works (q : List (Fin 8)) (os : List Opening) : Works s (State.admitLoop q os s).1 := by
  induction q generalizing s os with
  | nil => exact .refl s
  | cons h rest ih =>
    unfold State.admitLoop
    split
    next => exact .refl s
    next =>
      split
      next => exact (State.admitHead_works h rest).trans (ih _)
      next => exact (State.refuseHeld_works h .tableFull).trans (ih _)

theorem State.admitDecide_works : Works s s.admitDecide.1 := State.admitLoop_works _ _

theorem State.admissionCheck_works : Works s s.admissionCheck := State.admitDecide_works.trans (State.openAll_works _)

/-! ## Seals -/

theorem State.returnReservation_works (r : Nat) (q : Bool) : Works s (s.returnReservation r q) :=
  (Works.pool _).trans (State.latchAfter_works _ q)

theorem State.sealTube_works (t : Take) : Works s (s.sealTube t) := by
  unfold State.sealTube
  split
  · exact .setTube _ _
  · exact .refl s

theorem State.sealBegin_works (n : Fin 8) (k : Nat) (cause : CloseCause) (q : Bool) : Works s (s.sealBegin n k cause q).1 :=
  ((Works.setTake k _).trans (State.returnReservation_works _ q)).trans State.admitDecide_works

theorem State.sealEnd_works (k : Nat) (cause : CloseCause) (q : Bool) : Works s (s.sealEnd k cause q) := by
  have h := (Works.setTake (s := s) k ((s.takeAt k).judged s.rejectMask)).trans (State.sealTube_works ((s.takeAt k).judged s.rejectMask))
  unfold State.sealEnd
  dsimp only
  split
  · exact h
  · exact h.trans (.post _)

theorem State.sealTake_works (n : Fin 8) (cause : CloseCause) (q : Bool) : Works s (s.sealTake n cause q) := by
  unfold State.sealTake
  split
  · exact .refl s
  · exact (((State.sealBegin_works n _ cause q).trans (State.sealEnd_works _ cause q)).trans (State.openAll_works _)).trans (.setLane n rfl)

theorem State.shutLane_works (s : State) (n : Fin 8) : Works s (s.shutLane n) :=
  (Works.setLane n (l := Lane.disabled (s.lane n).cfg) rfl).trans (.setLaneLine n _)

theorem State.disableLane_works (n : Fin 8) : Works s (s.disableLane n) := by
  unfold State.disableLane
  split
  · exact .refl s
  · exact State.shutLane_works s n
  · exact ((State.refuseHeld_works n .disabled).trans (State.shutLane_works _ n)).trans State.admissionCheck_works
  · exact (State.sealTake_works n .laneDisable false).trans (State.shutLane_works _ n)
  · exact (State.sealTake_works n .laneDisable false).trans (State.shutLane_works _ n)

theorem State.dropWaiting_works (q : Bool) (s : State) (n : Fin 8) : Works s (s.dropWaiting q n) := by
  unfold State.dropWaiting
  split
  · cases q with
    | true => exact State.dropHeld_works n
    | false => exact (State.postHeld_works n .disabled).trans (State.dropHeld_works n)
  · exact .refl s

theorem State.sealRecording_works (cause : CloseCause) (q : Bool) (s : State) (n : Fin 8) : Works s (s.sealRecording cause q n) := by
  unfold State.sealRecording
  split
  · exact State.sealTake_works n cause q
  · exact .refl s

theorem State.emptyQueue_works (s : State) : Works s s.emptyQueue := (Silent.of_frame rfl).works

theorem State.disableAll_works (s : State) (cause : CloseCause) (q : Bool) : Works s (s.disableAll cause q) := by
  have h1 := (Works.foldl (State.dropWaiting_works q) allLanes s).trans (State.emptyQueue_works _)
  have h2 := h1.trans (Works.foldl (State.sealRecording_works cause q) allLanes _)
  exact h2.trans (Works.foldl State.shutLane_works allLanes _)

/-! ## The rig reset -/

/-- A rig reset once all work is disabled: the map load, the windows, the watch units and lines, the notices, the frame and the pin. -/
def State.resetRest (x : State) : State :=
  { x.stopLoad.unbindAll.quietLines.dropNotices with
    link := x.link.abandon, pins := { x.pins with rigReset := true } }

theorem State.rigResetEvent_eq (s : State) : s.rigResetEvent = (s.disableAll .rigReset true).resetRest := by
  unfold State.rigResetEvent State.resetRest
  dsimp only
  generalize s.disableAll .rigReset true = x
  rfl

/-- A first assertion out of power-on reset is taken. -/
theorem exec_rigReset {clocked : List Byte} (hr : s.pins.rigReset = false) (hp : s.pins.powerReset = false) :
    exec (.rigReset clocked) s = .next (s.takeEvent.clockBytes clocked).rigResetEvent := by
  simp [exec, execRigReset, hr, hp]

/-- The disabling of all work keeps the mode, the layout, the straps and the outputs. -/
theorem State.rigResetEvent_keeps (s : State) : s.rigResetEvent.mode = s.mode ∧ s.rigResetEvent.layout = s.layout ∧
    s.rigResetEvent.strap = s.strap ∧ s.rigResetEvent.out = s.out := by
  have hf := (State.disableAll_works s .rigReset true).frame
  rw [State.rigResetEvent_eq]
  generalize s.disableAll .rigReset true = x at hf ⊢
  rw [hf]
  exact ⟨rfl, rfl, rfl, rfl⟩

theorem exec_rigReset_keeps {clocked : List Byte} (h : exec (.rigReset clocked) s = .next t) :
    t.mode = s.mode ∧ t.layout = s.layout ∧ t.strap = s.strap := by
  simp only [exec, execRigReset] at h
  split at h
  next => obtain rfl := Host.Outcome.next.inj h; exact ⟨rfl, rfl, rfl⟩
  next =>
    split at h
    next => obtain rfl := Host.Outcome.next.inj h; exact ⟨rfl, rfl, rfl⟩
    next =>
      obtain rfl := Host.Outcome.next.inj h
      obtain ⟨hm, hl, hs, -⟩ := (s.takeEvent.clockBytes clocked).rigResetEvent_keeps
      rw [State.clockBytes_frame] at hm hl hs
      rw [State.clockBytes_frame]
      exact ⟨hm, hl, hs⟩

/-- Settles O7: a second assertion, a release and the next assertion. -/
theorem rigResetIsTakenOncePerAssertion : Obligations.RigResetIsTakenOncePerAssertion := by
  intro clocked s hrig hpow
  refine ⟨by simp [exec, execRigReset, hrig, State.notTaken], by simp [exec, execRigResetRelease, hrig, hpow, State.takeEvent], ?_⟩
  refine ⟨_, exec_rigReset rfl hpow, ?_, rfl⟩
  generalize ({ s with pins := { s.pins with rigReset := false } } : State) = x
  obtain ⟨-, -, -, ho⟩ := (x.takeEvent.clockBytes clocked).rigResetEvent_keeps
  rw [ho, State.clockBytes_frame]
  rfl

/-- Settles O4: the presets of R154 against the checks of R151. -/
theorem strapsSelectLayoutAndMode : Obligations.StrapsSelectLayoutAndMode := by
  refine ⟨fun straps s => ⟨s.powerOn straps, rfl, fun n => ?_, ?_, fun h => ⟨?_, ?_⟩, ?_, ?_, ?_⟩, fun _ _ _ => exec_rigReset_keeps⟩
  · rw [State.lane_powerOn]; rfl
  · rintro rfl; exact ⟨rfl, rfl, (by decide +kernel : layoutValid (presetLayout 0) = false)⟩
  · exact if_neg h
  · exact (layoutValid_iff _).2 (layoutGood_preset h)
  · rintro rfl; rfl
  · rintro rfl; rfl
  · rintro rfl; rfl

end Sys2Proof.Machine
end

section
/-! Bad requests (O10), and the writes of LAYOUT, GLOBAL and LANE_CONFIG (O13, O14, O15). -/

namespace Sys2Proof.Machine

variable {s t u : State} {n : Fin 8} {k : Nat}

/-! ## Bad requests (R175, R177, R138) -/

/-- The fourteen command bytes (R177, R189). -/
def commandBytes : List Byte := [0x01, 0x02, 0x10, 0x11, 0x12, 0x13, 0x20, 0x21, 0x22, 0x30, 0x31, 0x32, 0x40, 0x41]

/-- A selector byte names a table exactly where it is one of 1 to 11 (R190). -/
theorem tableOf_eq_none_iff (sel : Byte) : tableOf sel = none ↔ ¬(1 ≤ sel.toNat ∧ sel.toNat ≤ 11) := by
  revert sel; decide +kernel

theorem tableOf_entryLength (sel : Byte) : (tableOf sel).map TableSel.entryLength =
    if 1 ≤ sel.toNat ∧ sel.toNat ≤ 11 then some (payloadNeeded 0x02 sel) else none := by
  revert sel; decide +kernel

/-- The command byte decides whether a length is needed, and for the two table commands the selector (R177). -/
theorem neededLength_unknown {c sel : Byte} (h : c ∉ commandBytes) : neededLength c sel = none := by
  unfold neededLength
  split <;> first | rfl | exact absurd (by simp only [commandBytes, List.mem_cons]; bv_omega) h

theorem neededLength_badTable {c sel : Byte} (h : c ∈ [0x01, 0x02]) (hs : ¬(1 ≤ sel.toNat ∧ sel.toNat ≤ 11)) :
    neededLength c sel = none := by
  have ht := (tableOf_eq_none_iff sel).2 hs
  simp only [List.mem_cons, List.not_mem_nil, or_false] at h
  obtain rfl | rfl := h
  · simp [neededLength, ht]
  · simp [neededLength, ht]

theorem neededLength_known {c sel : Byte} (h : c ∈ commandBytes) (hs : c ∈ [0x01, 0x02] → 1 ≤ sel.toNat ∧ sel.toNat ≤ 11) :
    neededLength c sel = some (payloadNeeded c sel) := by
  have htable (hc : c ∈ [0x01, 0x02]) : tableOf sel ≠ none := fun e => (tableOf_eq_none_iff sel).1 e (hs hc)
  simp only [commandBytes, List.mem_cons, List.not_mem_nil, or_false] at h
  obtain rfl | rfl | rfl | rfl | rfl | rfl | rfl | rfl | rfl | rfl | rfl | rfl | rfl | rfl := h
  · obtain ⟨t, ht⟩ := Option.ne_none_iff_exists'.1 (htable (by simp))
    simp [neededLength, ht, payloadNeeded]
  · exact (tableOf_entryLength sel).trans (if_pos (hs (by simp)))
  all_goals rfl

/-- A complete frame with a reason is refused with it. -/
theorem exec_badRequest {frame : List Byte} {e : Status} (h : s.listening = true) (hc : completeFrame frame = true)
    (hr : badReason frame = some e) : exec (.badRequest frame) s = .next (s.answered (.badRequest frame) e []) := by
  simp only [exec, execBadRequest, hc, hr, if_true]
  exact State.request_refuses h rfl

/-- The reason of a frame whose sum and declared length are good: its command or its table is unknown. -/
theorem badReason_unknown {frame : List Byte} (hsum : byteSum frame = 0) (hlen : declaredLength frame ≤ 1024)
    (hn : neededLength (byteAt frame 0) (byteAt frame 1) = none) : badReason frame = some .unknownCommand := by
  simp [badReason, hsum, Nat.not_lt.2 hlen, hn]

/-- The reason of a frame of a known command: another length than it needs, or an unknown amendment operation. -/
theorem badReason_known {frame : List Byte} {m : Nat} (hsum : byteSum frame = 0) (hlen : declaredLength frame ≤ 1024)
    (hn : neededLength (byteAt frame 0) (byteAt frame 1) = some m) : badReason frame =
      if declaredLength frame ≠ m then some .badValue
      else if unknownAmendment frame then
        if 7 < (frameIndex frame).toNat then some .badIndex else some .badValue
      else none := by
  simp [badReason, hsum, Nat.not_lt.2 hlen, hn]

/-- An amendment write whose operation byte is none of the four is refused for its index, or its value. -/
theorem badReason_amendment {frame : List Byte} (hsum : byteSum frame = 0) (hc : byteAt frame 0 = 0x02)
    (ht : byteAt frame 1 = 0x08) (hlen : declaredLength frame = 24) (ho : ¬(1 ≤ (byteAt frame 6).toNat ∧ (byteAt frame 6).toNat ≤ 4)) :
    badReason frame = if 7 < (frameIndex frame).toNat then some .badIndex else some .badValue := by
  have hu : unknownAmendment frame = true := by
    have hop : (decide (1 ≤ (byteAt frame 6).toNat) && decide ((byteAt frame 6).toNat ≤ 4)) = false := by
      rw [← Bool.decide_and]; exact decide_eq_false ho
    rw [unknownAmendment, hc, ht, hop]; rfl
  have hn : neededLength (byteAt frame 0) (byteAt frame 1) = some 24 := by rw [hc, ht]; rfl
  rw [badReason_known hsum (by omega) hn, hu, hlen]
  rfl

/-- Settles O10: the reasons of `badReason` in their order. -/
theorem badRequestGetsItsStatus : Obligations.BadRequestGetsItsStatus := by
  intro frame s h hc
  refine ⟨fun hsum => ?_, fun hsum hlen => ?_, fun hsum hlen hcmd => ?_, fun hsum hlen hcmd hsel => ?_,
    fun hsum hlen hcmd hsel hneed => ?_, fun hsum hcmd hsel hlen hop hindex => ?_⟩ <;> refine exec_badRequest h hc ?_
  · exact if_pos hsum
  · rw [badReason, if_neg (not_not.2 hsum), if_pos hlen]
  · exact badReason_unknown hsum hlen (neededLength_unknown hcmd)
  · exact badReason_unknown hsum hlen (neededLength_badTable hcmd hsel)
  · rw [badReason_known hsum hlen (neededLength_known hcmd hsel)]
    exact if_pos hneed
  · rw [badReason_amendment hsum hcmd hsel hlen hop, if_pos hindex]

/-! ## Requests by their checks -/

/-- A request that fails a check changes nothing. -/
theorem State.request_fails {c : Instr} {checks : State → List (Bool × Status)} {f : State → State} {e : Status}
    (h : s.listening = true) (hf : firstFailing (checks s.takeEvent) = some e) :
    s.request c (fun s => s.checked (checks s) f) = .next (s.answered c e []) :=
  State.request_refuses h (State.checked_fail hf)

/-- A request that passes its checks is answered with DONE on its effect. -/
theorem State.request_passes {c : Instr} {checks : State → List (Bool × Status)} {f : State → State}
    (h : s.listening = true) (hf : firstFailing (checks s.takeEvent) = none)
    (ho : (f s.takeEvent).out = { Outputs.none with taken := true }) :
    s.request c (fun s => s.checked (checks s) f) = .next ((f s.takeEvent).answered c .done []) :=
  State.request_answers h (State.checked_pass hf) ho

theorem Mode.isEngaged_iff (m : Mode) : m.isEngaged = true ↔ m = .engaged := by cases m <;> decide

theorem Lane.enabled_iff (l : Lane) : l.enabled = true ↔ l.state ≠ .disabled := by simp [Lane.enabled]

/-! ## LAYOUT -/

theorem exec_writeEntryLayout (index : BitVec 16) (e : Layout) (s : State) : exec (.writeEntryLayout index e) s =
    s.request (.writeEntryLayout index e) fun s =>
      s.checked [(decide (index.toNat ≠ 0), .badIndex), (s.mode.isEngaged, .refusedState)] (State.setLayout e) := rfl

/-- Settles O13: the two checks of R145, then the write. -/
theorem layoutWriteSetsBasesInBypass : Obligations.LayoutWriteSetsBasesInBypass := by
  intro index e s h
  have hz : index ≠ 0 ↔ index.toNat ≠ 0 := by rw [ne_eq, ne_eq, ← BitVec.toNat_inj]; simp
  rw [exec_writeEntryLayout]
  split_ifs with hi hm
  · exact State.request_fails h (by simp [firstFailing, hz.1 hi])
  · exact State.request_fails h (by simp [firstFailing, not_not.1 hi, Mode.isEngaged_iff, hm])
  · exact State.request_passes h (by simp [firstFailing, not_not.1 hi, Mode.isEngaged_iff, hm]) rfl

/-! ## GLOBAL -/

theorem globalInRange_iff (e : GlobalEntry) : globalInRange e = true ↔ ¬globalOutOfRange e := by
  simp only [globalInRange, globalOutOfRange, Bool.and_eq_true, decide_eq_true_eq]
  omega

theorem sameTimebase_iff (tb : Timebase) (e : GlobalEntry) : sameTimebase tb e = true ↔ ¬timebaseDiffers e tb := by
  simp only [sameTimebase, timebaseDiffers, Bool.and_eq_true, decide_eq_true_eq]
  omega

theorem State.anyEnabled_iff (s : State) : s.anyEnabled = true ↔ ∃ n, (s.lane n).state ≠ .disabled := by
  simp [State.anyEnabled, Lane.enabled_iff, mem_allLanes]

/-- The checks of a GLOBAL write, in the order of R180. -/
def globalChecks (index : BitVec 16) (e : GlobalEntry) (s : State) : List (Bool × Status) :=
  [(decide (index.toNat ≠ 0), .badIndex), (!globalInRange e, .badValue), (s.locked && decide (e.plugs ≠ s.plugSet), .refusedLocked),
    (s.anyEnabled && !sameTimebase s.timebase e, .refusedState)]

theorem exec_writeEntryGlobal (index : BitVec 16) (e : GlobalEntry) (s : State) : exec (.writeEntryGlobal index e) s =
    s.request (.writeEntryGlobal index e) fun s => s.checked (globalChecks index e s) (State.writeGlobal e) := rfl

open Classical in
theorem firstFailing_globalChecks (index : BitVec 16) (e : GlobalEntry) (s : State) : firstFailing (globalChecks index e s) =
    if index ≠ 0 then some .badIndex
    else if globalOutOfRange e then some .badValue
    else if s.locked = true ∧ e.plugs ≠ s.plugSet then some .refusedLocked
    else if (∃ n, (s.lane n).state ≠ .disabled) ∧ timebaseDiffers e s.timebase then some .refusedState
    else none := by
  have hz : index ≠ 0 ↔ index.toNat ≠ 0 := by rw [ne_eq, ne_eq, ← BitVec.toNat_inj]; simp
  simp only [globalChecks, firstFailing, hz, decide_eq_true_eq, Bool.not_eq_true', ← Bool.not_eq_true, globalInRange_iff,
    sameTimebase_iff, Bool.and_eq_true, State.anyEnabled_iff, not_not]

/-- The latch test of a GLOBAL write, with the new marks (R90). -/
theorem State.latchTest_armed_low (h : s.pool.armed = true) (hl : s.pool.freeCount - s.pool.reserved < s.pool.lowMark) :
    s.latchTest false = { s with pool := { s.pool with armed := false } }.post (Report.poolLow (s.pool.freeCount - s.pool.reserved)) := by
  simp [State.latchTest, h, Pool.unreserved, hl]

theorem State.latchTest_armed_high (q : Bool) (h : s.pool.armed = true) (hl : s.pool.lowMark ≤ s.pool.freeCount - s.pool.reserved) :
    s.latchTest q = s := by
  simp [State.latchTest, h, Pool.unreserved, Nat.not_lt.2 hl]

theorem State.latchTest_disarmed (q : Bool) (h : s.pool.armed = false) : s.latchTest q =
    { s with pool := { s.pool with armed := decide (s.pool.highMark ≤ s.pool.freeCount - s.pool.reserved) } } := by
  by_cases hh : s.pool.highMark ≤ s.pool.freeCount - s.pool.reserved
  · simp [State.latchTest, h, Pool.unreserved, hh]
  · have hpool : { s.pool with armed := false } = s.pool := by rw [← h]
    simp [State.latchTest, h, Pool.unreserved, hh, hpool]

/-- Settles O14: the checks of R180, the fields set together, and the latch test with the new marks. -/
theorem globalWriteSetsFieldsAndTestsLatch : Obligations.GlobalWriteSetsFieldsAndTestsLatch := by
  intro index e s h
  have hf := firstFailing_globalChecks index e s.takeEvent
  simp only [exec_writeEntryGlobal]
  refine ⟨fun hi => ?_, fun hi hr => ?_, fun hi hr hl hp => ?_, fun hi hr hl ht hn => ?_, fun hi hr hl ht => ?_⟩
  · exact State.request_fails h (hf.trans (if_pos hi))
  · exact State.request_fails h (hf.trans (by rw [if_neg (not_not.2 hi), if_pos hr]))
  · exact State.request_fails h (hf.trans (by rw [if_neg (not_not.2 hi), if_neg hr, if_pos ⟨hl, hp⟩]))
  · exact State.request_fails h (hf.trans (by
      rw [if_neg (not_not.2 hi), if_neg hr, if_neg fun hc => hc.2 (hl hc.1), if_pos ⟨hn, ht⟩]))
  · have hpass : firstFailing (globalChecks index e s.takeEvent) = none := hf.trans (by
      rw [if_neg (not_not.2 hi), if_neg hr, if_neg fun hc => hc.2 (hl hc.1), if_neg]
      rintro ⟨⟨n, hn⟩, hd⟩
      exact hn (ht hd n))
    have hframe := State.latchTest_frame (s := s.takeEvent.setGlobal e) false
    have hout : (s.takeEvent.writeGlobal e).out = { Outputs.none with taken := true } := by
      rw [State.writeGlobal, hframe]; rfl
    have htb : (s.takeEvent.writeGlobal e).timebase = s.timebase.written e := by rw [State.writeGlobal, hframe]; rfl
    refine ⟨_, _, State.request_passes h hpass hout, rfl, fun hd => ?_, fun hd => ?_, fun ha hlow => ?_, fun ha hlow => ?_, fun ha => ?_⟩
    · rw [htb, Timebase.written, if_pos ((sameTimebase_iff _ _).2 hd)]
    · rw [htb, Timebase.written, if_neg fun hc => (sameTimebase_iff _ _).1 hc hd]
    · rw [htb]; exact State.latchTest_armed_low (s := s.takeEvent.setGlobal e) ha hlow
    · rw [htb]; exact State.latchTest_armed_high (s := s.takeEvent.setGlobal e) false ha hlow
    · rw [htb]; exact State.latchTest_disarmed (s := s.takeEvent.setGlobal e) false ha

/-! ## LANE_CONFIG -/

theorem laneConfigInRange_iff (e : LaneConfigEntry) : laneConfigInRange e = true ↔ ¬laneConfigOutOfRange e := by
  simp only [laneConfigInRange, laneConfigOutOfRange, Bool.and_eq_true, decide_eq_true_eq]
  omega

/-- A LANE_CONFIG write is a command that names a lane. -/
theorem exec_writeEntryLaneConfig (index : BitVec 16) (e : LaneConfigEntry) (s : State) : exec (.writeEntryLaneConfig index e) s =
    s.request (.writeEntryLaneConfig index e) fun s => s.laneCommand index fun n =>
      s.checked [((s.lane n).enabled, .refusedState), (!laneConfigInRange e, .badValue)] fun s =>
        s.setLane n { s.lane n with cfg := LaneConfig.ofEntry e } := rfl

/-- Settles O15: the checks of R47, then the write of the whole configuration. -/
theorem laneConfigWriteSetsDisabledLane : Obligations.LaneConfigWriteSetsDisabledLane := by
  intro index e s h
  simp only [exec_writeEntryLaneConfig]
  refine ⟨fun hi => State.request_refuses h (State.laneCommand_badIndex hi), fun n hi => ?_⟩
  have hact := State.laneCommand_lane (s := s.takeEvent) (act := fun n => s.takeEvent.checked
    [((s.takeEvent.lane n).enabled, .refusedState), (!laneConfigInRange e, .badValue)] fun s =>
      s.setLane n { s.lane n with cfg := LaneConfig.ofEntry e }) hi
  refine ⟨fun hn => ?_, fun hn hr => ?_, fun hn hr => ?_⟩
  · refine State.request_refuses h (hact.trans (State.checked_fail ?_))
    simp [firstFailing, Lane.enabled, hn]
  · refine State.request_refuses h (hact.trans (State.checked_fail ?_))
    have : laneConfigInRange e = false := by rw [← Bool.not_eq_true, laneConfigInRange_iff]; exact not_not.2 hr
    simp [firstFailing, Lane.enabled, hn, this]
  · refine State.request_gives h (hact.trans (State.checked_pass ?_)) rfl rfl
    simp [firstFailing, Lane.enabled, hn, (laneConfigInRange_iff e).2 hr]

end Sys2Proof.Machine
end

section
/-! The writes of WINDOW, AMENDMENT, WATCH and LINES (O17 to O20), ENGAGE, the clear commands and the map load's start and end (O21,
O25, O30). -/

namespace Sys2Proof.Machine

variable {s t u : State} {n : Fin 8} {k : Nat}

/-! ## WINDOW -/

theorem tubePosOf_none {row col : Byte} (h : 127 < row.toNat ∨ 127 < col.toNat) : tubePosOf row col = none := by
  unfold tubePosOf
  split
  next hr =>
    split
    next hc => omega
    next => rfl
  next => rfl

theorem tubePosOf_some {row col : Byte} {p : TubePos} (hr : p.row.val = row.toNat) (hc : p.col.val = col.toNat) :
    tubePosOf row col = some p := by
  have h1 := p.row.isLt
  have h2 := p.col.isLt
  rw [tubePosOf, dif_pos (by omega), dif_pos (by omega)]
  obtain ⟨r, c⟩ := p
  simp only [Option.some.injEq, TubePos.mk.injEq]
  exact ⟨Fin.ext hr.symm, Fin.ext hc.symm⟩

theorem windowOf_badMode {e : WindowEntry} (h : 2 < e.mode.toNat) : windowOf e = none := by
  unfold windowOf; split <;> first | omega | rfl

/-- Fields out of their values name no binding (R129, checks 2 and 3). -/
theorem windowOf_none {e : WindowEntry} (h : 2 < e.mode.toNat ∨ (e.mode = 1 ∧ 1023 < e.take.toNat) ∨
    (e.mode = 2 ∧ (127 < e.row.toNat ∨ 127 < e.column.toNat))) : windowOf e = none := by
  obtain h | ⟨h, hk⟩ | ⟨h, hp⟩ := h
  · exact windowOf_badMode h
  · rw [windowOf, h]; exact if_neg (by omega)
  · rw [windowOf, h, tubePosOf_none hp]; rfl

theorem windowOf_take {e : WindowEntry} (h : e.mode = 1) (hk : e.take.toNat ≤ 1023) : windowOf e = some (.take e.take.toNat) := by
  rw [windowOf, h]; exact if_pos hk

theorem windowOf_unbound {e : WindowEntry} (h : e.mode = 0) : windowOf e = some .unbound := by
  rw [windowOf, h]; rfl

theorem windowOf_follow {e : WindowEntry} {p : TubePos} (h : e.mode = 2) (hr : p.row.val = e.row.toNat)
    (hc : p.col.val = e.column.toNat) : windowOf e = some (.follow p) := by
  rw [windowOf, h, tubePosOf_some hr hc]; rfl

/-- What a WINDOW write does to the state, after its event is taken. -/
def windowAct (index : BitVec 16) (e : WindowEntry) (s : State) : State × Status :=
  if h : index.toNat < 16 then
    match windowOf e with
    | none => s.refused .badValue
    | some w => s.checked (s.bindChecks e.serial w) (State.bindWindow ⟨index.toNat, h⟩ w)
  else s.refused .badIndex

theorem exec_writeEntryWindow (index : BitVec 16) (e : WindowEntry) (s : State) :
    exec (.writeEntryWindow index e) s = s.request (.writeEntryWindow index e) (windowAct index e) := rfl

theorem windowAct_badIndex {index : BitVec 16} {e : WindowEntry} (h : 15 < index.toNat) : windowAct index e s = (s, .badIndex) :=
  dif_neg (by omega)

theorem windowAct_none {index : BitVec 16} {e : WindowEntry} (h : index.toNat ≤ 15) (hw : windowOf e = none) :
    windowAct index e s = (s, .badValue) := by
  rw [windowAct, dif_pos (by omega), hw]; rfl

theorem windowAct_some {index : BitVec 16} {e : WindowEntry} {w : Window} {i : Fin 16} (h : index.toNat = i.val)
    (hw : windowOf e = some w) : windowAct index e s = s.checked (s.bindChecks e.serial w) (State.bindWindow i w) := by
  have hi := i.isLt
  rw [windowAct, dif_pos (by omega), hw]
  have : (⟨index.toNat, by omega⟩ : Fin 16) = i := Fin.ext h
  simp only [this]

theorem State.isFree_iff (s : State) (k : Nat) : s.isFree k = true ↔ (s.takeAt k).state = .free := by simp [State.isFree]

theorem State.wrongSerial_iff (s : State) (k : Nat) (serial : BitVec 32) :
    s.wrongSerial k serial = true ↔ serial ≠ 0 ∧ serial.toNat ≠ (s.takeAt k).serial := by
  have : serial ≠ 0 ↔ serial.toNat ≠ 0 := by rw [ne_eq, ne_eq, ← BitVec.toNat_inj]; simp
  simp only [State.wrongSerial, Bool.and_eq_true, decide_eq_true_eq, this]

/-- The bindings' agreement needs the form of the take table alone. -/
theorem State.takesForm_countBinding (h : s.takesForm) (w : Window) (f : Nat → Nat) (hf : f 0 = 0) :
    (s.countBinding w f).takesForm := by
  unfold State.countBinding
  split
  next j =>
    refine Sparse.wf_set h ?_
    by_cases hj : j < Config.takeSlots
    · exact .inl hj
    · refine .inr ?_
      have : s.takeAt j = Take.free := by
        by_contra hne
        exact hj (State.slot_of_takeAt h hne)
      rw [this]
      show { Take.free with bindings := f 0 } = Take.free
      rw [hf]; rfl
  next => exact h
  next => exact h

/-- Settles O17: the checks of R129 one after the other, then the replacement of R130. -/
theorem windowWriteReplacesBinding : Obligations.WindowWriteReplacesBinding := by
  intro index e s h
  simp only [exec_writeEntryWindow]
  have hidx (hi : index.toNat ≤ 15) : ∃ i : Fin 16, index.toNat = i.val := ⟨⟨index.toNat, by omega⟩, rfl⟩
  refine ⟨fun hi => State.request_refuses h (windowAct_badIndex hi), fun hi he => State.request_refuses h (windowAct_none hi (windowOf_none he)),
    fun hi hm hk hfree => ?_, fun hi hm hk hbusy hz hser => ?_, fun i w hi hw => ?_⟩
  · obtain ⟨i, hi⟩ := hidx hi
    refine State.request_refuses h ((windowAct_some hi (windowOf_take hm hk)).trans (State.checked_fail ?_))
    simp [State.bindChecks, firstFailing, State.isFree, hfree]
  · obtain ⟨i, hi⟩ := hidx hi
    refine State.request_refuses h ((windowAct_some hi (windowOf_take hm hk)).trans (State.checked_fail ?_))
    have hwrong := (State.wrongSerial_iff s e.take.toNat e.serial).2 ⟨hz, hser⟩
    simp only [State.bindChecks, firstFailing, State.isFree, State.takeAt_takeEvent, hbusy, decide_false]
    exact if_pos hwrong
  · have hread : windowOf e = some w ∧ firstFailing (s.bindChecks e.serial w) = none := by
      obtain ⟨hm, rfl⟩ | ⟨hm, hk, rfl, hbusy, hser⟩ | ⟨hm, p, hr, hc, rfl⟩ := hw
      · exact ⟨windowOf_unbound hm, rfl⟩
      · have hwrong : s.wrongSerial e.take.toNat e.serial = false := by
          rw [← Bool.not_eq_true, State.wrongSerial_iff]; tauto
        exact ⟨windowOf_take hm hk, by simp [State.bindChecks, firstFailing, State.isFree, hbusy, hwrong]⟩
      · exact ⟨windowOf_follow hm hr hc, rfl⟩
    obtain ⟨hread, hpass⟩ := hread
    have hchecks : firstFailing (s.takeEvent.bindChecks e.serial w) = none := by
      cases w <;> exact hpass
    have hframe := State.bindWindow_frame (s := s.takeEvent) i w
    refine ⟨s.takeEvent.bindWindow i w, State.request_answers h ((windowAct_some hi hread).trans (State.checked_pass hchecks)) ?_,
      hframe, fun hform hmatch => ?_⟩
    · rw [hframe]; rfl
    · have hform' := State.takesForm_countBinding (s := s.takeEvent) hform s.takeEvent.windows[i] (· - 1) rfl
      refine ⟨BindingsMatch.bind (s := s.takeEvent) hmatch hform i w hform', fun k => ?_⟩
      rw [State.takeAt_bindWindow, State.takeAt_countBinding hform', State.takeAt_countBinding (s := s.takeEvent) hform]
      split <;> split <;> rfl

/-! ## AMENDMENT -/

theorem keyInRange_iff (key : KeyEntry) :
    keyInRange key = true ↔ ¬(1023 < key.take.toNat ∨ 262143 < key.unit.toNat ∨ 7 < key.eighth.toNat) := by
  simp only [keyInRange, Bool.and_eq_true, decide_eq_true_eq]; omega

/-- The checks of a key in the order of R138. -/
theorem firstFailing_keyChecks (s : State) (key : KeyEntry) : firstFailing (s.keyChecks key) = keyRefusal s key := by
  simp only [State.keyChecks, firstFailing, keyRefusal, Bool.not_eq_true', ← Bool.not_eq_true (keyInRange key), keyInRange_iff, not_not,
    State.isFree_iff, State.wrongSerial_iff]

theorem State.amend_badIndex {index : BitVec 16} {checks : List (Bool × Status)} {f : Amendment → Amendment} (h : 7 < index.toNat) :
    s.amend index checks f = (s, .badIndex) := dif_neg (by omega)

theorem State.amend_fails {index : BitVec 16} {checks : List (Bool × Status)} {f : Amendment → Amendment} {i : Fin 8} {e : Status}
    (h : index.toNat = i.val) (hf : firstFailing checks = some e) : s.amend index checks f = (s, e) := by
  have hi := i.isLt
  rw [State.amend, dif_pos (by omega)]
  exact State.checked_fail hf

/-- An amendment operation that passes its checks changes its slot. -/
theorem State.amend_passes {index : BitVec 16} {checks : List (Bool × Status)} {f : Amendment → Amendment} {i : Fin 8}
    (h : index.toNat = i.val) (hf : firstFailing checks = none) :
    s.amend index checks f = (s.setAmendment i (f s.amendments[i]), .done) := by
  obtain ⟨i, hi⟩ := i
  simp only at h
  subst h
  have hset (x : Amendment) : s.amendments.set index.toNat x hi = s.amendments.setIfInBounds index.toNat x :=
    Vector.toArray_inj.1 (by simp [Array.setIfInBounds, hi])
  rw [State.amend, dif_pos hi, State.checked_pass hf, hset]
  rfl

theorem exec_writeKey (index : BitVec 16) (key : KeyEntry) (s : State) : exec (.writeKey index key) s =
    s.request (.writeKey index key) fun s => s.amend index (s.keyChecks key) fun a => a.withKey key := rfl

theorem exec_writeValue (index : BitVec 16) (value : BitVec 64) (s : State) : exec (.writeValue index value) s =
    s.request (.writeValue index value) fun s => s.amend index [] fun a => a.withValue value := rfl

theorem exec_writeBoth (index : BitVec 16) (key : KeyEntry) (value : BitVec 64) (s : State) : exec (.writeBoth index key value) s =
    s.request (.writeBoth index key value) fun s => s.amend index (s.keyChecks key) fun a => (a.withKey key).withValue value := rfl

theorem exec_disable (index : BitVec 16) (s : State) : exec (.disable index) s =
    s.request (.disable index) fun s => s.amend index [] Amendment.off := rfl

/-- Settles O18: each operation by its checks, then its change of the slot. -/
theorem amendmentWritesChangeTheirSlot : Obligations.AmendmentWritesChangeTheirSlot := by
  intro index key value s h
  simp only [exec_writeKey, exec_writeValue, exec_writeBoth, exec_disable]
  have hkey : firstFailing (s.takeEvent.keyChecks key) = keyRefusal s key := firstFailing_keyChecks s.takeEvent key
  refine ⟨fun hi => ?_, fun i hi => ⟨fun e he => ?_, fun hn => ?_, ?_, ?_⟩, fun frame hc hsum hcmd hsel hlen hidx hop => ?_⟩
  · exact ⟨State.request_refuses h (State.amend_badIndex hi), State.request_refuses h (State.amend_badIndex hi),
      State.request_refuses h (State.amend_badIndex hi), State.request_refuses h (State.amend_badIndex hi)⟩
  · exact ⟨State.request_refuses h (State.amend_fails hi (hkey.trans he)), State.request_refuses h (State.amend_fails hi (hkey.trans he))⟩
  · exact ⟨State.request_gives h (State.amend_passes hi (hkey.trans hn)) rfl rfl,
      State.request_gives h (State.amend_passes hi (hkey.trans hn)) rfl rfl⟩
  · exact State.request_gives h (State.amend_passes hi rfl) rfl rfl
  · exact State.request_gives h (State.amend_passes hi rfl) rfl rfl
  · refine exec_badRequest h hc ((badReason_amendment hsum hcmd hsel hlen hop).trans (if_neg (by omega)))

/-! ## WATCH -/

theorem watchModeOf_code {b : Byte} {m : WatchMode} (h : b.toNat = m.code) : watchModeOf b = some m := by
  rw [watchModeOf, h]; cases m <;> rfl

theorem watchModeOf_none {b : Byte} (h : 2 < b.toNat) : watchModeOf b = none := by
  unfold watchModeOf; split <;> first | omega | rfl

theorem dirFilterOf_code {b : Byte} {d : DirFilter} (h : b.toNat = d.code) : dirFilterOf b = some d := by
  rw [dirFilterOf, h]; cases d <;> rfl

theorem dirFilterOf_none {b : Byte} (h : 2 < b.toNat) : dirFilterOf b = none := by
  unfold dirFilterOf; split <;> first | omega | rfl

theorem sourceFilterOf_some {kind source : Byte} {src : Option Source}
    (h : (kind = 0 ∧ src = none) ∨ (kind = 1 ∧ source.toNat ≤ 15 ∧ src = some (source.setWidth 4))) :
    sourceFilterOf kind source = some src := by
  obtain ⟨rfl, rfl⟩ | ⟨rfl, hs, rfl⟩ := h
  · rfl
  · exact if_pos hs

theorem sourceFilterOf_none {kind source : Byte} (h : 1 < kind.toNat ∨ (kind = 1 ∧ 15 < source.toNat)) :
    sourceFilterOf kind source = none := by
  obtain h | ⟨rfl, hs⟩ := h
  · unfold sourceFilterOf; split <;> first | omega | rfl
  · exact if_neg (by omega)

/-- An encoding outside its field's values gives no unit (R172). -/
theorem Watch.written_none {w : Watch} {e : WatchEntry} (h : 2 < e.mode.toNat ∨ 2 < e.dirFilter.toNat ∨ 1 < e.sourceKind.toNat ∨
    (e.sourceKind = 1 ∧ 15 < e.source.toNat) ∨ 7 < e.actions.toNat ∨ 7 < e.holdLane.toNat ∨ 1 < e.clear.toNat) :
    w.written e = none := by
  unfold Watch.written
  split
  next m d src n hm hd hsrc hn =>
    refine if_neg fun ⟨ha, hc⟩ => ?_
    obtain h | h | h | h | h | h | h := h
    · rw [watchModeOf_none h] at hm; cases hm
    · rw [dirFilterOf_none h] at hd; cases hd
    · rw [sourceFilterOf_none (.inl h)] at hsrc; cases hsrc
    · rw [sourceFilterOf_none (.inr h)] at hsrc; cases hsrc
    · omega
    · rw [laneOf_none h] at hn; cases hn
    · omega
  next => rfl

/-- The unit that a good WATCH write gives. -/
def Watch.configured (w : Watch) (e : WatchEntry) (m : WatchMode) (d : DirFilter) (src : Option Source) (n : Fin 8) : Watch :=
  { mode := m, compare := e.compare, mask := e.mask, dirFilter := d, source := src, notice := e.actions.getLsbD 0,
    hold := e.actions.getLsbD 1, oneShot := e.actions.getLsbD 2, holdLane := n,
    hits := if e.clear = 1 then 0 else w.hits
    capture := if e.clear = 1 then none else w.capture }

theorem Watch.written_some {w : Watch} {e : WatchEntry} {m : WatchMode} {d : DirFilter} {src : Option Source} {n : Fin 8}
    (hm : e.mode.toNat = m.code) (hd : e.dirFilter.toNat = d.code)
    (hs : (e.sourceKind = 0 ∧ src = none) ∨ (e.sourceKind = 1 ∧ e.source.toNat ≤ 15 ∧ src = some (e.source.setWidth 4)))
    (hn : e.holdLane.toNat = n.val) (ha : e.actions.toNat ≤ 7) (hc : e.clear.toNat ≤ 1) :
    w.written e = some (w.configured e m d src n) := by
  have hone : e.clear.toNat = 1 ↔ e.clear = 1 := by rw [← BitVec.toNat_inj]; rfl
  rw [Watch.written, watchModeOf_code hm, dirFilterOf_code hd, sourceFilterOf_some hs, hn, laneOf_val]
  simp only [ha, hc, and_self, if_true, hone]
  rfl

/-- What a WATCH write does to the state, after its event is taken. -/
def watchWriteAct (index : BitVec 16) (e : WatchEntry) (s : State) : State × Status :=
  if h : index.toNat < 4 then
    s.checkedValue [] (s.watches[index.toNat].written e) fun w s => { s with watches := s.watches.set index.toNat w }
  else s.refused .badIndex

theorem exec_writeEntryWatch (index : BitVec 16) (e : WatchEntry) (s : State) :
    exec (.writeEntryWatch index e) s = s.request (.writeEntryWatch index e) (watchWriteAct index e) := rfl

/-- Settles O19: the encodings' checks, then the whole unit. -/
theorem watchWriteSetsUnit : Obligations.WatchWriteSetsUnit := by
  intro index e s h
  simp only [exec_writeEntryWatch]
  refine ⟨fun hi => State.request_refuses h (dif_neg (by omega)), fun hi he => State.request_refuses h ?_,
    fun v m d src n hi hm hd hs hn ha hc => ⟨s.watches[v].configured e m d src n, ?_, rfl⟩⟩
  · rw [watchWriteAct, dif_pos (by omega), Watch.written_none he]
    exact State.checkedValue_none rfl
  · have hv := v.isLt
    obtain ⟨v, hlt⟩ := v
    simp only at hi
    subst hi
    have hw := Watch.written_some (w := s.watches[index.toNat]) hm hd hs hn ha hc
    refine State.request_gives (u := { s.takeEvent with watches := s.watches.set index.toNat (s.watches[index.toNat].configured e m d src n) })
      h ?_ rfl rfl
    rw [watchWriteAct, dif_pos hlt]
    show s.takeEvent.checkedValue [] (s.watches[index.toNat].written e) _ = _
    rw [hw]
    exact State.checkedValue_some rfl

/-! ## LINES -/

theorem lineEntryOf_none {e : LinesEntry} (h : 1 < e.direction.toNat ∨ 1 < e.level.toNat) : lineEntryOf e = none := by
  unfold lineEntryOf; split <;> first | omega | rfl

theorem lineEntryOf_some {e : LinesEntry} {d : LineDirection} {l : Level} (hd : e.direction.toNat = d.code) (hl : e.level.toNat = l.code) :
    lineEntryOf e = some { direction := d, level := l } := by
  rw [lineEntryOf, hd, hl]; cases d <;> cases l <;> rfl

/-- What a LINES write does to the state, after its event is taken. -/
def linesWriteAct (index : BitVec 16) (e : LinesEntry) (s : State) : State × Status :=
  if h : index.toNat < 12 then
    s.checkedValue [] (lineEntryOf e) fun l s => { s with lines := s.lines.set index.toNat l }
  else s.refused .badIndex

theorem exec_writeEntryLines (index : BitVec 16) (e : LinesEntry) (s : State) :
    exec (.writeEntryLines index e) s = s.request (.writeEntryLines index e) (linesWriteAct index e) := rfl

/-- What drives a line that no enabled lane has (R167, R171). -/
theorem State.lineDriver_listening (h : s.listening = true) (i : Fin 12) (hn : ∀ n : Fin 8, n.val = i.val → (s.lane n).state = .disabled) :
    s.lineDriver i = if s.lines[i].direction = .output then some s.lines[i].level else none := by
  have hp : s.pins.powerReset = false := by simp [State.listening] at h; exact h.1
  rw [State.lineDriver, if_neg (by simp [hp])]
  by_cases hi : i.val < 8
  · have hl : laneOf i.val = some ⟨i.val, hi⟩ := dif_pos hi
    rw [hl]
    exact if_neg (by rw [Lane.enabled_iff, not_not]; exact hn ⟨i.val, hi⟩ rfl)
  · rw [laneOf_none (by omega)]

/-- A line entry written, as a request leaves it. -/
def State.setLineEntry (s : State) (i : Fin 12) (l : LineEntry) : State :=
  { s with lines := s.lines.set i.val l, out := { Outputs.none with taken := true } }

/-- The line of an enabled lane is driven by its lane function, whatever the entries. -/
theorem State.lineDriver_enabled {i : Fin 12} (hi : laneOf i.val = some n) (hn : (s.lane n).enabled = true) (l : LineEntry) :
    (s.setLineEntry i l).lineDriver i = s.lineDriver i := by
  have h' : ((s.setLineEntry i l).lane n).enabled = true := hn
  simp only [State.lineDriver, hi]
  rw [if_pos hn, if_pos h']
  rfl

/-- Settles O20: the encodings' checks, the entry, and what then drives the line. -/
theorem linesWriteActsUnlessLaneEnabled : Obligations.LinesWriteActsUnlessLaneEnabled := by
  intro index e s h
  simp only [exec_writeEntryLines]
  refine ⟨fun hi => State.request_refuses h (dif_neg (by omega)), fun hi he => State.request_refuses h ?_,
    fun i d l hi hd hl => ?_⟩
  · rw [linesWriteAct, dif_pos (by omega), lineEntryOf_none he]
    exact State.checkedValue_none rfl
  · have hline : (s.setLineEntry i { direction := d, level := l }).lines[i] = { direction := d, level := l } :=
      Vector.getElem_set_self i.isLt
    have hfree (hn : ∀ n : Fin 8, n.val = i.val → (s.lane n).state = .disabled) :
        (s.setLineEntry i { direction := d, level := l }).lineDriver i = if d = .output then some l else none := by
      rw [State.lineDriver_listening (s := s.setLineEntry i { direction := d, level := l }) h i hn, hline]
    refine ⟨s.setLineEntry i { direction := d, level := l }, ?_, rfl, fun hge => hfree fun m hm => ?_,
      fun n hn => ⟨fun hdis => hfree fun m hm => ?_, fun hen => ?_⟩⟩
    · obtain ⟨i, hlt⟩ := i
      simp only at hi
      subst hi
      refine State.request_answers h ?_ rfl
      rw [linesWriteAct, dif_pos hlt, lineEntryOf_some hd hl]
      exact State.checkedValue_some rfl
    · have := m.isLt; omega
    · rw [Fin.ext (hm.trans hn.symm)]; exact hdis
    · exact State.lineDriver_enabled (hn ▸ laneOf_val n) ((Lane.enabled_iff _).2 hen) _

/-! ## ENGAGE, the clear commands, the map load -/

/-- Settles O21: by the mode, then by the checks of R151. -/
theorem engageChecksLayout : Obligations.EngageChecksLayout := by
  intro s h
  have hexec : exec .engage s = s.request .engage fun s => match s.mode with
      | .engaged => s.done
      | .bypass => s.checked [(!layoutValid s.layout, .badLayout)] fun s => { s with mode := .engaged } := rfl
  rw [hexec]
  refine ⟨fun hm => State.request_refuses h ?_, fun hm hl => State.request_refuses h ?_, fun hm hl =>
    State.request_gives (u := { s.takeEvent with mode := .engaged }) h ?_ rfl rfl⟩
  · simp only [State.takeEvent_mode, hm]; rfl
  · have : layoutValid s.layout = false := by rw [← Bool.not_eq_true, layoutValid_iff]; exact hl
    simp only [State.takeEvent_mode, hm]
    exact State.checked_fail (by simp [firstFailing, this])
  · simp only [State.takeEvent_mode, hm]
    exact State.checked_pass (by simp [firstFailing, (layoutValid_iff _).2 hl])

/-- Settles O25: each sets one thing. -/
theorem clearCommandsClearOneThing : Obligations.ClearCommandsClearOneThing := by
  refine ⟨fun index s h => ?_, fun s h => ?_⟩
  · have hexec : exec (.clearHold index) s = s.request (.clearHold index) fun s => s.laneCommand index fun n =>
        (s.setLane n { s.lane n with pauseWatch := false }).done := rfl
    rw [hexec]
    exact ⟨fun hi => State.request_refuses h (State.laneCommand_badIndex hi),
      fun n hi => State.request_gives h (State.laneCommand_lane hi) rfl rfl⟩
  · exact ⟨_, State.request_gives (act := fun s => ({ s with notices := { s.notices with attention := false } } : State).done)
      h rfl rfl rfl, rfl, rfl⟩

theorem loadInRange_iff (base : Addr) (first count : Nat) : loadInRange base first count = true ↔
    ¬(count < 1 ∨ 16384 < count ∨ 16383 < first ∨ 16384 < first + count ∨ base.toNat % 64 ≠ 0 ∨ 2 ^ 40 < base.toNat + 8 * count) := by
  simp only [loadInRange, Bool.and_eq_true, decide_eq_true_eq, Config.tubeCount, Config.unitBytes]
  omega

/-- The checks of LOAD_MAP in the order of R18. -/
def loadChecks (base : Addr) (first count : Nat) (s : State) : List (Bool × Status) :=
  [(s.locked, .refusedLocked), (s.loader.running, .refusedState), (allLanes.any fun n => (s.lane n).busy, .refusedState),
    (!loadInRange base first count, .badValue)]

theorem exec_loadMap (base : Addr) (first count : BitVec 16) (s : State) : exec (.loadMap base first count) s =
    s.request (.loadMap base first count) fun s =>
      s.checked (loadChecks base first.toNat count.toNat s) (State.startLoad base first.toNat count.toNat) := rfl

theorem Lane.busy_iff (l : Lane) : l.busy = true ↔ l.state = .waiting ∨ l.state = .opened ∨ l.state = .closing := by
  simp [Lane.busy, Lane.recording_iff]

theorem any_busy_iff (s : State) : (allLanes.any fun n => (s.lane n).busy) = true ↔
    ∃ n, (s.lane n).state = .waiting ∨ (s.lane n).state = .opened ∨ (s.lane n).state = .closing := by
  simp [List.any_eq_true, Lane.busy_iff, mem_allLanes]

/-- Settles O30: the checks of R18 and of R21, then the load's start and its stop. -/
theorem mapLoadStartsAndAborts : Obligations.MapLoadStartsAndAborts := by
  refine ⟨fun base first count s h => ?_, fun s h => ⟨fun hr => ?_, fun hr => ?_⟩⟩
  · rw [exec_loadMap]
    have hbusy := any_busy_iff s.takeEvent
    refine ⟨fun hl => ?_, fun hl hbad => ?_, fun hl hr hn => ?_⟩
    · exact State.request_fails h (by simp [loadChecks, firstFailing, hl])
    · refine State.request_fails h ?_
      obtain hr | hn := hbad
      · simp [loadChecks, firstFailing, hl, hr]
      · simp only [loadChecks, firstFailing, State.takeEvent_locked, hl, hbusy.2 hn]
        simp
    · have hfree : (allLanes.any fun n => (s.takeEvent.lane n).busy) = false := by
        rw [← Bool.not_eq_true, hbusy]
        rintro ⟨n, hb⟩
        obtain e | e := hn n <;> simp [e] at hb
      have hf : firstFailing (loadChecks base first.toNat count.toNat s.takeEvent) =
          if loadInRange base first.toNat count.toNat then none else some .badValue := by
        simp only [loadChecks, firstFailing, State.takeEvent_locked, State.takeEvent_loader, hl, hr, hfree]
        cases loadInRange base first.toNat count.toNat <;> rfl
      split
      next hv => exact State.request_fails h (hf.trans (if_neg fun hc => (loadInRange_iff _ _ _).1 hc hv))
      next hv => exact State.request_passes h (hf.trans (if_pos ((loadInRange_iff _ _ _).2 hv))) rfl
  · exact State.request_fails (checks := fun s => [(!s.loader.running, .refusedState)]) (f := State.abortLoad) h
      (by simp [firstFailing, hr])
  · exact State.request_passes (checks := fun s => [(!s.loader.running, .refusedState)]) (f := State.abortLoad) h
      (by simp [firstFailing, hr]) rfl

end Sys2Proof.Machine
end

section
/-! Every request is answered (O9). -/

namespace Sys2Proof.Machine

variable {s t u : State} {n : Fin 8} {k : Nat}

/-! ## What a request's act leaves -/

/-- A request's act keeps the outputs and the free-value counter, and a refused one keeps the whole state. -/
structure ActKeeps (s : State) (r : State × Status) : Prop where
  out : r.1.out = s.out
  fresh : r.1.fresh = s.fresh
  refused : r.2 ≠ .done → r.1 = s

/-- An effect keeps the outputs and the free-value counter. -/
def KeepsOut (s t : State) : Prop := t.out = s.out ∧ t.fresh = s.fresh

theorem Works.keepsOut (h : Works s t) : KeepsOut s t := by rw [h.frame]; exact ⟨rfl, rfl⟩

namespace ActKeeps

theorem refuses (e : Status) : ActKeeps s (s.refused e) := ⟨rfl, rfl, fun _ => rfl⟩

theorem of_done (h : KeepsOut s t) : ActKeeps s t.done := ⟨h.1, h.2, fun h => absurd rfl h⟩

theorem checked {checks : List (Bool × Status)} {f : State → State} (h : KeepsOut s (f s)) : ActKeeps s (s.checked checks f) := by
  unfold State.checked
  split
  · exact .refuses _
  · exact .of_done h

theorem checkedValue {α : Type} {checks : List (Bool × Status)} {v : Option α} {f : α → State → State} (h : ∀ a, KeepsOut s (f a s)) :
    ActKeeps s (s.checkedValue checks v f) := by
  unfold State.checkedValue
  split
  · exact .refuses _
  · exact .refuses _
  · exact .of_done (h _)

theorem laneCommand {index : BitVec 16} {act : Fin 8 → State × Status} (h : ∀ n, ActKeeps s (act n)) :
    ActKeeps s (s.laneCommand index act) := by
  unfold State.laneCommand
  split
  · exact .refuses _
  · exact h _

theorem amend {index : BitVec 16} {checks : List (Bool × Status)} {f : Amendment → Amendment} : ActKeeps s (s.amend index checks f) := by
  unfold State.amend
  split
  · exact .checked ⟨rfl, rfl⟩
  · exact .refuses _

theorem verdict {index : BitVec 16} {serial : BitVec 32} {v : Verdict} {f : State → State} (h : KeepsOut s (f s)) :
    ActKeeps s (s.verdict index serial v f) := by
  unfold State.verdict
  refine .checked ?_
  split
  · exact h
  · exact ⟨rfl, rfl⟩

end ActKeeps

/-- What a taken request makes of the part: the reply fixed, and a refused one changing nothing (R175–R177). -/
def Replied (c : Instr) (s t : State) : Prop := ∃ st payload,
  t.link = { phase := .working, waitLeft := Config.waitBytes s.fresh, reply := replyBytes st payload } ∧
  t.out = { Outputs.none with linkBytes := List.replicate (requestBytes c).length 0xFF, taken := true } ∧
  (st ≠ .done → payload = [] ∧ Unchanged s t)

theorem State.request_replied {c : Instr} {act : State → State × Status} (h : s.listening = true) (ha : ActKeeps s.takeEvent (act s.takeEvent)) :
    ∃ t, s.request c act = .next t ∧ Replied c s t := by
  refine ⟨_, if_pos h, (act s.takeEvent).2, [], ?_, ?_, fun hst => ⟨rfl, ?_⟩⟩
  · simp only [State.reply, ha.fresh]; rfl
  · simp only [State.reply, ha.out]; rfl
  · rw [ha.refused hst]; rfl

theorem State.writeGlobal_keepsOut (e : GlobalEntry) : KeepsOut s (s.writeGlobal e) := by
  unfold State.writeGlobal
  rw [State.latchTest_frame]; exact ⟨rfl, rfl⟩

theorem State.bindWindow_keepsOut (i : Fin 16) (w : Window) : KeepsOut s (s.bindWindow i w) := by
  rw [State.bindWindow_frame]; exact ⟨rfl, rfl⟩

theorem State.accept_keepsOut (k : Nat) : KeepsOut s (s.accept k) := by rw [State.accept_frame]; exact ⟨rfl, rfl⟩

theorem State.reject_keepsOut (k : Nat) : KeepsOut s (s.reject k) := by rw [State.reject_frame]; exact ⟨rfl, rfl⟩

/-- A release, from its admission check. -/
theorem State.release_eq (k : Nat) : s.release k = (s.releaseBefore k).admissionCheck := rfl

theorem State.release_keepsOut (k : Nat) : KeepsOut s (s.release k) := by
  obtain ⟨ho, hf⟩ := (State.admissionCheck_works (s := s.releaseBefore k)).keepsOut
  have hbefore := State.releaseBefore_frame s k
  rw [State.release_eq]
  generalize s.releaseBefore k = x at hbefore ho hf ⊢
  rw [hbefore] at ho hf ⊢
  exact ⟨ho, hf⟩

theorem State.leaveEngaged_keepsOut : KeepsOut s s.leaveEngaged := by
  have h := (s.disableAll_works .bypass false).keepsOut
  unfold State.leaveEngaged
  generalize s.disableAll .bypass false = x at h ⊢
  exact h

theorem State.abortLoad_keepsOut : KeepsOut s s.abortLoad := ⟨rfl, rfl⟩

/-- Every request heard is answered. -/
theorem exec_request_replied {c : Instr} (hr : isRequest c = true) (hw : wellSent c = true) (h : s.listening = true) :
    ∃ t, exec c s = .next t ∧ Replied c s t := by
  cases c with
  | rigPortTransaction | storePortGrant | storePortReadReturn | chipSelectFall | chipSelectRise | powerOnReset | rigReset
  | senseWindowSample | drivePhaseStart | periodEnd | idleTimerExpiry | drainTimerExpiry | admissionTimerExpiry
  | powerOnResetEntry | rigResetRelease => cases hr
  | badRequest frame =>
    simp only [wellSent, Bool.and_eq_true] at hw
    obtain ⟨hc, hb⟩ := hw
    obtain ⟨e, he⟩ := Option.isSome_iff_exists.1 hb
    simp only [exec, execBadRequest, hc, he, if_true]
    exact State.request_replied h (.refuses _)
  | readEntry table index levels =>
    simp only [exec, execReadEntry, h, if_true]
    refine ⟨_, rfl, (s.readReply table index.toNat levels).1, (s.readReply table index.toNat levels).2, rfl, rfl, fun hst => ?_⟩
    unfold State.readReply at hst ⊢
    split at hst
    · exact absurd rfl hst
    · exact ⟨rfl, rfl⟩
  | writeEntryLayout index e =>
    simp only [exec, execWriteEntryLayout]
    exact State.request_replied h (.checked ⟨rfl, rfl⟩)
  | writeEntryGlobal index e =>
    simp only [exec, execWriteEntryGlobal]
    exact State.request_replied h (.checked (State.writeGlobal_keepsOut e))
  | writeEntryLaneConfig index e => rw [exec_writeEntryLaneConfig]; exact State.request_replied h (.laneCommand fun n => .checked ⟨rfl, rfl⟩)
  | writeEntryTube index e =>
    simp only [exec, execWriteEntryTube]
    exact State.request_replied h (.checkedValue fun _ => ⟨rfl, rfl⟩)
  | writeEntryWindow index e =>
    rw [exec_writeEntryWindow]
    refine State.request_replied h ?_
    unfold windowAct
    split
    · split
      · exact .refuses _
      · exact .checked (State.bindWindow_keepsOut _ _)
    · exact .refuses _
  | writeKey index key =>
    simp only [exec, execWriteKey]
    exact State.request_replied h .amend
  | writeValue index value =>
    simp only [exec, execWriteValue]
    exact State.request_replied h .amend
  | writeBoth index key value =>
    simp only [exec, execWriteBoth]
    exact State.request_replied h .amend
  | disable index =>
    simp only [exec, execDisable]
    exact State.request_replied h .amend
  | writeEntryWatch index e =>
    rw [exec_writeEntryWatch]
    refine State.request_replied h ?_
    unfold watchWriteAct
    split
    · exact .checkedValue fun _ => ⟨rfl, rfl⟩
    · exact .refuses _
  | writeEntryLines index e =>
    rw [exec_writeEntryLines]
    refine State.request_replied h ?_
    unfold linesWriteAct
    split
    · exact .checkedValue fun _ => ⟨rfl, rfl⟩
    · exact .refuses _
  | writeEntryReadOnly table index =>
    simp only [exec, execWriteEntryReadOnly]
    exact State.request_replied h (.refuses _)
  | engage =>
    simp only [exec, execEngage]
    refine State.request_replied h ?_
    split
    · exact .of_done ⟨rfl, rfl⟩
    · exact .checked ⟨rfl, rfl⟩
  | bypass =>
    simp only [exec, execBypass]
    refine State.request_replied h ?_
    split
    · exact .of_done ⟨rfl, rfl⟩
    · exact .of_done State.leaveEngaged_keepsOut
  | enableLane index =>
    simp only [exec, execEnableLane]
    exact State.request_replied h (.laneCommand fun n => .checked ⟨rfl, rfl⟩)
  | disableLane index =>
    simp only [exec, execDisableLane]
    exact State.request_replied h (.laneCommand fun n => .of_done (State.disableLane_works n).keepsOut)
  | acceptTake index serial =>
    simp only [exec, execAcceptTake]
    exact State.request_replied h (.verdict (State.accept_keepsOut _))
  | rejectTake index serial =>
    simp only [exec, execRejectTake]
    exact State.request_replied h (.verdict (State.reject_keepsOut _))
  | releaseTake index serial =>
    simp only [exec, execReleaseTake]
    exact State.request_replied h (.checked (State.release_keepsOut _))
  | loadMap base first count =>
    simp only [exec, execLoadMap]
    exact State.request_replied h (.checked ⟨rfl, rfl⟩)
  | abortLoad =>
    simp only [exec, execAbortLoad]
    exact State.request_replied h (.checked State.abortLoad_keepsOut)
  | lockCampaign =>
    simp only [exec, execLockCampaign]
    exact State.request_replied h (.checked ⟨rfl, rfl⟩)
  | clearAttention =>
    simp only [exec, execClearAttention]
    exact State.request_replied h (.of_done ⟨rfl, rfl⟩)
  | clearHold index =>
    simp only [exec, execClearHold]
    exact State.request_replied h (.laneCommand fun n => .of_done ⟨rfl, rfl⟩)

/-! ## The reply's bytes -/

theorem byteSum_append (a b : List Byte) : byteSum (a ++ b) = byteSum a + byteSum b := by
  induction a with
  | nil => simp [byteSum]
  | cons x a ih => rw [List.cons_append, byteSum, byteSum, ih, BitVec.add_assoc]

/-- The check byte brings the sum to 0. -/
theorem byteSum_checked (bs : List Byte) : byteSum (bs ++ [checkByte bs]) = 0 := by
  rw [byteSum_append]
  simp [byteSum, checkByte]

/-- Settles O9: requests heard, requests not heard, and the reply's bytes. -/
theorem everyRequestIsAnswered : Obligations.EveryRequestIsAnswered := by
  refine ⟨fun c s hr hw h => ?_, fun c s hr h => ⟨fun hno => ?_, fun hw hp hsel => ?_⟩, fun st payload => ⟨byteSum_checked _, ?_⟩⟩
  · obtain ⟨t, ht, st, payload, hl, ho, hu⟩ := exec_request_replied hr hw h
    exact ⟨t, st, payload, ht, hl, ho, hu⟩
  · obtain hw | hp | hsel := hno
    · exact exec_not_wellSent hw
    · exact exec_request_held hr hp
    · cases hw : wellSent c with
      | false => exact exec_not_wellSent hw
      | true => rw [exec_request_unheard hr hw h, State.ignoreRequest, State.clockBytes_high (s := s.notTaken) hsel]; rfl
  · have hrec := State.clockBytes_received (s := s.notTaken) (requestBytes c) hp rfl
    have hlow := State.clockBytes_low (s := s.notTaken) (bytes := requestBytes c) hsel hp
    refine ⟨_, exec_request_unheard hr hw h, ?_, ?_, hrec.congr rfl rfl, fun hreply => ?_⟩
    · rw [State.ignoreRequest, hlow]; rfl
    · rw [State.ignoreRequest, hlow]; rfl
    · rw [State.ignoreRequest, hlow]; exact Link.advance_after hreply _
  · exact ⟨checkByte (BitVec.ofNat 8 st.code :: (leBytes 2 payload.length ++ payload)), rfl⟩

end Sys2Proof.Machine
end

section
/-! The work of lane writes, of markers and of a lane's time events: in each case what `Works` says. -/

namespace Sys2Proof.Machine

variable {s t u : State} {n : Fin 8} {k : Nat}

/-! ## Lane writes -/

theorem State.flagTake_works (k : Nat) (f : Flag) : Works s (s.flagTake k f) := .setTake k _

theorem State.strayWrite_works (n : Fin 8) (src : Source) : Works s (s.strayWrite n src) := by
  unfold State.strayWrite
  split
  · exact .refl s
  · exact (Works.setLane n (by rfl)).trans (.post _)

theorem State.giveSegment_works (k seg : Nat) (rest : List Nat) (own : Bool) : Works s (s.giveSegment k seg rest own) :=
  (Works.pool _).trans (.setTake k _)

theorem State.allocate_works (h : s.allocate k = some t) : Works s t := by
  unfold State.allocate at h
  split at h
  · cases h
  · split at h
    · obtain rfl := Option.some.inj h
      exact State.giveSegment_works k _ _ true
    · split at h
      · obtain rfl := Option.some.inj h
        exact (State.giveSegment_works k _ _ false).trans (State.latchTest_works false)
      · cases h

theorem State.segmentFor_works {off : Nat} (h : s.segmentFor k off = some t) : Works s t := by
  unfold State.segmentFor at h
  split at h
  · exact State.allocate_works h
  · obtain rfl := Option.some.inj h
    exact .refl s

theorem State.recordUnit_works (n : Fin 8) (k : Nat) (w : Work) : Works s (s.recordUnit n k w) :=
  (Works.setTake k _).trans (.setLane n rfl)

theorem State.blockCompleted_works (n : Fin 8) (q : BitVec 16) : Works s (s.blockCompleted n q) := by
  have h : Works s (s.setLane n { s.lane n with lastSeq := some q }) := .setLane n rfl
  unfold State.blockCompleted
  dsimp only
  split
  · exact h.trans (State.sealTake_works n .endMarker false)
  · exact h

theorem State.inOrderWrite_works (n : Fin 8) (k off : Nat) (data : List Byte) : Works s (s.inOrderWrite n k off data).1 := by
  unfold State.inOrderWrite
  split
  · exact State.flagTake_works k _
  · next s1 h =>
    have h1 := (State.segmentFor_works h).trans (State.recordUnit_works n k (s1.parseUnit n k data).1)
    dsimp only
    split
    · exact h1.trans (State.blockCompleted_works n _)
    · exact h1

theorem Lane.touch_cfg (l : Lane) : l.touch.cfg = l.cfg := by unfold Lane.touch; split <;> rfl

theorem State.takenWrite_works (n : Fin 8) (k off : Nat) (data : List Byte) : Works s (s.takenWrite n k off data).1 := by
  have h : Works s (s.setLane n (s.lane n).touch) := .setLane n (Lane.touch_cfg _)
  unfold State.takenWrite
  dsimp only
  split
  · exact h
  · split
    · exact h.trans (State.inOrderWrite_works n k off data)
    · split
      · exact h.trans (.setTake k _)
      · exact h.trans (State.flagTake_works k _)

theorem State.laneWrite_works (n : Fin 8) (src : Source) (off : Nat) (data : List Byte) : Works s (s.laneWrite n src off data).1 := by
  unfold State.laneWrite
  split
  · exact .refl s
  · split
    · exact State.strayWrite_works n src
    · split
      · exact State.flagTake_works _ _
      · split
        · exact State.flagTake_works _ _
        · exact State.takenWrite_works n _ off data

/-! ## Markers -/

theorem State.clearClaim_works (p : TubePos) : Works s (s.clearClaim p) := .setTube _ _

theorem State.claimTube_works (n : Fin 8) (p : TubePos) : Works s (s.claimTube n p) := .setTube _ _

theorem State.deferStart_works (n : Fin 8) (p : TubePos) (d : Direction) : Works s (s.deferStart n p d) :=
  ((Works.pool _).trans (.setLane n (by rfl))).trans (.post _)

theorem State.requestAdmission_works (n : Fin 8) (p : TubePos) (d : Direction) : Works s (s.requestAdmission n p d) := by
  unfold State.requestAdmission
  split
  · split
    · exact ((Works.pool _).trans (State.latchTest_works false)).trans (State.openTake_works _ _)
    · exact (Works.post _).trans (State.clearClaim_works p)
  · exact State.deferStart_works n p d

theorem State.replaceHeld_works (n : Fin 8) (p : TubePos) (d : Direction) : Works s (s.replaceHeld n p d) := by
  have h1 := (State.claimTube_works (s := s) n p).trans (State.postHeld_works n .replaced)
  unfold State.replaceHeld
  dsimp only
  split
  next q e he =>
    split
    next => exact h1.trans (.setLane n (h1.cfgs n).symm)
    next => exact (h1.trans (State.clearClaim_works q)).trans (.setLane n (h1.cfgs n).symm)
  next => exact h1.trans (.setLane n (h1.cfgs n).symm)

theorem State.tubeStart_works (n : Fin 8) (p : TubePos) (d : Direction) : Works s (s.tubeStart n p d).1 := by
  unfold State.tubeStart
  split
  · exact .refl s
  · split
    · exact .post _
    · exact (State.claimTube_works n p).trans (State.requestAdmission_works n p d)
  · split
    · exact .post _
    · exact State.replaceHeld_works n p d
  · exact .post _
  · exact .post _

theorem State.enterClosing_works (n : Fin 8) (k : Nat) (f : Option (BitVec 16)) : Works s (s.enterClosing n k f) :=
  (Works.setTake k _).trans (.setLane n rfl)

theorem State.cancelHeld_works (n : Fin 8) : Works s (s.cancelHeld n) :=
  (State.refuseHeld_works n .cancelled).trans State.admissionCheck_works

theorem State.endOpen_works (n : Fin 8) (f : BitVec 16) : Works s (s.endOpen n f) := by
  unfold State.endOpen
  split
  · exact State.sealTake_works n .endMarker false
  · split
    · exact State.enterClosing_works n _ _
    · exact .refl s

theorem State.endClosing_works (n : Fin 8) (f : BitVec 16) : Works s (s.endClosing n f).1 := by
  unfold State.endClosing
  split
  · exact .refl s
  · split
    · exact State.sealTake_works n .endMarker false
    · exact .setLane n rfl

theorem State.tubeEnd_works (n : Fin 8) (p : TubePos) (f : BitVec 16) : Works s (s.tubeEnd n p f).1 := by
  unfold State.tubeEnd
  split
  · exact .refl s
  · exact .refl s
  · split
    · exact State.cancelHeld_works n
    · exact .refl s
  · split
    · exact State.endOpen_works n f
    · exact .refl s
  · split
    · exact State.endClosing_works n f
    · exact .refl s

theorem State.abandon_works (n : Fin 8) : Works s (s.abandon n).1 := by
  unfold State.abandon
  split
  · exact .refl s
  · exact .refl s
  · exact State.cancelHeld_works n
  · exact State.sealTake_works n .abandon false
  · exact State.sealTake_works n .abandon false

theorem State.plugMarker_works (p : TubePos) (g : Plug) : Works s (s.plugMarker p g).1 := by
  unfold State.plugMarker
  split
  · exact .refl s
  · split
    · exact .refl s
    · exact .setTube _ _

theorem State.laneMarker_works {src : Source} {n : Fin 8} {act : State × Option MarkerCause} (h : Works s act.1) :
    Works s (s.laneMarker src n act).1 := by
  unfold State.laneMarker
  split
  · exact .refl s
  · exact h

theorem State.plugAuthority_works {src : Source} {act : State × Option MarkerCause} (h : Works s act.1) :
    Works s (s.plugAuthority src act).1 := by
  unfold State.plugAuthority
  split
  · exact h
  · exact .refl s

theorem State.dispatchMarker_works (src : Source) (m : Marker) : Works s (s.dispatchMarker src m).1 := by
  cases m with
  | tubeStart n p d => exact State.laneMarker_works (State.tubeStart_works n p d)
  | tubeEnd n p f => exact State.laneMarker_works (State.tubeEnd_works n p f)
  | abandon n => exact State.laneMarker_works (State.abandon_works n)
  | plug p => exact State.plugAuthority_works (State.plugMarker_works p .plugged)
  | unplug p => exact State.plugAuthority_works (State.plugMarker_works p .unplugged)

theorem State.markerWrite_works (src : Source) (unit : Nat) (bs : List Byte) : Works s (s.markerWrite src unit bs) := by
  unfold State.markerWrite
  split
  · exact .post _
  · next m _ =>
    have h := State.dispatchMarker_works (s := s) src m
    split
    next s' hd => rw [hd] at h; exact h
    next s' c hd => rw [hd] at h; exact h.trans (.post _)

/-! ## Holds and the time events of a lane -/

theorem State.holdLane_works (n : Fin 8) : Works s (s.holdLane n) := by
  unfold State.holdLane
  split
  · exact .setLane n rfl
  · exact .refl s

theorem State.homeSensed_works (n : Fin 8) : Works s (s.homeSensed n) := by
  unfold State.homeSensed
  split
  · exact State.enterClosing_works n _ _
  · exact .refl s

theorem State.sampleLane_works (n : Fin 8) (level : Level) : Works s (s.sampleLane n level) := by
  unfold State.sampleLane
  dsimp only
  have h : Works s ((s.setLane n { s.lane n with home := homeAfter (s.lane n).home (s.laneLine n).prev (sampleOf level) }).setLaneLine n
      { s.laneLine n with prev := some (sampleOf level) }) :=
    (Works.setLane n (l := { s.lane n with home := homeAfter (s.lane n).home (s.laneLine n).prev (sampleOf level) }) rfl).trans
      (.setLaneLine n _)
  split
  · exact h.trans (State.homeSensed_works n)
  · exact h

theorem State.lanePeriodEnd_works (n : Fin 8) : Works s (s.lanePeriodEnd n) := by
  have h : Works s (s.setLane n (s.lane n).advance) := .setLane n rfl
  unfold State.lanePeriodEnd
  dsimp only
  split
  · exact h.trans (State.sealTake_works n .idleTimeout false)
  · split
    · exact h.trans (State.sealTake_works n _ false)
    · split
      · exact (h.trans (State.refuseHeld_works n .admissionTimeout)).trans State.admissionCheck_works
      · exact h

theorem State.endPeriod_works (n : Fin 8) : Works s (s.endPeriod n) :=
  (Works.setLaneLine n _).trans (State.lanePeriodEnd_works (s := s.driverOff n) n)

theorem State.chooseDrive_works (n : Fin 8) : Works s (s.chooseDrive n) := .setLaneLine n _

theorem State.takeDue_works (n : Fin 8) : Works s (s.takeDue n) := .setLaneLine n _

theorem State.bringDue_works (es : List LineEvent) : Works s (s.bringDue es) := (Silent.of_frame rfl).works

end Sys2Proof.Machine
end

section
/-! The invariants of the ports, the notices, the modes, the lock, the link and the timebase: what keeps them all (O58, O59). -/

namespace Sys2Proof.Machine

variable {s t u : State} {n : Fin 8} {k : Nat}

/-- A change keeps each of the invariants that are not the books'. -/
structure Controlled (s t : State) : Prop where
  notices : NoticesInRange s → NoticesInRange t
  arbiter : ArbiterSound s → ArbiterSound t
  ports : PortsSound s → PortsSound t
  lock : LockStopsLoads s → LockStopsLoads t
  layout : EngagedLayoutValid s → EngagedLayoutValid t
  frame : FrameSound s → FrameSound t
  timebase : TimebaseInRange s → TimebaseInRange t
  configs : ConfigsInRange s → ConfigsInRange t

/-- `t` has what those invariants read of `s`, but for the link. -/
structure SameControl (s t : State) : Prop where
  queue : t.notices.queue = s.notices.queue
  number : t.notices.nextNumber = s.notices.nextNumber
  index : t.notices.writeIndex = s.notices.writeIndex
  arbiter : t.arbiter = s.arbiter
  inFlight : t.inFlight = s.inFlight
  issued : t.issued = s.issued
  running : t.loader.running = s.loader.running
  read : t.loader.read = s.loader.read
  locked : t.locked = s.locked
  mode : t.mode = s.mode
  layout : t.layout = s.layout
  timebase : t.timebase = s.timebase
  powerReset : t.pins.powerReset = s.pins.powerReset
  cfgs : ∀ n, (t.lane n).cfg = (s.lane n).cfg

theorem NoticesInRange.congr (h : NoticesInRange s) (hq : t.notices.queue = s.notices.queue)
    (hn : t.notices.nextNumber = s.notices.nextNumber) (hi : t.notices.writeIndex = s.notices.writeIndex) : NoticesInRange t :=
  ⟨by rw [hq]; exact h.queue, by rw [hn]; exact h.number, by rw [hq]; exact h.numbers, by rw [hi]; exact h.index⟩

theorem ArbiterSound.congr (h : ArbiterSound s) (ha : t.arbiter = s.arbiter) (hq : t.notices.queue = s.notices.queue)
    (hp : t.pins.powerReset = s.pins.powerReset) : ArbiterSound t :=
  ⟨by rw [ha]; exact h.notice, by rw [ha]; exact h.loader, by rw [ha, hq, hp]; exact h.waits⟩

theorem PortsSound.congr (h : PortsSound s) (hf : t.inFlight = s.inFlight) (hi : t.issued = s.issued)
    (hr : t.loader.running = s.loader.running) (hd : t.loader.read = s.loader.read)
    (ha : t.arbiter.loader = s.arbiter.loader) (hp : t.pins.powerReset = s.pins.powerReset) : PortsSound t :=
  ⟨by rw [hf]; exact h.room, by rw [hf]; exact h.head, by rw [hi, hf]; exact h.reads, by rw [hi, hd]; exact h.loader,
    by rw [hd, hr]; exact h.live, by rw [hp, ha, hr, hd]; exact h.asks⟩

theorem ConfigsInRange.congr (h : ConfigsInRange s) (hc : ∀ n, (t.lane n).cfg = (s.lane n).cfg) : ConfigsInRange t := fun n => by
  rw [hc]; exact h n

theorem FrameSound.congr (h : FrameSound s) (hl : t.link = s.link) (hp : t.pins = s.pins) : FrameSound t :=
  ⟨by rw [hl, hp]; exact h.select, by rw [hl, hp]; exact h.held, by rw [hl]; exact h.reply⟩

theorem TimebaseInRange.congr (h : TimebaseInRange s) (ht : t.timebase = s.timebase) : TimebaseInRange t :=
  ⟨by rw [ht]; exact h.divider, by rw [ht]; exact h.period, by rw [ht]; exact h.window, by rw [ht]; exact h.cycle, by rw [ht]; exact h.tick⟩

namespace Controlled

theorem refl (s : State) : Controlled s s := ⟨id, id, id, id, id, id, id, id⟩

theorem trans (h : Controlled s t) (h' : Controlled t u) : Controlled s u :=
  ⟨h'.notices ∘ h.notices, h'.arbiter ∘ h.arbiter, h'.ports ∘ h.ports, h'.lock ∘ h.lock, h'.layout ∘ h.layout, h'.frame ∘ h.frame,
    h'.timebase ∘ h.timebase, h'.configs ∘ h.configs⟩

/-- A change of nothing that the invariants read, but for the frame. -/
theorem of_frame (h : SameControl s t) (hf : FrameSound s → FrameSound t) : Controlled s t where
  notices hs := hs.congr h.queue h.number h.index
  arbiter hs := hs.congr h.arbiter h.queue h.powerReset
  ports hs := hs.congr h.inFlight h.issued h.running h.read (by rw [h.arbiter]) h.powerReset
  lock hs hl := by rw [h.running]; exact hs (h.locked ▸ hl)
  layout hs hm := by rw [h.layout]; exact hs (h.mode ▸ hm)
  frame := hf
  timebase hs := hs.congr h.timebase
  configs hs := hs.congr h.cfgs

theorem of_same (h : SameControl s t) (hl : t.link = s.link) (hp : t.pins = s.pins) : Controlled s t :=
  .of_frame h fun hf => hf.congr hl hp

end Controlled

/-! ## Notices posted -/

/-- A notice created keeps the ranges (R160, R161). -/
theorem NoticesInRange.create {w : NoticeWriter} {r : Report} (h : NoticesInRange s) (hw : s.notices = w)
    (ht : t.notices = w.create r) : NoticesInRange t := by
  obtain ⟨hq, hn, hns, hi⟩ := h
  rw [hw] at hq hn hns hi
  constructor <;> rw [ht] <;> simp only [NoticeWriter.create]
  · split
    · simp only [List.length_append, List.length_singleton]; omega
    · exact hq
  · split <;> omega
  · split
    · intro m hm
      rw [List.mem_append, List.mem_singleton] at hm
      obtain hm | rfl := hm
      · exact hns m hm
      · exact hn
    · exact hns
  · exact hi

theorem foldl_create_queue_ne_nil (rs : List Report) (w : NoticeWriter) (h : w.queue ≠ []) :
    (rs.foldl NoticeWriter.create w).queue ≠ [] := by
  induction rs generalizing w with
  | nil => exact h
  | cons r rs ih => exact ih _ (w.create_queue_ne_nil r)

theorem NoticesInRange.posts {rs : List Report} (h : NoticesInRange s) (ht : t.notices = rs.foldl NoticeWriter.create s.notices) :
    NoticesInRange t := by
  induction rs generalizing s with
  | nil => exact h.congr (by rw [ht]; rfl) (by rw [ht]; rfl) (by rw [ht]; rfl)
  | cons r rs ih =>
    exact ih (s := { s with notices := s.notices.create r }) (h.create rfl rfl) ht

/-- Reports posted leave the arbiter sound: the Notice Writer waits from the first of them on (R162). -/
theorem ArbiterSound.posts {rs : List Report} (h : ArbiterSound s) (ht : t.notices = rs.foldl NoticeWriter.create s.notices)
    (ha : t.arbiter = arbiterAfter s.arbiter rs) (hp : t.pins.powerReset = s.pins.powerReset) : ArbiterSound t := by
  cases rs with
  | nil => exact h.congr ha (by rw [ht]; rfl) hp
  | cons r rs =>
    have ha' : t.arbiter = { s.arbiter with notice := some (s.arbiter.notice.getD 0) } := ha
    refine ⟨fun c hc => ?_, by rw [ha']; exact h.loader, fun _ => ?_⟩
    · rw [ha'] at hc
      obtain rfl := Option.some.inj hc
      cases hn : s.arbiter.notice with
      | none => exact Nat.zero_le _
      | some c => exact h.notice c hn
    · rw [ha', ht]
      exact ⟨fun _ => foldl_create_queue_ne_nil rs _ (s.notices.create_queue_ne_nil r), fun _ => rfl⟩

theorem Works.link (h : Works s t) : t.link = s.link := by rw [h.frame]
theorem Works.pins (h : Works s t) : t.pins = s.pins := by rw [h.frame]

/-- The lanes' work keeps the invariants. -/
theorem Works.controlled (h : Works s t) : Controlled s t := by
  obtain ⟨hf, ⟨rs, hn, ha⟩, hc⟩ := h
  have hloader : t.loader = s.loader := by rw [hf]
  have hpins : t.pins = s.pins := by rw [hf]
  have harb : t.arbiter.loader = s.arbiter.loader := by rw [ha]; rfl
  exact
    { notices := fun hs => hs.posts hn
      arbiter := fun hs => hs.posts hn ha (by rw [hpins])
      ports := fun hs => hs.congr (by rw [hf]) (by rw [hf]) (by rw [hloader]) (by rw [hloader]) harb (by rw [hpins])
      lock := fun hs hl => by rw [hloader]; exact hs (by rw [hf] at hl; exact hl)
      layout := fun hs hm => by rw [hf] at hm ⊢; exact hs hm
      frame := fun hs => hs.congr (by rw [hf]) hpins
      timebase := fun hs => hs.congr (by rw [hf])
      configs := fun hs => hs.congr hc }

/-! ## The link -/

/-- The frame stays sound while bytes are clocked (R176). -/
theorem FrameSound.clocked (h : FrameSound s) (m : Nat) (hl : t.link = s.link.advance m) (hp : t.pins = s.pins) : FrameSound t := by
  rw [Link.advance_after h.reply] at hl
  have hphase : t.link.phase = .idle ↔ s.link.phase = .idle := by
    rw [hl, linkAfter]
    split
    next e => simp only [e]; split <;> [simp; (split <;> simp)]
    next e => simp only [e]; split <;> simp
    next => exact Iff.rfl
    next => exact Iff.rfl
    next => exact Iff.rfl
  refine ⟨fun e => ?_, fun e => ?_, fun e => ?_⟩
  · rw [hp]; exact h.select (mt hphase.2 e)
  · rw [hphase]; exact h.held (hp ▸ e)
  · rw [hl] at e ⊢
    revert e
    rw [linkAfter]
    split
    next hw =>
      have hr := h.reply (.inl hw)
      have := List.length_pos_iff.2 hr
      simp only
      split
      next => simp [List.drop_eq_nil_iff]; omega
      next =>
        split
        next => simp [List.drop_eq_nil_iff]; omega
        next => simp
    next hw =>
      simp only
      split
      next => simp [List.drop_eq_nil_iff]; omega
      next => simp
    next hw => exact h.reply
    next hw => exact h.reply
    next hw => exact h.reply

theorem State.clockBytes_controlled (bytes : List Byte) : Controlled s (s.clockBytes bytes) := by
  unfold State.clockBytes
  split
  · exact .of_frame ⟨rfl, rfl, rfl, rfl, rfl, rfl, rfl, rfl, rfl, rfl, rfl, rfl, rfl, fun _ => rfl⟩ fun h => h.clocked _ rfl rfl
  · exact .refl s

theorem State.takeEvent_controlled : Controlled s s.takeEvent :=
  .of_same ⟨rfl, rfl, rfl, rfl, rfl, rfl, rfl, rfl, rfl, rfl, rfl, rfl, rfl, fun _ => rfl⟩ rfl rfl

theorem State.notTaken_controlled : Controlled s s.notTaken :=
  .of_same ⟨rfl, rfl, rfl, rfl, rfl, rfl, rfl, rfl, rfl, rfl, rfl, rfl, rfl, fun _ => rfl⟩ rfl rfl

theorem State.ignoreRequest_controlled (c : Instr) : Controlled s (s.ignoreRequest c) :=
  State.notTaken_controlled.trans (State.clockBytes_controlled _)

theorem replyBytes_ne_nil (st : Status) (payload : List Byte) : replyBytes st payload ≠ [] := by simp [replyBytes]

/-- A request's reply keeps the invariants, where the frame was RECEIVING (R175, R176). -/
theorem State.reply_controlled {c : Instr} {st : Status} {payload : List Byte} (h : s.listening = true) (hc : Controlled s t)
    (hp : t.pins = s.pins) : Controlled s (t.reply c st payload) := by
  simp only [State.listening, Bool.and_eq_true, Bool.not_eq_true', decide_eq_true_eq] at h
  obtain ⟨hpow, hrec⟩ := h
  obtain ⟨h1, h2, h3, h4, h5, -, h7, h8⟩ := hc
  refine ⟨fun h => ?_, fun h => ?_, fun h => ?_, fun h => h4 h, fun h => h5 h, fun h => ⟨fun _ => ?_, fun e => ?_, fun _ => ?_⟩,
    fun h => ?_, fun h => h8 h⟩
  · exact (h1 h).congr rfl rfl rfl
  · exact (h2 h).congr rfl rfl rfl
  · exact (h3 h).congr rfl rfl rfl rfl rfl rfl
  · show t.pins.selectLow = true
    rw [hp]; exact h.select (by rw [hrec]; simp)
  · have e' : t.pins.powerReset = true := e
    rw [hp, hpow] at e'; cases e'
  · exact replyBytes_ne_nil st payload
  · exact (h7 h).congr rfl

/-- A request keeps the invariants where its act does, and leaves the pins. -/
theorem Controlled.request {c : Instr} {act : State → State × Status} (h : s.request c act = .next t)
    (ha : Controlled s.takeEvent (act s.takeEvent).1 ∧ (act s.takeEvent).1.pins = s.pins) : Controlled s t := by
  unfold State.request at h
  split at h
  next hl =>
    obtain rfl := Host.Outcome.next.inj h
    exact State.reply_controlled hl (State.takeEvent_controlled.trans ha.1) ha.2
  next =>
    obtain rfl := Host.Outcome.next.inj h
    exact State.ignoreRequest_controlled c

end Sys2Proof.Machine
end

section
/-! Every command keeps the invariants of the ports, the notices, the modes, the lock, the link and the timebase (O58). -/

namespace Sys2Proof.Machine

variable {s t u : State} {n : Fin 8} {k : Nat}

/-! ## The shapes of a request's act -/

theorem State.checked_fst {P : State → Prop} {checks : List (Bool × Status)} {f : State → State} (hs : P s)
    (hf : firstFailing checks = none → P (f s)) : P (s.checked checks f).1 := by
  cases h : firstFailing checks with
  | some e => rw [State.checked_fail h]; exact hs
  | none => rw [State.checked_pass h]; exact hf h

theorem State.checkedValue_fst {α : Type} {P : State → Prop} {checks : List (Bool × Status)} {v : Option α} {f : α → State → State}
    (hs : P s) (hf : ∀ a, v = some a → P (f a s)) : P (s.checkedValue checks v f).1 := by
  unfold State.checkedValue
  split
  · exact hs
  · exact hs
  · exact hf _ rfl

theorem State.laneCommand_fst {P : State → Prop} {index : BitVec 16} {act : Fin 8 → State × Status} (hs : P s)
    (hf : ∀ n, P (act n).1) : P (s.laneCommand index act).1 := by
  unfold State.laneCommand
  split
  · exact hs
  · exact hf _

/-- A change keeps the invariants and leaves the pins. -/
def ControlledAct (s t : State) : Prop := Controlled s t ∧ t.pins = s.pins

theorem ControlledAct.refl (s : State) : ControlledAct s s := ⟨.refl s, rfl⟩

theorem Works.controlledAct (h : Works s t) : ControlledAct s t := ⟨h.controlled, h.pins⟩

theorem ControlledAct.trans (h : ControlledAct s t) (h' : ControlledAct t u) : ControlledAct s u := ⟨h.1.trans h'.1, h'.2.trans h.2⟩

/-- A change of what the invariants do not read. -/
theorem ControlledAct.of_same (h : SameControl s t) (hl : t.link = s.link) (hp : t.pins = s.pins) : ControlledAct s t :=
  ⟨.of_same h hl hp, hp⟩

theorem State.amend_controlled {index : BitVec 16} {checks : List (Bool × Status)} {f : Amendment → Amendment} :
    ControlledAct s (s.amend index checks f).1 := by
  unfold State.amend
  split
  · exact State.checked_fst (P := ControlledAct s) (.refl s) fun _ =>
      .of_same ⟨rfl, rfl, rfl, rfl, rfl, rfl, rfl, rfl, rfl, rfl, rfl, rfl, rfl, fun _ => rfl⟩ rfl rfl
  · exact .refl s

theorem State.verdict_controlled {index : BitVec 16} {serial : BitVec 32} {v : Verdict} {f : State → State} (h : ControlledAct s (f s)) :
    ControlledAct s (s.verdict index serial v f).1 := by
  unfold State.verdict
  refine State.checked_fst (P := ControlledAct s) (.refl s) fun _ => ?_
  split
  · exact h
  · exact .refl s

/-! ## The effects -/

/-- The timebase of a GLOBAL entry in range. -/
theorem State.setGlobal_controlled {e : GlobalEntry} (h : globalInRange e = true) : ControlledAct s (s.setGlobal e) := by
  have hr := (globalInRange_iff e).1 h
  simp only [globalOutOfRange, not_or, Nat.not_lt] at hr
  refine ⟨⟨fun h => h.congr rfl rfl rfl, fun h => h.congr rfl rfl rfl, fun h => h.congr rfl rfl rfl rfl rfl rfl, id, id,
    fun h => h.congr rfl rfl, fun h => ?_, fun h => h.congr fun _ => rfl⟩, rfl⟩
  by_cases hs : sameTimebase s.timebase e = true
  · exact h.congr (if_pos hs)
  · have ht : (s.setGlobal e).timebase =
        { divider := e.divider.toNat, period := e.period.toNat, window := e.window.toNat, cycle := 0, tick := 0 } := if_neg hs
    constructor <;> rw [ht] <;> simp only <;> omega

theorem State.writeGlobal_controlled {e : GlobalEntry} (h : globalInRange e = true) : ControlledAct s (s.writeGlobal e) :=
  (State.setGlobal_controlled h).trans (State.latchTest_works false).controlledAct

/-- A lane configured in range (R46, R47). -/
theorem ConfigInRange.of_entry {e : LaneConfigEntry} (h : laneConfigInRange e = true) : ConfigInRange (LaneConfig.ofEntry e) := by
  have hr := (laneConfigInRange_iff e).1 h
  simp only [laneConfigOutOfRange, not_or, Nat.not_lt] at hr
  have h1 := e.threshold.isLt
  have h2 := e.release.isLt
  have h3 := e.landmarkSpacing.isLt
  have h4 := e.sampleSpacing.isLt
  have h5 := e.tolerance.isLt
  have h6 := e.idle.isLt
  have h7 := e.drain.isLt
  have h8 := e.admission.isLt
  constructor <;> simp only [LaneConfig.ofEntry] <;> omega

theorem State.configure_controlled (n : Fin 8) {e : LaneConfigEntry} (h : laneConfigInRange e = true) :
    ControlledAct s (s.setLane n { s.lane n with cfg := LaneConfig.ofEntry e }) := by
  refine ⟨⟨fun h => h.congr rfl rfl rfl, fun h => h.congr rfl rfl rfl, fun h => h.congr rfl rfl rfl rfl rfl rfl, id, id,
    fun h => h.congr rfl rfl, fun h => h.congr rfl, fun hs m => ?_⟩, rfl⟩
  rw [State.lane_setLane]
  split
  · exact .of_entry h
  · exact hs m

theorem State.engage_controlled (h : layoutValid s.layout = true) : ControlledAct s { s with mode := .engaged } :=
  ⟨⟨fun h => h.congr rfl rfl rfl, fun h => h.congr rfl rfl rfl, fun h => h.congr rfl rfl rfl rfl rfl rfl, id, fun _ _ => h,
    fun h => h.congr rfl rfl, fun h => h.congr rfl, fun h => h.congr fun _ => rfl⟩, rfl⟩

theorem State.setLayout_controlled (h : s.mode ≠ .engaged) (l : Layout) : ControlledAct s (s.setLayout l) :=
  ⟨⟨fun h => h.congr rfl rfl rfl, fun h => h.congr rfl rfl rfl, fun h => h.congr rfl rfl rfl rfl rfl rfl, id, fun _ hm => absurd hm h,
    fun h => h.congr rfl rfl, fun h => h.congr rfl, fun h => h.congr fun _ => rfl⟩, rfl⟩

theorem State.bypassMode_controlled : ControlledAct s { s with mode := .bypass } :=
  ⟨⟨fun h => h.congr rfl rfl rfl, fun h => h.congr rfl rfl rfl, fun h => h.congr rfl rfl rfl rfl rfl rfl, id, fun _ hm => (by cases hm),
    fun h => h.congr rfl rfl, fun h => h.congr rfl, fun h => h.congr fun _ => rfl⟩, rfl⟩

theorem State.lock_controlled (h : s.loader.running = false) : ControlledAct s { s with locked := true } :=
  ⟨⟨fun h => h.congr rfl rfl rfl, fun h => h.congr rfl rfl rfl, fun h => h.congr rfl rfl rfl rfl rfl rfl, fun _ _ => h, id,
    fun h => h.congr rfl rfl, fun h => h.congr rfl, fun h => h.congr fun _ => rfl⟩, rfl⟩

/-- A load's start: it asks for its first unit unless a discarded read is still to return (R18, R21). -/
theorem State.startLoad_controlled (h : s.locked = false) (base : Addr) (first count : Nat) :
    ControlledAct s (s.startLoad base first count) := by
  refine ⟨⟨fun h => h.congr rfl rfl rfl, fun h => ⟨h.notice, fun c hc => ?_, h.waits⟩,
    fun h => ⟨h.room, h.head, h.reads, h.loader, fun _ => rfl, fun _ => ?_⟩, fun _ hl => ?_, id,
    fun h => h.congr rfl rfl, fun h => h.congr rfl, fun h => h.congr fun _ => rfl⟩, rfl⟩
  · simp only [State.startLoad] at hc
    split at hc
    · obtain rfl := Option.some.inj hc; exact Nat.zero_le _
    · cases hc
  · simp only [State.startLoad]
    split
    next hi => simp [hi]
    next hi => simp [hi]
  · have hl' : s.locked = true := hl
    rw [h] at hl'; cases hl'

/-- A load that stops withdraws its request, and its issued read is to be discarded (R21). -/
theorem State.stopLoad_controlled : ControlledAct s s.stopLoad := by
  refine ⟨⟨fun h => h.congr rfl rfl rfl, fun h => ⟨h.notice, fun c hc => (by cases hc), h.waits⟩,
    fun h => ⟨h.room, h.head, h.reads, ?_, fun hl => ?_, fun _ => ?_⟩, fun _ _ => rfl, id,
    fun h => h.congr rfl rfl, fun h => h.congr rfl, fun h => h.congr fun _ => rfl⟩, rfl⟩
  · have hl := h.loader
    simp only [State.stopLoad]
    rw [hl]
    split
    next hi => simp [hi]
    next hi => split <;> simp
  · simp only [State.stopLoad] at hl
    split at hl
    · cases hl
    · next hne => exact absurd hl hne
  · simp [State.stopLoad]

theorem State.armLane_works (n : Fin 8) : Works s (s.armLane n) :=
  (Works.setLane n (l := { Lane.disabled (s.lane n).cfg with state := .armed }) rfl).trans (.setLaneLine n _)

theorem State.release_controlled (k : Nat) : ControlledAct s (s.release k) := by
  refine ControlledAct.trans ?_ (State.admissionCheck_works (s := s.releaseBefore k)).controlledAct
  have hm : ControlledAct s ((s.modTubeOf k fun t => t.release k (s.takeAt k).state).dropAmendments k) := by
    rw [State.modTubeOf_frame]
    exact .of_same ⟨rfl, rfl, rfl, rfl, rfl, rfl, rfl, rfl, rfl, rfl, rfl, rfl, rfl, fun _ => rfl⟩ rfl rfl
  refine hm.trans ?_
  exact (((Works.pool _).trans (.setTake k Take.free)).trans (State.latchAfter_works _ false)).controlledAct

theorem State.accept_controlled (k : Nat) : ControlledAct s (s.accept k) := by
  rw [State.accept_frame]
  exact .of_same ⟨rfl, rfl, rfl, rfl, rfl, rfl, rfl, rfl, rfl, rfl, rfl, rfl, rfl, fun _ => rfl⟩ rfl rfl

theorem State.reject_controlled (k : Nat) : ControlledAct s (s.reject k) := by
  rw [State.reject_frame]
  exact .of_same ⟨rfl, rfl, rfl, rfl, rfl, rfl, rfl, rfl, rfl, rfl, rfl, rfl, rfl, fun _ => rfl⟩ rfl rfl

theorem State.bindWindow_controlled (i : Fin 16) (w : Window) : ControlledAct s (s.bindWindow i w) := by
  rw [State.bindWindow_frame]
  exact .of_same ⟨rfl, rfl, rfl, rfl, rfl, rfl, rfl, rfl, rfl, rfl, rfl, rfl, rfl, fun _ => rfl⟩ rfl rfl

theorem State.leaveEngaged_controlled : ControlledAct s s.leaveEngaged := by
  have h := (s.disableAll_works .bypass false).controlledAct
  unfold State.leaveEngaged
  generalize s.disableAll .bypass false = x at h ⊢
  exact h.trans State.bypassMode_controlled

end Sys2Proof.Machine
end

section
/-! The ports and the clock keep the invariants: the in-flight list, the grants, the returns, and the timebase (O58). -/

namespace Sys2Proof.Machine

variable {s t u : State} {n : Fin 8} {k : Nat}

/-! ## The in-flight list -/

theorem drainFlights_length (l : List Flight) : (drainFlights l).2.length ≤ l.length := by
  induction l with
  | nil => exact le_rfl
  | cons f l ih => cases f with
    | answered r => exact ih.trans (Nat.le_succ _)
    | stream a o => exact le_rfl
    | awaiting a m o => exact le_rfl

/-- What is answered waits for no data. -/
theorem drainFlights_waits (l : List Flight) : (drainFlights l).2.countP Flight.waits = l.countP Flight.waits := by
  induction l with
  | nil => rfl
  | cons f l ih => cases f with
    | answered r => rw [List.countP_cons_of_neg (by simp [Flight.waits])]; exact ih
    | stream a o => rfl
    | awaiting a m o => rfl

theorem drainFlights_head (l : List Flight) : ∀ f ∈ (drainFlights l).2.head?, f.complete = false := by
  induction l with
  | nil => exact fun f h => by cases h
  | cons f l ih => cases f with
    | answered r => exact ih
    | stream a o => exact fun f h => by obtain rfl := Option.some.inj h; rfl
    | awaiting a m o => exact fun f h => by obtain rfl := Option.some.inj h; rfl

/-- A grant to the forwarded stream issues its first access, and a read then waits for its data (R156). -/
theorem grantStream_waits (l : List Flight) : (grantStream l).2.countP Flight.waits =
    l.countP Flight.waits + (issueBy .rig (grantStream l).1).countP (fun o => decide (o = .rig)) := by
  induction l with
  | nil => rfl
  | cons f l ih => cases f with
    | answered r => simpa [grantStream, Flight.waits] using ih
    | awaiting a m o => simp only [grantStream, Flight.waits, List.countP_cons, ih]; omega
    | stream a o => cases a with
      | read a m => simp [grantStream, List.countP_cons, Flight.waits, issueBy]
      | write a d => simp [grantStream, Flight.waits, issueBy]

theorem grantStream_length (l : List Flight) : (grantStream l).2.length = l.length := by
  induction l with
  | nil => rfl
  | cons f l ih => cases f with
    | answered r => simpa [grantStream] using ih
    | awaiting a m o => simpa [grantStream] using ih
    | stream a o => cases a <;> rfl

theorem issueBy_loader (a : Option StoreAccess) : (issueBy .rig a).countP (fun o => decide (o = .loader)) = 0 := by
  cases a with
  | none => rfl
  | some a => cases a <;> rfl

/-- A read that waits for its data receives it. -/
theorem deliver_waits (r : ReadReturn) (l : List Flight) (h : 0 < l.countP Flight.waits) :
    (deliver r l).countP Flight.waits + 1 = l.countP Flight.waits := by
  induction l with
  | nil => cases h
  | cons f l ih => cases f with
    | answered q => simpa [deliver, Flight.waits] using ih (by simpa [Flight.waits] using h)
    | stream a o => simpa [deliver, Flight.waits] using ih (by simpa [Flight.waits] using h)
    | awaiting a m o => simp [deliver, List.countP_cons, Flight.waits]

theorem deliver_length (r : ReadReturn) (l : List Flight) : (deliver r l).length = l.length := by
  induction l with
  | nil => rfl
  | cons f l ih => cases f with
    | answered q => simpa [deliver] using ih
    | stream a o => simpa [deliver] using ih
    | awaiting a m o => rfl

/-- The ports, once the complete transactions at the head are answered. -/
theorem PortsSound.respond (room : s.inFlight.length ≤ Config.inFlightLimit)
    (reads : s.issued.countP (fun o => decide (o = .rig)) = s.inFlight.countP Flight.waits)
    (loader : s.issued.countP (fun o => decide (o = .loader)) = if s.loader.read = .idle then 0 else 1)
    (live : s.loader.read = .live → s.loader.running = true)
    (asks : s.pins.powerReset = false → (s.arbiter.loader.isSome = true ↔ s.loader.running = true ∧ s.loader.read = .idle)) :
    PortsSound s.respond where
  room := (drainFlights_length _).trans room
  head := drainFlights_head _
  reads := reads.trans (drainFlights_waits _).symm
  loader := loader
  live := live
  asks := asks

/-! ## The rig port -/

theorem State.watch_controlled (t : RigTxn) : Controlled s (s.watch t) := by
  unfold State.watch
  generalize s.watchHits t = l
  induction l generalizing s with
  | nil => exact .refl s
  | cons v l ih =>
    refine Controlled.trans ?_ (ih (s := s.watchAct t v))
    have h : Controlled s { s with watches := s.watches.set v (s.watches[v].hit t) } :=
      .of_same ⟨rfl, rfl, rfl, rfl, rfl, rfl, rfl, rfl, rfl, rfl, rfl, rfl, rfl, fun _ => rfl⟩ rfl rfl
    unfold State.watchAct
    dsimp only
    split
    next =>
      split
      next => exact h.trans ((Works.post _).trans (State.holdLane_works _)).controlled
      next => exact h.trans (State.holdLane_works _).controlled
    next =>
      split
      next => exact h.trans (Works.post _).controlled
      next => exact h

theorem State.readTake_waits (k off size : Nat) : (s.readTake k off size).waits = false := by
  unfold State.readTake; split <;> rfl

theorem forwarded_waits (t : RigTxn) : (forwarded t).waits = false := by
  unfold forwarded; split <;> rfl

theorem State.laneRead_waits (n : Fin 8) (off size : Nat) : (s.laneRead n off size).waits = false := by
  unfold State.laneRead
  split
  · exact State.readTake_waits _ _ _
  · rfl

theorem State.reviewRead_waits (w : Fin 16) (off size : Nat) : (s.reviewRead w off size).waits = false := by
  unfold State.reviewRead
  split
  · rfl
  · split
    · rfl
    · exact State.readTake_waits _ _ _

theorem laneFlight_waits (a : Option StoreAccess) : (laneFlight a).waits = false := by cases a <;> rfl

/-- What a transaction does, and what stands for it in the in-flight list: no read that was issued. -/
theorem State.actOn_works (t : RigTxn) (c : AddrClass) : Works s (s.actOn t c).1 ∧ (s.actOn t c).2.waits = false := by
  cases c with
  | lane n off =>
    cases h : t.op with
    | write data => simp only [State.actOn, h]; exact ⟨State.laneWrite_works n _ off data, laneFlight_waits _⟩
    | read size => simp only [State.actOn, h]; exact ⟨.refl s, State.laneRead_waits n off size⟩
  | review w off =>
    cases h : t.op with
    | write data => simp only [State.actOn, h]; exact ⟨.refl s, rfl⟩
    | read size => simp only [State.actOn, h]; exact ⟨.refl s, State.reviewRead_waits w off size⟩
  | capture =>
    cases h : t.op with
    | write data => simp only [State.actOn, h]; exact ⟨.refl s, rfl⟩
    | read size => simp only [State.actOn, h]; exact ⟨.refl s, rfl⟩
  | marker unit =>
    cases h : t.op with
    | write data =>
      simp only [State.actOn, h]
      refine ⟨?_, forwarded_waits t⟩
      split
      · exact State.markerWrite_works _ unit data
      · exact .refl s
    | read size => simp only [State.actOn, h]; exact ⟨.refl s, forwarded_waits t⟩
  | ring =>
    cases h : t.op with
    | write data => simp only [State.actOn, h]; exact ⟨.refl s, rfl⟩
    | read size => simp only [State.actOn, h]; exact ⟨.refl s, forwarded_waits t⟩
  | other => exact ⟨.refl s, forwarded_waits t⟩

theorem State.route_works (t : RigTxn) : Works s (s.route t).1 ∧ (s.route t).2.waits = false := by
  unfold State.route
  split
  · exact ⟨.refl s, forwarded_waits t⟩
  · exact State.actOn_works t _

theorem State.watch_inFlight (t : RigTxn) : (s.watch t).inFlight = s.inFlight := by rw [State.watch_frame]

/-- A transaction that the rig port takes keeps the invariants: it joins a list of fewer than 32 (R143). -/
theorem State.rigTransaction_controlled (t : RigTxn) (h : s.inFlight.length < Config.inFlightLimit) : Controlled s (s.rigTransaction t) := by
  obtain ⟨hw, hwaits⟩ := State.route_works (s := s.watch t) t
  have hin : ((s.watch t).route t).1.inFlight = s.inFlight := by rw [hw.frame]; exact State.watch_inFlight t
  have hbefore : Controlled s ((s.watch t).route t).1 := (State.watch_controlled t).trans hw.controlled
  unfold State.rigTransaction
  generalize (s.watch t).route t = r at hin hbefore hwaits ⊢
  obtain ⟨w, f⟩ := r
  simp only at hin hbefore hwaits ⊢
  refine hbefore.trans ⟨fun h => h.congr rfl rfl rfl, fun h => h.congr rfl rfl rfl, fun hp => ?_, id, id, fun h => h.congr rfl rfl,
    fun h => h.congr rfl, fun h => h.congr fun _ => rfl⟩
  refine PortsSound.respond (s := w.join f) ?_ ?_ hp.loader hp.live hp.asks
  · simp only [State.join, List.length_append, List.length_singleton, hin]; omega
  · rw [State.join]
    simp only [List.countP_append, List.countP_singleton, hwaits]
    exact hp.reads

/-! ## Grants (R155, R162) -/

theorem atLimit_false {o : Option Nat} (h : atLimit o = false) {c : Nat} (hc : o = some c) : c < Config.forwardedGrantLimit := by
  rw [hc] at h
  simp only [atLimit, decide_eq_false_iff_not] at h
  omega

theorem State.arbitrate_loader (h : s.arbitrate = some .loader) : s.arbiter.loader.isSome = true := by
  unfold State.arbitrate at h
  split at h
  · cases h
  · split at h
    next hl =>
      cases ha : s.arbiter.loader with
      | none => rw [ha] at hl; cases hl
      | some c => rfl
    next =>
      split at h
      · cases h
      · split at h
        · cases h
        · split at h
          next hl => exact hl
          next => cases h

theorem State.arbitrate_forwarded (h : s.arbitrate = some .forwarded) :
    atLimit s.arbiter.notice = false ∧ atLimit s.arbiter.loader = false := by
  unfold State.arbitrate at h
  split at h
  · cases h
  · next hn =>
    split at h
    · cases h
    · next hl => exact ⟨by simpa using hn, by simpa using hl⟩

/-- The notice written leaves the queue, and the Notice Writer waits on while one is left (R162). -/
theorem State.grantNotice_controlled : Controlled s s.grantNotice := by
  unfold State.grantNotice
  split
  next hq =>
    exact ⟨fun h => h.congr rfl rfl rfl, fun h => ⟨fun c hc => (by cases hc), h.loader, fun _ => by simp [hq]⟩,
      fun h => h.congr rfl rfl rfl rfl rfl rfl, id, id, fun h => h.congr rfl rfl, fun h => h.congr rfl, fun h => h.congr fun _ => rfl⟩
  next m rest hq =>
    refine ⟨fun h => ⟨?_, h.number, fun x hx => h.numbers x ?_, ?_⟩, fun h => ⟨fun c hc => ?_, h.loader, fun _ => ?_⟩,
      fun h => h.congr rfl rfl rfl rfl rfl rfl, id, id, fun h => h.congr rfl rfl, fun h => h.congr rfl, fun h => h.congr fun _ => rfl⟩
    · have := h.queue
      rw [hq, List.length_cons] at this
      exact (Nat.le_succ _).trans this
    · rw [hq]; exact List.mem_cons_of_mem _ hx
    · have := h.index
      simp only
      split <;> simp only [Config.ringSlots] at * <;> omega
    · simp only at hc
      split at hc
      · cases hc
      · obtain rfl := Option.some.inj hc; exact Nat.zero_le _
    · cases rest <;> simp

theorem State.grantLoader_controlled (h : s.arbiter.loader.isSome = true) (hp : s.pins.powerReset = false) : Controlled s s.grantLoader := by
  refine ⟨fun h => h.congr rfl rfl rfl, fun h => ⟨h.notice, fun c hc => (by cases hc), h.waits⟩, fun hs => ?_, id, id,
    fun h => h.congr rfl rfl, fun h => h.congr rfl, fun h => h.congr fun _ => rfl⟩
  obtain ⟨hrun, hidle⟩ := (hs.asks hp).1 h
  refine ⟨hs.room, hs.head, ?_, ?_, fun _ => hrun, fun _ => ?_⟩
  · simpa [State.grantLoader] using hs.reads
  · have := hs.loader
    rw [if_pos hidle] at this
    simp [State.grantLoader, this]
  · simp [State.grantLoader]

theorem State.grantForwarded_controlled (h : s.arbitrate = some .forwarded) : Controlled s s.grantForwarded := by
  obtain ⟨hn, hl⟩ := State.arbitrate_forwarded h
  refine ⟨fun h => h.congr rfl rfl rfl, fun hs => ⟨fun c hc => ?_, fun c hc => ?_, fun hp => ?_⟩, fun hs => ?_, id, id,
    fun h => h.congr rfl rfl, fun h => h.congr rfl, fun h => h.congr fun _ => rfl⟩
  · obtain ⟨d, hd, rfl⟩ := Option.map_eq_some_iff.1 hc
    exact atLimit_false hn hd
  · obtain ⟨d, hd, rfl⟩ := Option.map_eq_some_iff.1 hc
    exact atLimit_false hl hd
  · have := hs.waits hp
    show ((s.arbiter.notice.map (· + 1)).isSome = true ↔ _)
    rw [Option.isSome_map]; exact this
  · refine PortsSound.respond ?_ ?_ ?_ hs.live fun hp => ?_
    · exact (grantStream_length _).le.trans hs.room
    · simp only [List.countP_append, grantStream_waits]
      rw [hs.reads]
    · simp only [List.countP_append, issueBy_loader]
      exact hs.loader
    · have := hs.asks hp
      show ((s.arbiter.loader.map (· + 1)).isSome = true ↔ _)
      rw [Option.isSome_map]; exact this

/-! ## Returns (R144, R19–R21) -/

/-- The return of a rig-port read: one waiting read the less on either side. -/
theorem State.rigReturn_controlled {r : ReadReturn} {rest : List ReadOwner} (h : s.issued = .rig :: rest) :
    Controlled s ({ s with issued := rest }.readReturn r .rig) := by
  refine ⟨fun h => h.congr rfl rfl rfl, fun h => h.congr rfl rfl rfl, fun hs => ?_, id, id, fun h => h.congr rfl rfl,
    fun h => h.congr rfl, fun h => h.congr fun _ => rfl⟩
  have hreads := hs.reads
  have hloader := hs.loader
  rw [h] at hreads hloader
  simp only [List.countP_cons, decide_true, if_true] at hreads
  refine PortsSound.respond ?_ ?_ ?_ hs.live hs.asks
  · exact (deliver_length _ _).le.trans hs.room
  · have := deliver_waits r s.inFlight (by omega)
    simp only; omega
  · simpa using hloader

/-- What the Map Loader makes of the part while a load runs: it applies entries, and stops or asks on. -/
structure LoaderStep (s t : State) : Prop where
  frame : t = { s with tubes := t.tubes, loader := t.loader, arbiter := t.arbiter, notices := t.notices }
  read : t.loader.read = s.loader.read
  running : t.loader.running = true → s.loader.running = true
  posts : ∃ rs : List Report, t.notices = rs.foldl NoticeWriter.create s.notices ∧
    t.arbiter.notice = (arbiterAfter s.arbiter rs).notice
  asked : t.arbiter.loader = some 0 ∨ t.arbiter.loader = s.arbiter.loader
  asks : s.loader.running = true → s.arbiter.loader = none → (t.arbiter.loader.isSome = true ↔ t.loader.running = true)

theorem State.endLoad_step (c : LoadCause) (v : Nat) : LoaderStep s (s.endLoad c v) where
  frame := rfl
  read := rfl
  running h := by cases h
  posts := ⟨[Report.mapLoadDone c v], rfl, congrArg Arbiter.notice (State.arbiter_post _)⟩
  asked := .inr rfl
  asks _ hn := by
    have : (s.endLoad c v).arbiter.loader = s.arbiter.loader := rfl
    rw [this, hn]; simp [State.endLoad]

theorem State.askLoader_step : LoaderStep s s.askLoader where
  frame := rfl
  read := rfl
  running := id
  posts := ⟨[], rfl, rfl⟩
  asked := .inl rfl
  asks hr _ := by simp [State.askLoader, hr]

theorem State.applyEntry_some {bs : List Byte} {off : Nat} (h : s.applyEntry bs off = some t) :
    ∃ x l, t = { s.setTube s.loader.next x with loader := l } ∧ l.running = s.loader.running ∧ l.read = s.loader.read := by
  unfold State.applyEntry at h
  dsimp only at h
  split at h
  · split at h
    · obtain rfl := Option.some.inj h
      exact ⟨_, _, rfl, rfl, rfl⟩
    · cases h
  · cases h

theorem State.applyEntries_step (bs : List Byte) (m j : Nat) : LoaderStep s (State.applyEntries bs m j s) := by
  induction m generalizing s j with
  | zero =>
    rw [State.applyEntries, State.afterUnit]
    split
    · exact State.endLoad_step _ _
    · exact State.askLoader_step
  | succ m ih =>
    rw [State.applyEntries]
    split
    next s' h =>
      obtain ⟨x, l, rfl, hr, hd⟩ := State.applyEntry_some h
      obtain ⟨h1, h2, h3, h4, h5, h6⟩ := ih (s := { s.setTube s.loader.next x with loader := l }) (j + 1)
      refine ⟨by rw [h1]; rfl, h2.trans hd, fun e => hr ▸ h3 e, h4, h5, fun e => h6 (hr.trans e)⟩
    next => exact State.endLoad_step _ _

/-- The reads that are left once the Map Loader's oldest has returned: none of its own. -/
def LoaderRests (s : State) (rest : List ReadOwner) : Prop :=
  rest.countP (fun o => decide (o = .rig)) = s.inFlight.countP Flight.waits ∧
    rest.countP (fun o => decide (o = .loader)) = 0 ∧ s.loader.read ≠ .idle

/-- A unit that a stopped load had asked for has returned: the loader asks on, where a load runs (R21). -/
theorem State.unitReturned_controlled {rest : List ReadOwner} {a : Option Nat} (ha : a = some 0 ∨ a = s.arbiter.loader)
    (h : PortsSound s → LoaderRests s rest ∧ (a.isSome = true ↔ s.loader.running = true)) : Controlled s { s with
      issued := rest, loader := { s.loader with read := .idle }, arbiter := { s.arbiter with loader := a } } := by
  refine ⟨fun h => h.congr rfl rfl rfl, fun hs => ⟨hs.notice, fun c hc => ?_, hs.waits⟩, fun hs => ?_, id, id,
    fun h => h.congr rfl rfl, fun h => h.congr rfl, fun h => h.congr fun _ => rfl⟩
  · obtain rfl | rfl := ha
    · obtain rfl := Option.some.inj hc; exact Nat.zero_le _
    · exact hs.loader c hc
  · obtain ⟨⟨h1, h2, -⟩, h3⟩ := h hs
    exact ⟨hs.room, hs.head, h1, h2, fun e => (by cases e), fun _ => by simpa using h3⟩

/-- The return of the Map Loader's read (R19–R21). -/
theorem State.loaderReturn_controlled {r : ReadReturn} {rest : List ReadOwner} (h : s.issued = .loader :: rest)
    (hp : s.pins.powerReset = false) : Controlled s ({ s with issued := rest }.readReturn r .loader) := by
  have hports (hs : PortsSound s) : LoaderRests s rest := by
    have hreads := hs.reads
    have hloader := hs.loader
    rw [h] at hreads hloader
    have hne : s.loader.read ≠ .idle := fun e => by simp [e] at hloader
    rw [if_neg hne] at hloader
    exact ⟨by simpa using hreads, by simpa using hloader, hne⟩
  show Controlled s (State.loaderReturn { s with issued := rest } r)
  unfold State.loaderReturn
  dsimp only
  split
  next hlive =>
    obtain ⟨hf, hread, hrun, ⟨rs, hn, ha⟩, hasked, hasks⟩ := State.applyEntries_step
      (s := { s with issued := rest, loader := { s.loader with read := .idle } }) (returnedBytes r 0 64) (min 8 s.loader.remaining) 0
    generalize State.applyEntries (returnedBytes r 0 64) (min 8 s.loader.remaining) 0
      { s with issued := rest, loader := { s.loader with read := .idle } } = t at hf hread hrun hn ha hasked hasks ⊢
    have hin : t.inFlight = s.inFlight := by rw [hf]
    have hissued : t.issued = rest := by rw [hf]
    have hpins : t.pins = s.pins := by rw [hf]
    refine ⟨fun hs => ?_, fun hs => ?_, fun hs => ?_, fun hs hl => ?_, fun hs hm => ?_, fun hs => ?_, fun hs => ?_, fun hs => ?_⟩
    · exact hs.posts hn
    · have hnotice := ArbiterSound.posts (t := { t with arbiter := { t.arbiter with loader := s.arbiter.loader } }) (rs := rs) hs hn
        (by show _ = arbiterAfter s.arbiter rs
            simp only [ha]; rfl) (by rw [hf])
      refine ⟨hnotice.notice, fun c hc => ?_, hnotice.waits⟩
      obtain e | e := hasked
      · rw [e] at hc; obtain rfl := Option.some.inj hc; exact Nat.zero_le _
      · rw [e] at hc; exact hs.loader c hc
    · obtain ⟨h1, h2, -⟩ := hports hs
      have hnone : s.arbiter.loader = none := by
        have := hs.asks hp
        rw [hlive] at this
        simpa using this
      refine ⟨by rw [hin]; exact hs.room, by rw [hin]; exact hs.head, by rw [hin, hissued]; exact h1, ?_, fun e => ?_, fun _ => ?_⟩
      · rw [hissued, hread]; exact h2
      · rw [hread] at e; cases e
      · rw [hasks (hs.live hlive) hnone, hread]; simp
    · have hlocked : s.locked = true := by rw [hf] at hl; exact hl
      rw [← Bool.not_eq_true]
      exact fun e => by have := hrun e; rw [show s.loader.running = false from hs hlocked] at this; cases this
    · rw [hf] at hm ⊢; exact hs hm
    · exact hs.congr (by rw [hf]) hpins
    · exact hs.congr (by rw [hf])
    · exact hs.congr fun n => by rw [hf]; rfl
  next hdisc =>
    have hnone (hs : PortsSound s) : s.arbiter.loader = none := by
      have := hs.asks hp
      rw [hdisc] at this
      simpa using this
    split
    next hrun =>
      exact State.unitReturned_controlled (a := some 0) (.inl rfl) fun hs => ⟨hports hs, by simp [hrun]⟩
    next hrun =>
      exact State.unitReturned_controlled (a := s.arbiter.loader) (.inr rfl) fun hs => ⟨hports hs, by simp [hnone hs, hrun]⟩
  next hidle =>
    exact State.unitReturned_controlled (a := s.arbiter.loader) (.inr rfl) fun hs => absurd hidle (hports hs).2.2

end Sys2Proof.Machine
end

section
/-! Every command and every step keeps the invariants of the ports, the notices, the modes, the lock, the link and the timebase (O58,
O59). -/

namespace Sys2Proof.Machine

variable {s t u : State} {n : Fin 8} {k : Nat}

/-! ## The clock (R165, R166) -/

theorem Timebase.afterCycle_settings (tb : Timebase) : tb.afterCycle.1.divider = tb.divider ∧ tb.afterCycle.1.period = tb.period ∧
    tb.afterCycle.1.window = tb.window := by
  unfold Timebase.afterCycle
  split
  · exact ⟨rfl, rfl, rfl⟩
  · split <;> exact ⟨rfl, rfl, rfl⟩

theorem TimebaseInRange.afterCycle (h : TimebaseInRange s) (ht : t.timebase = s.timebase.afterCycle.1) : TimebaseInRange t := by
  obtain ⟨hd, hp, hw, hc, hk⟩ := h
  obtain ⟨e1, e2, e3⟩ := Timebase.afterCycle_settings s.timebase
  refine ⟨by rw [ht, e1]; exact hd, by rw [ht, e2]; exact hp, by rw [ht, e3, e2]; exact hw, ?_, ?_⟩ <;> rw [ht] <;>
    unfold Timebase.afterCycle <;> split
  · next h1 => exact h1
  · split <;> exact hd.1
  · exact hk
  · split
    · next h2 => exact h2
    · exact Nat.lt_of_lt_of_le (Nat.succ_pos 15) hp.1

theorem TimebaseInRange.toEvent (h : TimebaseInRange s) (ht : t.timebase = s.timebase.toEvent.1) : TimebaseInRange t := by
  obtain ⟨hd, hp, hw, hc, hk⟩ := h
  unfold Timebase.toEvent at ht
  split at ht
  · constructor <;> rw [ht] <;> simp only <;> omega
  · constructor <;> rw [ht] <;> simp only <;> omega

/-- A change of the timebase that keeps its ranges. -/
theorem State.setTimebase_controlled {tb : Timebase} (h : TimebaseInRange s → TimebaseInRange { s with timebase := tb }) :
    Controlled s { s with timebase := tb } :=
  ⟨fun h => h.congr rfl rfl rfl, fun h => h.congr rfl rfl rfl, fun h => h.congr rfl rfl rfl rfl rfl rfl, id, id,
    fun h => h.congr rfl rfl, h, fun h => h.congr fun _ => rfl⟩

theorem State.clockCycle_controlled : Controlled s s.clockCycle := by
  unfold State.clockCycle
  split
  · exact State.notTaken_controlled
  · exact (State.notTaken_controlled.trans (State.setTimebase_controlled fun h => h.afterCycle rfl)).trans
      (State.bringDue_works _).controlled

theorem State.timely_controlled (n : Fin 8) : Controlled s (s.timely n) := by
  unfold State.timely
  split
  · exact (State.setTimebase_controlled fun h => h.toEvent rfl).trans (State.bringDue_works _).controlled
  · exact .refl s

theorem State.takeTimeEvent_controlled (n : Fin 8) : Controlled s (s.takeTimeEvent n) :=
  ((State.timely_controlled n).trans State.takeEvent_controlled).trans (State.takeDue_works n).controlled

/-! ## Resets and chip select -/

theorem Link.abandon_phase (l : Link) : l.abandon.phase = .idle ↔ l.phase = .idle := by
  unfold Link.abandon; split <;> simp_all

theorem State.resetRest_controlled : Controlled s s.resetRest := by
  refine ⟨fun h => ⟨Nat.zero_le _, h.number, fun m hm => (by cases hm), h.index⟩,
    fun h => ⟨fun c hc => (by cases hc), fun c hc => (by cases hc), fun _ => ?_⟩, fun h => ?_, fun _ _ => rfl, id,
    fun h => ⟨fun e => h.select (mt (Link.abandon_phase _).2 e), fun e => (Link.abandon_phase _).2 (h.held e), fun e => ?_⟩,
    fun h => h.congr rfl, fun h => h.congr fun _ => rfl⟩
  · exact ⟨fun e => (by cases e), fun e => absurd rfl e⟩
  · have hs := State.stopLoad_controlled.1.ports h
    exact ⟨hs.room, hs.head, hs.reads, hs.loader, hs.live, hs.asks⟩
  · have hl : s.resetRest.link = s.link.abandon := rfl
    rw [hl, Link.abandon] at e
    split at e
    next hi => rw [hi] at e; obtain e | e := e <;> cases e
    next => obtain e | e := e <;> cases e

theorem State.rigResetEvent_controlled : Controlled s s.rigResetEvent := by
  rw [State.rigResetEvent_eq]
  exact (s.disableAll_works .rigReset true).controlled.trans State.resetRest_controlled

/-- The part is held in power-on reset: nothing is in flight, and the link is IDLE (R157, R183). -/
theorem State.abandonPorts_controlled : Controlled s { s.abandonPorts with pins := { s.pins with powerReset := true } } := by
  refine ⟨fun h => h.congr rfl rfl rfl, fun h => ⟨fun c hc => (by cases hc), fun c hc => (by cases hc), fun e => (by cases e)⟩,
    fun h => ⟨Nat.zero_le _, fun f hf => (by cases hf), rfl, rfl, fun e => (by cases e), fun e => (by cases e)⟩, id, id,
    fun h => ⟨fun e => absurd rfl e, fun _ => rfl, fun e => ?_⟩, fun h => h.congr rfl, fun h => h.congr fun _ => rfl⟩
  obtain e | e := e <;> cases e

/-- A change of the link and the pins, but for that of power-on reset. -/
theorem SameControl.of_link (h : t = { s with link := t.link, pins := t.pins, fresh := t.fresh, out := t.out })
    (hp : t.pins.powerReset = s.pins.powerReset) : SameControl s t := by
  rw [h]
  exact ⟨rfl, rfl, rfl, rfl, rfl, rfl, rfl, rfl, rfl, rfl, rfl, rfl, hp, fun _ => rfl⟩

theorem execChipSelectFall_controlled (h : execChipSelectFall s = .next t) : Controlled s t := by
  unfold execChipSelectFall at h
  split at h
  · obtain rfl := Host.Outcome.next.inj h; exact State.notTaken_controlled
  · split at h
    · obtain rfl := Host.Outcome.next.inj h
      exact State.notTaken_controlled.trans (.of_frame (.of_link rfl rfl) fun h =>
        ⟨fun _ => rfl, h.held, h.reply⟩)
    · next hp =>
      obtain rfl := Host.Outcome.next.inj h
      refine State.takeEvent_controlled.trans (.of_frame (.of_link rfl rfl) fun h =>
        ⟨fun _ => rfl, fun e => absurd e hp, fun e => ?_⟩)
      simp only at e ⊢
      split at e
      · obtain e | e := e <;> cases e
      · next hi => rw [if_neg hi]; exact h.reply e

theorem execChipSelectRise_controlled {clocked : List Byte} (h : execChipSelectRise clocked s = .next t) : Controlled s t := by
  unfold execChipSelectRise at h
  split at h
  · obtain rfl := Host.Outcome.next.inj h; exact State.notTaken_controlled
  · split at h
    · next hp =>
      obtain rfl := Host.Outcome.next.inj h
      refine State.notTaken_controlled.trans (.of_frame (.of_link rfl rfl) fun h =>
        ⟨fun e => absurd (h.held hp) e, h.held, h.reply⟩)
    · obtain rfl := Host.Outcome.next.inj h
      have hc := State.takeEvent_controlled.trans (State.clockBytes_controlled (s := s.takeEvent) clocked)
      have hp : (s.takeEvent.clockBytes clocked).pins = s.pins := by rw [State.clockBytes_frame]; rfl
      generalize s.takeEvent.clockBytes clocked = x at hc hp ⊢
      refine hc.trans (.of_frame (.of_link rfl (congrArg Pins.powerReset hp).symm) fun _ =>
        ⟨fun e => absurd rfl e, fun _ => rfl, fun e => ?_⟩)
      obtain e | e := e <;> cases e

theorem execRigReset_controlled {clocked : List Byte} (h : execRigReset s clocked = .next t) : Controlled s t := by
  unfold execRigReset at h
  split at h
  · obtain rfl := Host.Outcome.next.inj h; exact State.notTaken_controlled
  · split at h
    · obtain rfl := Host.Outcome.next.inj h
      exact State.notTaken_controlled.trans (.of_frame (.of_link rfl rfl) fun h =>
        ⟨h.select, h.held, h.reply⟩)
    · obtain rfl := Host.Outcome.next.inj h
      exact (State.takeEvent_controlled.trans (State.clockBytes_controlled clocked)).trans State.rigResetEvent_controlled

theorem execRigResetRelease_controlled (h : execRigResetRelease s = .next t) : Controlled s t := by
  unfold execRigResetRelease at h
  split at h
  · obtain rfl := Host.Outcome.next.inj h; exact State.notTaken_controlled
  · obtain rfl := Host.Outcome.next.inj h
    split
    · exact State.notTaken_controlled.trans (.of_frame (.of_link rfl rfl) fun h =>
        ⟨h.select, h.held, h.reply⟩)
    · exact State.takeEvent_controlled.trans (.of_frame (.of_link rfl rfl) fun h =>
        ⟨h.select, h.held, h.reply⟩)

theorem execPowerOnResetEntry_controlled {clocked : List Byte} (h : execPowerOnResetEntry s clocked = .next t) : Controlled s t := by
  unfold execPowerOnResetEntry at h
  split at h
  · obtain rfl := Host.Outcome.next.inj h; exact State.notTaken_controlled
  · obtain rfl := Host.Outcome.next.inj h
    have hp : (s.takeEvent.clockBytes clocked).pins = s.pins := by rw [State.clockBytes_frame]; rfl
    have hc := State.takeEvent_controlled.trans (State.clockBytes_controlled (s := s.takeEvent) clocked)
    generalize s.takeEvent.clockBytes clocked = x at hc hp ⊢
    rw [← hp]
    exact hc.trans State.abandonPorts_controlled

/-- The values of a power-on reset satisfy the invariants (R183). -/
theorem State.powerOn_controlled (straps : BitVec 2) : Controlled s (s.powerOn straps) :=
  have h := poweredOn_powerOn s straps
  ⟨fun _ => h.noticesInRange, fun _ => h.arbiterSound, fun _ => h.portsSound, fun _ _ => rfl,
    fun _ => engagedLayoutValid_powerOn s straps, fun _ => h.frameSound, fun _ => h.timebaseInRange, fun _ => h.configsInRange⟩

/-! ## The store port and the time events -/

theorem execRigPortTransaction_controlled {x : RigTxn} (h : execRigPortTransaction x s = .next t) : Controlled s t := by
  unfold execRigPortTransaction at h
  split at h
  · cases h
  · split at h
    · obtain rfl := Host.Outcome.next.inj h; exact State.notTaken_controlled
    · next hroom =>
      obtain rfl := Host.Outcome.next.inj h
      exact State.takeEvent_controlled.trans (State.rigTransaction_controlled x (by
        simp only [not_or, Nat.not_le] at hroom; exact hroom.2))

theorem execStorePortGrant_controlled (h : execStorePortGrant s = .next t) : Controlled s t := by
  unfold execStorePortGrant at h
  split at h
  · obtain rfl := Host.Outcome.next.inj h; exact State.notTaken_controlled
  · next hp =>
    split at h
    · obtain rfl := Host.Outcome.next.inj h; exact State.notTaken_controlled
    · next g hg =>
      obtain rfl := Host.Outcome.next.inj h
      refine State.takeEvent_controlled.trans ?_
      cases g with
      | notice => exact State.grantNotice_controlled
      | loader => exact State.grantLoader_controlled (State.arbitrate_loader hg) (by simpa using hp)
      | forwarded => exact State.grantForwarded_controlled (s := s.takeEvent) hg

theorem execStorePortReadReturn_controlled {r : ReadReturn} (h : execStorePortReadReturn r s = .next t) : Controlled s t := by
  unfold execStorePortReadReturn at h
  split at h
  · obtain rfl := Host.Outcome.next.inj h; exact State.notTaken_controlled
  · next hp =>
    split at h
    · obtain rfl := Host.Outcome.next.inj h; exact State.notTaken_controlled
    · next o rest hi =>
      obtain rfl := Host.Outcome.next.inj h
      refine State.takeEvent_controlled.trans ?_
      cases o with
      | rig => exact State.rigReturn_controlled (s := s.takeEvent) hi
      | loader => exact State.loaderReturn_controlled (s := s.takeEvent) hi (by simpa using hp)

/-- A time event of a lane, taken or not. -/
theorem Controlled.timeEvent {c : Prop} [Decidable c] {f : State → State} (hf : ∀ u, Works u (f u))
    (h : (if c then .next (f (s.takeTimeEvent n)) else .next s.notTaken : Host.Outcome State Fault Refusal) = .next t) : Controlled s t := by
  split at h
  · obtain rfl := Host.Outcome.next.inj h
    exact (State.takeTimeEvent_controlled n).trans (hf _).controlled
  · obtain rfl := Host.Outcome.next.inj h; exact State.notTaken_controlled

/-! ## Requests -/

theorem windowAct_controlled (index : BitVec 16) (e : WindowEntry) : ControlledAct s (windowAct index e s).1 := by
  unfold windowAct
  split
  · split
    · exact .refl s
    · exact State.checked_fst (P := ControlledAct s) (.refl s) fun _ => State.bindWindow_controlled _ _
  · exact .refl s

theorem watchWriteAct_controlled (index : BitVec 16) (e : WatchEntry) : ControlledAct s (watchWriteAct index e s).1 := by
  unfold watchWriteAct
  split
  · exact State.checkedValue_fst (P := ControlledAct s) (.refl s) fun _ _ =>
      .of_same ⟨rfl, rfl, rfl, rfl, rfl, rfl, rfl, rfl, rfl, rfl, rfl, rfl, rfl, fun _ => rfl⟩ rfl rfl
  · exact .refl s

theorem linesWriteAct_controlled (index : BitVec 16) (e : LinesEntry) : ControlledAct s (linesWriteAct index e s).1 := by
  unfold linesWriteAct
  split
  · exact State.checkedValue_fst (P := ControlledAct s) (.refl s) fun _ _ =>
      .of_same ⟨rfl, rfl, rfl, rfl, rfl, rfl, rfl, rfl, rfl, rfl, rfl, rfl, rfl, fun _ => rfl⟩ rfl rfl
  · exact .refl s

theorem firstFailing_cons_none {b : Bool} {e : Status} {l : List (Bool × Status)} (h : firstFailing ((b, e) :: l) = none) :
    b = false ∧ firstFailing l = none := by
  unfold firstFailing at h
  split at h
  · cases h
  · next hb => exact ⟨by simpa using hb, h⟩

theorem execBadRequest_controlled {frame : List Byte} (h : execBadRequest frame s = .next t) : Controlled s t := by
  unfold execBadRequest at h
  split at h
  · split at h
    · exact Controlled.request h (ControlledAct.refl _)
    · obtain rfl := Host.Outcome.next.inj h; exact State.notTaken_controlled
  · obtain rfl := Host.Outcome.next.inj h; exact State.notTaken_controlled

theorem execReadEntry_controlled {table : TableSel} {index : BitVec 16} {levels : BitVec 12}
    (h : execReadEntry table index levels s = .next t) : Controlled s t := by
  unfold execReadEntry at h
  split at h
  next hl =>
    obtain rfl := Host.Outcome.next.inj h
    exact State.reply_controlled hl State.takeEvent_controlled rfl
  next =>
    obtain rfl := Host.Outcome.next.inj h
    exact State.ignoreRequest_controlled _

/-- Every command keeps the invariants. -/
theorem exec_controlled {c : Instr} (h : exec c s = .next t) : Controlled s t := by
  cases c with
  | rigPortTransaction x => exact execRigPortTransaction_controlled h
  | storePortGrant => exact execStorePortGrant_controlled h
  | storePortReadReturn r => exact execStorePortReadReturn_controlled h
  | chipSelectFall => exact execChipSelectFall_controlled h
  | chipSelectRise clocked => exact execChipSelectRise_controlled h
  | badRequest frame => exact execBadRequest_controlled h
  | readEntry table index levels => exact execReadEntry_controlled h
  | writeEntryLayout index e =>
    rw [exec_writeEntryLayout] at h
    refine Controlled.request h (State.checked_fst (P := ControlledAct s.takeEvent) (.refl _) fun hf => ?_)
    obtain ⟨hm, -⟩ := firstFailing_cons_none (firstFailing_cons_none hf).2
    exact State.setLayout_controlled (fun he => by rw [he] at hm; cases hm) e
  | writeEntryGlobal index e =>
    rw [exec_writeEntryGlobal] at h
    refine Controlled.request h (State.checked_fst (P := ControlledAct s.takeEvent) (.refl _) fun hf => ?_)
    obtain ⟨hr, -⟩ := firstFailing_cons_none (firstFailing_cons_none hf).2
    exact State.writeGlobal_controlled (by simpa using hr)
  | writeEntryLaneConfig index e =>
    rw [exec_writeEntryLaneConfig] at h
    refine Controlled.request h (State.laneCommand_fst (P := ControlledAct s.takeEvent) (.refl _) fun n => ?_)
    refine State.checked_fst (P := ControlledAct s.takeEvent) (.refl _) fun hf => ?_
    obtain ⟨hr, -⟩ := firstFailing_cons_none (firstFailing_cons_none hf).2
    exact State.configure_controlled n (by simpa using hr)
  | writeEntryTube index e =>
    rw [exec_writeEntryTube] at h
    exact Controlled.request h (State.checkedValue_fst (P := ControlledAct s.takeEvent) (.refl _) fun x _ =>
      (Works.setTube _ x).controlledAct)
  | writeEntryWindow index e => rw [exec_writeEntryWindow] at h; exact Controlled.request h (windowAct_controlled index e)
  | writeKey index key => rw [exec_writeKey] at h; exact Controlled.request h State.amend_controlled
  | writeValue index value => rw [exec_writeValue] at h; exact Controlled.request h State.amend_controlled
  | writeBoth index key value => rw [exec_writeBoth] at h; exact Controlled.request h State.amend_controlled
  | disable index => rw [exec_disable] at h; exact Controlled.request h State.amend_controlled
  | writeEntryWatch index e => rw [exec_writeEntryWatch] at h; exact Controlled.request h (watchWriteAct_controlled index e)
  | writeEntryLines index e => rw [exec_writeEntryLines] at h; exact Controlled.request h (linesWriteAct_controlled index e)
  | writeEntryReadOnly table index =>
    simp only [exec, execWriteEntryReadOnly] at h
    exact Controlled.request h (ControlledAct.refl _)
  | engage =>
    simp only [exec, execEngage] at h
    refine Controlled.request h (?_ : ControlledAct _ _)
    split
    · exact .refl _
    · refine State.checked_fst (P := ControlledAct s.takeEvent) (.refl _) fun hf => ?_
      obtain ⟨hv, -⟩ := firstFailing_cons_none hf
      exact State.engage_controlled (by simpa using hv)
  | bypass =>
    simp only [exec, execBypass] at h
    refine Controlled.request h (?_ : ControlledAct _ _)
    split
    · exact .refl _
    · exact State.leaveEngaged_controlled
  | enableLane index =>
    simp only [exec, execEnableLane] at h
    exact Controlled.request h (State.laneCommand_fst (P := ControlledAct s.takeEvent) (.refl _) fun n =>
      State.checked_fst (P := ControlledAct s.takeEvent) (.refl _) fun _ => (State.armLane_works n).controlledAct)
  | disableLane index =>
    simp only [exec, execDisableLane] at h
    exact Controlled.request h (State.laneCommand_fst (P := ControlledAct s.takeEvent) (.refl _) fun n =>
      (State.disableLane_works n).controlledAct)
  | acceptTake index serial =>
    simp only [exec, execAcceptTake] at h
    exact Controlled.request h (State.verdict_controlled (State.accept_controlled _))
  | rejectTake index serial =>
    simp only [exec, execRejectTake] at h
    exact Controlled.request h (State.verdict_controlled (State.reject_controlled _))
  | releaseTake index serial =>
    simp only [exec, execReleaseTake] at h
    exact Controlled.request h (State.checked_fst (P := ControlledAct s.takeEvent) (.refl _) fun _ => State.release_controlled _)
  | loadMap base first count =>
    rw [exec_loadMap] at h
    refine Controlled.request h (State.checked_fst (P := ControlledAct s.takeEvent) (.refl _) fun hf => ?_)
    exact State.startLoad_controlled (firstFailing_cons_none hf).1 base _ _
  | abortLoad =>
    simp only [exec, execAbortLoad] at h
    exact Controlled.request h (State.checked_fst (P := ControlledAct s.takeEvent) (.refl _) fun _ =>
      State.stopLoad_controlled.trans (Works.post _).controlledAct)
  | lockCampaign =>
    simp only [exec, execLockCampaign] at h
    exact Controlled.request h (State.checked_fst (P := ControlledAct s.takeEvent) (.refl _) fun hf =>
      State.lock_controlled (firstFailing_cons_none hf).1)
  | clearAttention =>
    simp only [exec, execClearAttention] at h
    exact Controlled.request h (ControlledAct.of_same
      ⟨rfl, rfl, rfl, rfl, rfl, rfl, rfl, rfl, rfl, rfl, rfl, rfl, rfl, fun _ => rfl⟩ rfl rfl)
  | clearHold index =>
    simp only [exec, execClearHold] at h
    exact Controlled.request h (State.laneCommand_fst (P := ControlledAct s.takeEvent) (.refl _) fun n =>
      (Works.setLane n (by rfl)).controlledAct)
  | powerOnReset straps =>
    obtain rfl := Host.Outcome.next.inj h
    exact State.powerOn_controlled straps
  | rigReset clocked => exact execRigReset_controlled h
  | senseWindowSample n level => exact Controlled.timeEvent (f := fun u => u.sampleLane n level) (fun _ => State.sampleLane_works n level) h
  | drivePhaseStart n => exact Controlled.timeEvent (f := fun u => u.chooseDrive n) (fun _ => State.chooseDrive_works n) h
  | periodEnd n => exact Controlled.timeEvent (f := fun u => u.endPeriod n) (fun _ => State.endPeriod_works n) h
  | idleTimerExpiry n => exact Controlled.timeEvent (f := fun u => u.endPeriod n) (fun _ => State.endPeriod_works n) h
  | drainTimerExpiry n => exact Controlled.timeEvent (f := fun u => u.endPeriod n) (fun _ => State.endPeriod_works n) h
  | admissionTimerExpiry n => exact Controlled.timeEvent (f := fun u => u.endPeriod n) (fun _ => State.endPeriod_works n) h
  | powerOnResetEntry clocked => exact execPowerOnResetEntry_controlled h
  | rigResetRelease => exact execRigResetRelease_controlled h

/-- The queue's front command leaves the queue, and nothing that the invariants read changes. -/
theorem State.dequeue_controlled (rest : List Instr) : Controlled s { s with pending := rest } :=
  .of_same ⟨rfl, rfl, rfl, rfl, rfl, rfl, rfl, rfl, rfl, rfl, rfl, rfl, rfl, fun _ => rfl⟩ rfl rfl

theorem step_controlled (h : step s = .next t) : Controlled s t := by
  unfold step at h
  split at h
  · exact (State.dequeue_controlled _).trans (exec_controlled h)
  · obtain rfl := Host.Outcome.next.inj h
    exact State.clockCycle_controlled

/-- Settles O58: every command keeps these invariants, and so does a cycle of the clock. -/
theorem portsAndNoticesStaySoundAtEveryStep : Obligations.PortsAndNoticesStaySoundAtEveryStep := by
  intro s t h
  have hc := step_controlled h
  exact ⟨hc.notices, hc.arbiter, fun _ => hc.ports⟩

end Sys2Proof.Machine
end

section
/-! Which commands change the mode, the campaign lock or the plug authority set; that no move enables a lane or configures it (O59,
O31). -/

namespace Sys2Proof.Machine

variable {s t u : State} {n : Fin 8} {k : Nat}

/-! ## The mode, the lock and the plug authority set -/

/-- Mode, campaign lock and plug authority set are as they were. -/
structure SameModes (s t : State) : Prop where
  mode : t.mode = s.mode
  locked : t.locked = s.locked
  plugSet : t.plugSet = s.plugSet

namespace SameModes

theorem refl (s : State) : SameModes s s := ⟨rfl, rfl, rfl⟩

theorem trans (h : SameModes s t) (h' : SameModes t u) : SameModes s u :=
  ⟨h'.mode.trans h.mode, h'.locked.trans h.locked, h'.plugSet.trans h.plugSet⟩

end SameModes

theorem Works.sameModes (h : Works s t) : SameModes s t := by rw [h.frame]; exact ⟨rfl, rfl, rfl⟩

theorem State.clockBytes_sameModes (bytes : List Byte) : SameModes s (s.clockBytes bytes) := by
  rw [State.clockBytes_frame]; exact ⟨rfl, rfl, rfl⟩

/-- A request keeps them where its act does. -/
theorem SameModes.request {c : Instr} {act : State → State × Status} (h : s.request c act = .next t)
    (ha : SameModes s.takeEvent (act s.takeEvent).1) : SameModes s t := by
  unfold State.request at h
  split at h
  · obtain rfl := Host.Outcome.next.inj h
    exact ⟨ha.mode, ha.locked, ha.plugSet⟩
  · obtain rfl := Host.Outcome.next.inj h
    obtain ⟨h1, h2, h3⟩ := State.clockBytes_sameModes (s := s.notTaken) (requestBytes c)
    exact ⟨h1, h2, h3⟩

theorem State.rigTransaction_sameModes (x : RigTxn) : SameModes s (s.rigTransaction x) := by
  obtain ⟨hw, -⟩ := State.route_works (s := s.watch x) x
  have h1 : SameModes s (s.watch x) := by rw [State.watch_frame]; exact ⟨rfl, rfl, rfl⟩
  have h2 := h1.trans hw.sameModes
  exact ⟨h2.mode, h2.locked, h2.plugSet⟩

theorem State.grant_sameModes (g : Grant) : SameModes s (s.grant g) := by
  cases g with
  | notice =>
    show SameModes s s.grantNotice
    unfold State.grantNotice
    split <;> exact ⟨rfl, rfl, rfl⟩
  | loader => exact ⟨rfl, rfl, rfl⟩
  | forwarded => exact ⟨rfl, rfl, rfl⟩

theorem State.readReturn_sameModes (r : ReadReturn) (o : ReadOwner) : SameModes s (s.readReturn r o) := by
  cases o with
  | rig => exact ⟨rfl, rfl, rfl⟩
  | loader =>
    show SameModes s (s.loaderReturn r)
    unfold State.loaderReturn
    dsimp only
    split
    · obtain ⟨hf, -, -, -, -, -⟩ := State.applyEntries_step (s := { s with loader := { s.loader with read := .idle } })
        (returnedBytes r 0 64) (min 8 s.loader.remaining) 0
      rw [hf]; exact ⟨rfl, rfl, rfl⟩
    · split <;> exact ⟨rfl, rfl, rfl⟩
    · exact ⟨rfl, rfl, rfl⟩

theorem State.rigResetEvent_sameModes : SameModes s s.rigResetEvent := by
  have h := (s.disableAll_works .rigReset true).sameModes
  rw [State.rigResetEvent_eq]
  generalize s.disableAll .rigReset true = x at h ⊢
  exact ⟨h.mode, h.locked, h.plugSet⟩

theorem State.takeTimeEvent_sameModes (n : Fin 8) : SameModes s (s.takeTimeEvent n) := by
  have h : SameModes s (s.timely n) := by
    unfold State.timely
    split <;> exact ⟨rfl, rfl, rfl⟩
  exact ⟨h.mode, h.locked, h.plugSet⟩

theorem SameModes.timeEvent {c : Prop} [Decidable c] {f : State → State} (hf : ∀ u, Works u (f u))
    (h : (if c then .next (f (s.takeTimeEvent n)) else .next s.notTaken : Host.Outcome State Fault Refusal) = .next t) : SameModes s t := by
  split at h
  · obtain rfl := Host.Outcome.next.inj h
    exact (State.takeTimeEvent_sameModes n).trans (hf _).sameModes
  · obtain rfl := Host.Outcome.next.inj h; exact ⟨rfl, rfl, rfl⟩

/-- The commands that change the mode, the lock or the plug authority set: ENGAGE, BYPASS, LOCK_CAMPAIGN, a GLOBAL write and the end of a
power-on reset. -/
def setsModes : Instr → Bool
  | .engage => true
  | .bypass => true
  | .lockCampaign => true
  | .writeEntryGlobal _ _ => true
  | .powerOnReset _ => true
  | _ => false

theorem execRigReset_sameModes {clocked : List Byte} (h : execRigReset s clocked = .next t) : SameModes s t := by
  unfold execRigReset at h
  split at h
  · obtain rfl := Host.Outcome.next.inj h; exact ⟨rfl, rfl, rfl⟩
  · split at h
    · obtain rfl := Host.Outcome.next.inj h; exact ⟨rfl, rfl, rfl⟩
    · obtain rfl := Host.Outcome.next.inj h
      obtain ⟨h1, h2, h3⟩ := (State.clockBytes_sameModes (s := s.takeEvent) clocked).trans State.rigResetEvent_sameModes
      exact ⟨h1, h2, h3⟩

theorem execPowerOnResetEntry_sameModes {clocked : List Byte} (h : execPowerOnResetEntry s clocked = .next t) : SameModes s t := by
  unfold execPowerOnResetEntry at h
  split at h
  · obtain rfl := Host.Outcome.next.inj h; exact ⟨rfl, rfl, rfl⟩
  · obtain rfl := Host.Outcome.next.inj h
    obtain ⟨h1, h2, h3⟩ := State.clockBytes_sameModes (s := s.takeEvent) clocked
    exact ⟨h1, h2, h3⟩

theorem execChipSelectFall_sameModes (h : execChipSelectFall s = .next t) : SameModes s t := by
  unfold execChipSelectFall at h
  split at h
  · obtain rfl := Host.Outcome.next.inj h; exact ⟨rfl, rfl, rfl⟩
  · split at h <;> (obtain rfl := Host.Outcome.next.inj h; exact ⟨rfl, rfl, rfl⟩)

theorem execChipSelectRise_sameModes {clocked : List Byte} (h : execChipSelectRise clocked s = .next t) : SameModes s t := by
  unfold execChipSelectRise at h
  split at h
  · obtain rfl := Host.Outcome.next.inj h; exact ⟨rfl, rfl, rfl⟩
  · split at h
    · obtain rfl := Host.Outcome.next.inj h; exact ⟨rfl, rfl, rfl⟩
    · obtain rfl := Host.Outcome.next.inj h
      obtain ⟨h1, h2, h3⟩ := State.clockBytes_sameModes (s := s.takeEvent) clocked
      exact ⟨h1, h2, h3⟩

theorem execRigResetRelease_sameModes (h : execRigResetRelease s = .next t) : SameModes s t := by
  unfold execRigResetRelease at h
  split at h
  · obtain rfl := Host.Outcome.next.inj h; exact ⟨rfl, rfl, rfl⟩
  · obtain rfl := Host.Outcome.next.inj h
    split <;> exact ⟨rfl, rfl, rfl⟩

theorem execPort_sameModes {c : Instr} (hc : c = .storePortGrant ∨ (∃ x, c = .rigPortTransaction x) ∨ ∃ r, c = .storePortReadReturn r)
    (h : exec c s = .next t) : SameModes s t := by
  obtain rfl | ⟨x, rfl⟩ | ⟨r, rfl⟩ := hc
  · simp only [exec, execStorePortGrant] at h
    split at h
    · obtain rfl := Host.Outcome.next.inj h; exact ⟨rfl, rfl, rfl⟩
    · split at h
      · obtain rfl := Host.Outcome.next.inj h; exact ⟨rfl, rfl, rfl⟩
      · next g _ =>
        obtain rfl := Host.Outcome.next.inj h
        obtain ⟨h1, h2, h3⟩ := State.grant_sameModes (s := s.takeEvent) g
        exact ⟨h1, h2, h3⟩
  · simp only [exec, execRigPortTransaction] at h
    split at h
    · cases h
    · split at h
      · obtain rfl := Host.Outcome.next.inj h; exact ⟨rfl, rfl, rfl⟩
      · obtain rfl := Host.Outcome.next.inj h
        obtain ⟨h1, h2, h3⟩ := State.rigTransaction_sameModes (s := s.takeEvent) x
        exact ⟨h1, h2, h3⟩
  · simp only [exec, execStorePortReadReturn] at h
    split at h
    · obtain rfl := Host.Outcome.next.inj h; exact ⟨rfl, rfl, rfl⟩
    · split at h
      · obtain rfl := Host.Outcome.next.inj h; exact ⟨rfl, rfl, rfl⟩
      · next o rest _ =>
        obtain rfl := Host.Outcome.next.inj h
        obtain ⟨h1, h2, h3⟩ := State.readReturn_sameModes (s := { s.takeEvent with issued := rest }) r o
        exact ⟨h1, h2, h3⟩

theorem windowAct_sameModes (index : BitVec 16) (e : WindowEntry) : SameModes s (windowAct index e s).1 := by
  unfold windowAct
  split
  · split
    · exact .refl s
    · refine State.checked_fst (P := SameModes s) (.refl s) fun _ => ?_
      rw [State.bindWindow_frame]; exact ⟨rfl, rfl, rfl⟩
  · exact .refl s

theorem watchWriteAct_sameModes (index : BitVec 16) (e : WatchEntry) : SameModes s (watchWriteAct index e s).1 := by
  unfold watchWriteAct
  split
  · exact State.checkedValue_fst (P := SameModes s) (.refl s) fun _ _ => ⟨rfl, rfl, rfl⟩
  · exact .refl s

theorem linesWriteAct_sameModes (index : BitVec 16) (e : LinesEntry) : SameModes s (linesWriteAct index e s).1 := by
  unfold linesWriteAct
  split
  · exact State.checkedValue_fst (P := SameModes s) (.refl s) fun _ _ => ⟨rfl, rfl, rfl⟩
  · exact .refl s

theorem State.amend_sameModes {index : BitVec 16} {checks : List (Bool × Status)} {f : Amendment → Amendment} :
    SameModes s (s.amend index checks f).1 := by
  unfold State.amend
  split
  · exact State.checked_fst (P := SameModes s) (.refl s) fun _ => ⟨rfl, rfl, rfl⟩
  · exact .refl s

theorem State.verdict_sameModes {index : BitVec 16} {serial : BitVec 32} {v : Verdict} {f : State → State} (h : SameModes s (f s)) :
    SameModes s (s.verdict index serial v f).1 := by
  unfold State.verdict
  refine State.checked_fst (P := SameModes s) (.refl s) fun _ => ?_
  split
  · exact h
  · exact .refl s

theorem State.release_sameModes (k : Nat) : SameModes s (s.release k) := by
  have h := (State.admissionCheck_works (s := s.releaseBefore k)).sameModes
  have hb : SameModes s (s.releaseBefore k) := by rw [State.releaseBefore_frame]; exact ⟨rfl, rfl, rfl⟩
  exact hb.trans h

/-- No other command changes them. -/
theorem exec_sameModes {c : Instr} (hc : setsModes c = false) (h : exec c s = .next t) : SameModes s t := by
  cases c with
  | engage | bypass | lockCampaign | writeEntryGlobal | powerOnReset => cases hc
  | rigPortTransaction x => exact execPort_sameModes (.inr (.inl ⟨x, rfl⟩)) h
  | storePortGrant => exact execPort_sameModes (.inl rfl) h
  | storePortReadReturn r => exact execPort_sameModes (.inr (.inr ⟨r, rfl⟩)) h
  | chipSelectFall => exact execChipSelectFall_sameModes h
  | chipSelectRise clocked => exact execChipSelectRise_sameModes h
  | badRequest frame =>
    simp only [exec, execBadRequest] at h
    split at h
    · split at h
      · exact SameModes.request h (.refl _)
      · obtain rfl := Host.Outcome.next.inj h; exact ⟨rfl, rfl, rfl⟩
    · obtain rfl := Host.Outcome.next.inj h; exact ⟨rfl, rfl, rfl⟩
  | readEntry table index levels =>
    simp only [exec, execReadEntry] at h
    split at h
    · obtain rfl := Host.Outcome.next.inj h; exact ⟨rfl, rfl, rfl⟩
    · obtain rfl := Host.Outcome.next.inj h
      obtain ⟨h1, h2, h3⟩ := State.clockBytes_sameModes (s := s.notTaken) (requestBytes (.readEntry table index levels))
      exact ⟨h1, h2, h3⟩
  | writeEntryLayout index e =>
    rw [exec_writeEntryLayout] at h
    exact SameModes.request h (State.checked_fst (P := SameModes s.takeEvent) (.refl _) fun _ => ⟨rfl, rfl, rfl⟩)
  | writeEntryLaneConfig index e =>
    rw [exec_writeEntryLaneConfig] at h
    exact SameModes.request h (State.laneCommand_fst (P := SameModes s.takeEvent) (.refl _) fun n =>
      State.checked_fst (P := SameModes s.takeEvent) (.refl _) fun _ => ⟨rfl, rfl, rfl⟩)
  | writeEntryTube index e =>
    rw [exec_writeEntryTube] at h
    exact SameModes.request h (State.checkedValue_fst (P := SameModes s.takeEvent) (.refl _) fun _ _ => ⟨rfl, rfl, rfl⟩)
  | writeEntryWindow index e => rw [exec_writeEntryWindow] at h; exact SameModes.request h (windowAct_sameModes index e)
  | writeKey index key => rw [exec_writeKey] at h; exact SameModes.request h State.amend_sameModes
  | writeValue index value => rw [exec_writeValue] at h; exact SameModes.request h State.amend_sameModes
  | writeBoth index key value => rw [exec_writeBoth] at h; exact SameModes.request h State.amend_sameModes
  | disable index => rw [exec_disable] at h; exact SameModes.request h State.amend_sameModes
  | writeEntryWatch index e => rw [exec_writeEntryWatch] at h; exact SameModes.request h (watchWriteAct_sameModes index e)
  | writeEntryLines index e => rw [exec_writeEntryLines] at h; exact SameModes.request h (linesWriteAct_sameModes index e)
  | writeEntryReadOnly table index =>
    simp only [exec, execWriteEntryReadOnly] at h
    exact SameModes.request h (.refl _)
  | enableLane index =>
    simp only [exec, execEnableLane] at h
    exact SameModes.request h (State.laneCommand_fst (P := SameModes s.takeEvent) (.refl _) fun n =>
      State.checked_fst (P := SameModes s.takeEvent) (.refl _) fun _ => (State.armLane_works n).sameModes)
  | disableLane index =>
    simp only [exec, execDisableLane] at h
    exact SameModes.request h (State.laneCommand_fst (P := SameModes s.takeEvent) (.refl _) fun n => (State.disableLane_works n).sameModes)
  | acceptTake index serial =>
    simp only [exec, execAcceptTake] at h
    exact SameModes.request h (State.verdict_sameModes (by rw [State.accept_frame]; exact ⟨rfl, rfl, rfl⟩))
  | rejectTake index serial =>
    simp only [exec, execRejectTake] at h
    exact SameModes.request h (State.verdict_sameModes (by rw [State.reject_frame]; exact ⟨rfl, rfl, rfl⟩))
  | releaseTake index serial =>
    simp only [exec, execReleaseTake] at h
    exact SameModes.request h (State.checked_fst (P := SameModes s.takeEvent) (.refl _) fun _ => State.release_sameModes _)
  | loadMap base first count =>
    rw [exec_loadMap] at h
    exact SameModes.request h (State.checked_fst (P := SameModes s.takeEvent) (.refl _) fun _ => ⟨rfl, rfl, rfl⟩)
  | abortLoad =>
    simp only [exec, execAbortLoad] at h
    exact SameModes.request h (State.checked_fst (P := SameModes s.takeEvent) (.refl _) fun _ => ⟨rfl, rfl, rfl⟩)
  | clearAttention =>
    simp only [exec, execClearAttention] at h
    exact SameModes.request h ⟨rfl, rfl, rfl⟩
  | clearHold index =>
    simp only [exec, execClearHold] at h
    exact SameModes.request h (State.laneCommand_fst (P := SameModes s.takeEvent) (.refl _) fun n => ⟨rfl, rfl, rfl⟩)
  | rigReset clocked => exact execRigReset_sameModes h
  | senseWindowSample n level => exact SameModes.timeEvent (f := fun u => u.sampleLane n level) (fun _ => State.sampleLane_works n level) h
  | drivePhaseStart n => exact SameModes.timeEvent (f := fun u => u.chooseDrive n) (fun _ => State.chooseDrive_works n) h
  | periodEnd n => exact SameModes.timeEvent (f := fun u => u.endPeriod n) (fun _ => State.endPeriod_works n) h
  | idleTimerExpiry n => exact SameModes.timeEvent (f := fun u => u.endPeriod n) (fun _ => State.endPeriod_works n) h
  | drainTimerExpiry n => exact SameModes.timeEvent (f := fun u => u.endPeriod n) (fun _ => State.endPeriod_works n) h
  | admissionTimerExpiry n => exact SameModes.timeEvent (f := fun u => u.endPeriod n) (fun _ => State.endPeriod_works n) h
  | powerOnResetEntry clocked => exact execPowerOnResetEntry_sameModes h
  | rigResetRelease => exact execRigResetRelease_sameModes h

/-! ## The lanes of a move -/

/-- No lane is enabled by it, and none is configured. -/
structure EnablesNone (s t : State) : Prop where
  disabled : ∀ n, (s.lane n).state = .disabled → (t.lane n).state = .disabled
  cfgs : ∀ n, (t.lane n).cfg = (s.lane n).cfg

theorem EnablesNone.of_lanes (h : t.lanes = s.lanes) : EnablesNone s t :=
  ⟨fun n hn => by rw [State.lane, h]; exact hn, fun n => by rw [State.lane, h]; rfl⟩

/-- One lane alone changes, and it was enabled or rests disabled. -/
theorem EnablesNone.lane {l : Lane} (hl : ∀ m, t.lane m = if m = n then l else s.lane m) (hc : l.cfg = (s.lane n).cfg)
    (hd : (s.lane n).state = .disabled → l.state = .disabled) : EnablesNone s t where
  disabled m hm := by
    rw [hl]; split
    next e => rw [e] at hm; exact hd hm
    next => exact hm
  cfgs m := by
    rw [hl]; split
    next e => rw [e]; exact hc
    next => rfl

theorem EnablesNone.trans (h : EnablesNone s t) (h' : EnablesNone t u) : EnablesNone s u :=
  ⟨fun n hn => h'.disabled n (h.disabled n hn), fun n => (h'.cfgs n).trans (h.cfgs n)⟩

theorem Move.enablesNone (hm : Move s t) (hb : Books s) : EnablesNone s t := by
  have busy {n : Fin 8} {st : LaneState} {p : Prop} (h : (s.lane n).state = st) (hst : st ≠ .disabled)
      (hd : (s.lane n).state = .disabled) : p := absurd (h.symm.trans hd) hst
  cases hm with
  | keep hs => exact .of_lanes hs.lanes
  | tweakLane n hl => exact .lane (fun m => State.lane_setLane s n m _) hl.cfg fun hd => hl.state.trans hd
  | lines v hv => exact .of_lanes rfl
  | tweakTake k hx hs hr => exact .of_lanes rfl
  | plug p g => exact .of_lanes rfl
  | load l hl => exact .of_lanes rfl
  | latch p hp hs => exact .of_lanes rfl
  | shut n hn => exact .lane (l := Lane.disabled (s.lane n).cfg) (fun m => State.lane_setLane s n m _) rfl fun _ => rfl
  | store n k hk hseg hx hs hw hl hno hlt => exact .lane (fun m => State.lane_setLane _ n m _) hl.cfg fun hd => hl.state.trans hd
  | drop n p d hh hr =>
    exact .lane (fun m => State.lane_setLaneBoth _ n m _ _) hr.cfg (busy (hb.waiting_of_held hh) (by decide))
  | opens o hload hk hq hu hset hx ho =>
    refine .lane (State.lane_openTake _ o) rfl fun hd => ?_
    obtain ⟨hh, -⟩ | ⟨ha, -⟩ := ho
    · exact busy (hb.waiting_of_held hh) (by decide) hd
    · exact busy ha (by decide) hd
  | defer n p d hload hn hc hl hadm => exact .lane (fun m => State.lane_setLane _ n m _) (by rw [hl]) (busy hn (by decide))
  | replace n q p e d hh hc =>
    split
    · exact .lane (l := { s.lane n with held := some (p, d) }) (fun m => State.lane_setLane _ n m _) rfl
        (busy (hb.waiting_of_held hh) (by decide))
    · exact .lane (l := { s.lane n with held := some (p, d) }) (fun m => State.lane_setLane _ n m _) rfl
        (busy (hb.waiting_of_held hh) (by decide))
  | unclaim n p hn hc => exact .of_lanes rfl
  | closing n k f hk hn =>
    exact .lane (l := { s.lane n with state := .closing, finalSeq := f, idle := none, drain := startTimer (s.lane n).cfg.drain })
      (fun m => State.lane_setLane _ n m _) rfl (busy hn (by decide))
  | unreserve k hk hx hs hr hp hset => exact .of_lanes rfl
  | @seals _ n k x l line hk hrem hx hr hs hl hteq hform hacc hu =>
    refine .lane (n := n) (l := l) (fun m => ?_) hl.cfg fun hd => ?_
    · rw [hteq]; exact State.lane_setLaneBoth (s.setTake k x) n m l line
    · exact absurd hd (hb.enabled_of_current hk)
  | accept k hv => rw [State.accept_frame]; exact .of_lanes rfl
  | reject k hv => rw [State.reject_frame]; exact .of_lanes rfl
  | release k hv hbind => rw [State.releaseBefore_frame]; exact .of_lanes rfl
  | bind i w hw => rw [State.bindWindow_frame]; exact .of_lanes rfl
  | unbind => exact .of_lanes rfl

theorem Moves.enablesNone (hm : Moves s t) (hb : Books s) : EnablesNone s t := by
  induction hm with
  | refl => exact .of_lanes rfl
  | tail hm hlast ih => exact ih.trans (hlast.enablesNone (Moves.books hm hb))

end Sys2Proof.Machine
end

section
/-! The modes, the lock and the map: what a step leaves of them (O59, O31). -/

namespace Sys2Proof.Machine

variable {s t u : State} {n : Fin 8} {k : Nat}

/-! ## BYPASS mode -/

theorem State.shutLane_keeps_disabled (m n : Fin 8) (h : (s.lane n).state = .disabled) : ((s.shutLane m).lane n).state = .disabled := by
  show ((s.setLane m (Lane.disabled (s.lane m).cfg)).lane n).state = .disabled
  rw [State.lane_setLane]; split
  · rfl
  · exact h

/-- Every lane of the list is DISABLED once all of them are shut. -/
theorem State.foldl_shutLane_disabled (l : List (Fin 8)) (h : n ∈ l ∨ (s.lane n).state = .disabled) :
    ((l.foldl State.shutLane s).lane n).state = .disabled := by
  induction l generalizing s with
  | nil => exact h.resolve_left (by simp)
  | cons m l ih =>
    refine ih ?_
    obtain h | h := h
    · obtain rfl | h := List.mem_cons.1 h
      · refine .inr ?_
        show ((s.setLane n (Lane.disabled (s.lane n).cfg)).lane n).state = .disabled
        rw [State.lane_setLane, if_pos rfl]; rfl
      · exact .inl h
    · exact .inr (State.shutLane_keeps_disabled m n h)

theorem State.disableAll_disabled (cause : CloseCause) (q : Bool) (n : Fin 8) : ((s.disableAll cause q).lane n).state = .disabled := by
  unfold State.disableAll
  dsimp only
  exact State.foldl_shutLane_disabled allLanes (.inl (mem_allLanes n))

theorem State.leaveEngaged_disabled (n : Fin 8) : (s.leaveEngaged.lane n).state = .disabled := by
  have h := s.disableAll_disabled .bypass false n
  unfold State.leaveEngaged
  generalize s.disableAll .bypass false = x at h ⊢
  exact h

theorem exec_request_mode {c : Instr} {act : State → State × Status} (h : s.request c act = .next t)
    (ha : (act s.takeEvent).1.mode = s.mode) : t.mode = s.mode := by
  unfold State.request at h
  split at h
  · obtain rfl := Host.Outcome.next.inj h; exact ha
  · obtain rfl := Host.Outcome.next.inj h
    exact (State.clockBytes_sameModes (s := s.notTaken) (requestBytes c)).mode

/-- BYPASS mode was so before, or every lane is DISABLED now. -/
theorem exec_bypassMode {c : Instr} (h : exec c s = .next t) (hm : t.mode = .bypass) : s.mode = .bypass ∨ ∀ n, (t.lane n).state = .disabled := by
  cases hc : setsModes c with
  | false => exact .inl ((exec_sameModes hc h).mode ▸ hm)
  | true =>
    cases c with
    | powerOnReset straps =>
      obtain rfl := Host.Outcome.next.inj h
      exact .inr (poweredOn_powerOn s straps).disabled
    | engage =>
      refine .inl ?_
      cases he : s.mode with
      | bypass => rfl
      | engaged =>
        have hs : SameModes s t := by
          simp only [exec, execEngage] at h
          refine SameModes.request h ?_
          rw [State.takeEvent_mode, he]; exact .refl _
        rw [hs.mode, he] at hm; cases hm
    | bypass =>
      simp only [exec, execBypass] at h
      cases he : s.mode with
      | bypass => exact .inl rfl
      | engaged =>
        unfold State.request at h
        split at h
        · obtain rfl := Host.Outcome.next.inj h
          refine .inr fun n => ?_
          have hl : (s.takeEvent.leaveEngaged.lane n).state = .disabled := State.leaveEngaged_disabled n
          simp only [State.takeEvent_mode, he]
          generalize s.takeEvent.leaveEngaged = x at hl ⊢
          exact hl
        · obtain rfl := Host.Outcome.next.inj h
          have := (State.clockBytes_sameModes (s := s.notTaken) (requestBytes .bypass)).mode
          rw [State.ignoreRequest, this] at hm
          exact absurd (he.symm.trans hm) (by decide)
    | lockCampaign =>
      simp only [exec, execLockCampaign] at h
      have hs := exec_request_mode h (State.checked_fst (P := fun x => x.mode = s.mode) rfl fun _ => rfl)
      exact .inl (hs ▸ hm)
    | writeEntryGlobal index e =>
      rw [exec_writeEntryGlobal] at h
      have hs := exec_request_mode h (State.checked_fst (P := fun x => x.mode = s.mode) rfl fun _ => by
        rw [State.writeGlobal, State.latchTest_frame]; rfl)
      exact .inl (hs ▸ hm)
    | _ => cases hc

/-- What a change of the books leaves of DISABLED lanes in BYPASS mode. -/
theorem Change.keeps_disabled (hc : Change s t) (hb : Books s) (hm : s.mode = .bypass) (n : Fin 8) (hd : (s.lane n).state = .disabled) :
    (t.lane n).state = .disabled := by
  cases hc with
  | moves h => exact (Moves.enablesNone h hb).disabled n hd
  | maps _ h _ => rw [h.lane]; exact hd
  | configured m e hdis hr hs =>
    rw [hs.lane, State.lane_setLane]
    split
    · exact hdis
    · exact hd
  | armed m hmode _ _ _ => rw [hm] at hmode; cases hmode

/-- What a change of the books leaves of the configurations of enabled lanes (R48). -/
theorem Change.keeps_consistent (hc : Change s t) (hb : Books s) (h : EnabledConfigsConsistent s) : EnabledConfigsConsistent t := by
  intro n hn
  cases hc with
  | moves hm =>
    have he := Moves.enablesNone hm hb
    rw [he.cfgs]
    exact h n fun hd => hn (he.disabled n hd)
  | maps _ hm _ => rw [hm.lane] at hn ⊢; exact h n hn
  | configured m e hdis hr hs =>
    rw [hs.lane, State.lane_setLane] at hn ⊢
    split at hn
    · exact absurd hdis hn
    · next e => rw [if_neg e]; exact h n hn
  | armed m hmode hdis hcons hs =>
    have hlane : (State.armLane m s).lane n = if n = m then { Lane.disabled (s.lane m).cfg with state := .armed } else s.lane n :=
      State.lane_setLane s m n _
    rw [hs.lane, hlane] at hn ⊢
    split
    · simp only [LaneConfig.consistent, Bool.and_eq_true, decide_eq_true_eq] at hcons
      exact hcons
    · next e => rw [if_neg e] at hn; exact h n hn

/-- A step's mode is BYPASS only where it was so before, or every lane is DISABLED now. -/
theorem step_bypassMode (h : step s = .next t) (hm : t.mode = .bypass) : s.mode = .bypass ∨ ∀ n, (t.lane n).state = .disabled := by
  unfold step at h
  split at h
  · next c rest _ => exact exec_bypassMode (s := { s with pending := rest }) h hm
  · obtain rfl := Host.Outcome.next.inj h
    rw [State.clockCycle_frame] at hm
    exact .inl hm

/-- Settles O59: five of the seven by what every command keeps, the two of the lanes by the moves. -/
theorem modesAndLockStaySoundAtEveryStep : Obligations.ModesAndLockStaySoundAtEveryStep := by
  intro s t h
  have hc := step_controlled h
  refine ⟨hc.lock, hc.layout, hc.frame, hc.timebase, hc.configs, fun hb hs hm n => ?_, fun hb hs => ?_⟩
  · obtain hmode | hd := step_bypassMode h hm
    · obtain hch | hp := step_change hb h
      · exact hch.keeps_disabled hb hmode n (hs hmode n)
      · exact hp.disabled n
    · exact hd n
  · obtain hch | hp := step_change hb h
    · exact hch.keeps_consistent hb hs
    · exact fun n hn => absurd (hp.disabled n) hn

/-! ## The map under the campaign lock (R17) -/

/-- Presence and expected landmarks of every tube are as they were. -/
def MapKept (s t : State) : Prop := ∀ i, (t.tubeAt i).presence = (s.tubeAt i).presence ∧ (t.tubeAt i).expected = (s.tubeAt i).expected

theorem MapKept.of_tubes (h : t.tubes = s.tubes) : MapKept s t := fun i => by
  simp only [State.tubeAt, h]; exact ⟨trivial, trivial⟩

theorem MapKept.trans (h : MapKept s t) (h' : MapKept t u) : MapKept s u :=
  fun i => ⟨(h' i).1.trans (h i).1, (h' i).2.trans (h i).2⟩

/-- One tube alone changes, and not in those fields. -/
theorem MapKept.setTube (hf : s.tubesForm) {i : Nat} {x : Tube} (ht : t.tubes = (s.setTube i x).tubes)
    (hp : x.presence = (s.tubeAt i).presence) (he : x.expected = (s.tubeAt i).expected) : MapKept s t := fun j => by
  have hj : t.tubeAt j = if j = i then x else s.tubeAt j := by
    rw [State.tubeAt, ht]; exact State.tubeAt_setTube hf i j x
  rw [hj]; split
  next e => rw [e]; exact ⟨hp, he⟩
  next => exact ⟨rfl, rfl⟩

theorem Tube.settle_map (x : Tube) : x.settle.presence = x.presence ∧ x.settle.expected = x.expected := by
  unfold Tube.settle; split <;> exact ⟨rfl, rfl⟩

theorem Tube.accept_map (x : Tube) (k : Nat) (st : TakeState) :
    (x.accept k st).presence = x.presence ∧ (x.accept k st).expected = x.expected := Tube.settle_map _

theorem Tube.reject_map (x : Tube) (k : Nat) (st : TakeState) :
    (x.reject k st).presence = x.presence ∧ (x.reject k st).expected = x.expected := by
  unfold Tube.reject
  dsimp only
  split <;> exact Tube.settle_map _

theorem Tube.release_map (x : Tube) (k : Nat) (st : TakeState) :
    (x.release k st).presence = x.presence ∧ (x.release k st).expected = x.expected := Tube.settle_map _

theorem MapKept.modTubeOf (hf : s.tubesForm) (k : Nat) {f : Tube → Tube}
    (h : ∀ x, (f x).presence = x.presence ∧ (f x).expected = x.expected) : MapKept s (s.modTubeOf k f) := by
  unfold State.modTubeOf
  split
  next p _ => exact .setTube hf rfl (h _).1 (h _).2
  next => exact .of_tubes rfl

theorem Move.mapKept (hm : Move s t) (hb : Books s) : MapKept s t := by
  have hf := hb.tubesForm
  cases hm with
  | keep hs => exact .of_tubes hs.tubes
  | plug p g => exact .setTube hf rfl rfl rfl
  | drop n p d hh hr => exact .setTube hf (x := { s.tubeAt p.index with claim := none }) rfl rfl rfl
  | @opens o q x hload hk hq hu hset hx ho =>
    have hform : ((s.setPool q).setTube o.pos.index x).tubesForm := State.tubesForm_setTube hf _ o.pos.index_lt
    have h1 : MapKept s ((s.setPool q).setTube o.pos.index x) := .setTube (s := s.setPool q) hf rfl (by rw [hx]; rfl) (by rw [hx]; rfl)
    exact h1.trans (.setTube hform (x := (((s.setPool q).setTube o.pos.index x).tubeAt o.pos.index).opened o.slot) rfl rfl rfl)
  | defer n p d hload hn hc hl hadm => exact .setTube hf (x := { s.tubeAt p.index with claim := some n }) rfl rfl rfl
  | replace n q p e d hh hc =>
    have h1 : MapKept s (s.claimTube n p) := .setTube hf rfl rfl rfl
    have hform : (s.claimTube n p).tubesForm := State.tubesForm_setTube hf _ p.index_lt
    split
    · exact h1.trans (.of_tubes rfl)
    · have h2 : MapKept (s.claimTube n p) ((s.claimTube n p).clearClaim q) := .setTube hform rfl rfl rfl
      exact (h1.trans h2).trans (.of_tubes rfl)
  | unclaim n p hn hc => exact .setTube hf rfl rfl rfl
  | seals n k hk hrem hx hr hs hl hteq hform hacc hu => exact fun i => ⟨(hacc i).presence, (hacc i).expected⟩
  | accept k hv =>
    have h1 : MapKept s ((s.supersede k).setTakeState k .accepted) := .of_tubes (by
      show (s.supersede k).tubes = _
      rw [State.supersede_frame])
    have hform : ((s.supersede k).setTakeState k .accepted).tubesForm := by
      show Sparse.wf _ _ (s.supersede k).tubes = true
      rw [State.supersede_frame]; exact hf
    exact h1.trans (.modTubeOf hform k fun x => Tube.accept_map x k _)
  | reject k hv =>
    have h1 : MapKept s (s.setTakeState k .rejected) := .of_tubes rfl
    exact h1.trans (.modTubeOf (s := s.setTakeState k .rejected) hf k fun x => Tube.reject_map x k _)
  | release k hv hbind =>
    refine (MapKept.modTubeOf hf k fun x => Tube.release_map x k (s.takeAt k).state).trans (.of_tubes ?_)
    rw [State.releaseBefore_frame]
  | bind i w hw => exact .of_tubes (by rw [State.bindWindow_frame])
  | _ => exact .of_tubes rfl

theorem Moves.mapKept (hm : Moves s t) (hb : Books s) : MapKept s t := by
  induction hm with
  | refl => exact .of_tubes rfl
  | tail hm hlast ih => exact ih.trans (hlast.mapKept (Moves.books hm hb))

/-- Under the lock, with no load running, no command changes presence or expected landmarks. -/
theorem Change.mapKept (hc : Change s t) (hb : Books s) (hl : s.locked = true) (hr : s.loader.read ≠ .live) : MapKept s t := by
  cases hc with
  | moves hm => exact Moves.mapKept hm hb
  | maps h _ _ =>
    obtain h | h := h
    · rw [hl] at h; cases h
    · exact absurd h hr
  | configured m e hdis hcfg hs => exact .of_tubes hs.tubes
  | armed m hmode hdis hcons hs => exact .of_tubes hs.tubes

/-- Under the lock no command but the end of a power-on reset clears it or changes the plug authority set. -/
theorem exec_locked {c : Instr} (hl : s.locked = true) (hc : ∀ straps, c ≠ .powerOnReset straps) (h : exec c s = .next t) :
    t.locked = true ∧ t.plugSet = s.plugSet := by
  cases hset : setsModes c with
  | false =>
    have hm := exec_sameModes hset h
    exact ⟨hm.locked.trans hl, hm.plugSet⟩
  | true =>
    have request {c : Instr} {act : State → State × Status} (h : s.request c act = .next t)
        (ha : (act s.takeEvent).1.locked = true ∧ (act s.takeEvent).1.plugSet = s.plugSet) : t.locked = true ∧ t.plugSet = s.plugSet := by
      unfold State.request at h
      split at h
      · obtain rfl := Host.Outcome.next.inj h; exact ha
      · obtain rfl := Host.Outcome.next.inj h
        have hm := State.clockBytes_sameModes (s := s.notTaken) (requestBytes c)
        exact ⟨hm.locked.trans hl, hm.plugSet⟩
    let P : State → Prop := fun x => x.locked = true ∧ x.plugSet = s.plugSet
    cases c with
    | powerOnReset straps => exact absurd rfl (hc straps)
    | engage =>
      simp only [exec, execEngage] at h
      refine request h ?_
      split
      · exact ⟨hl, rfl⟩
      · exact State.checked_fst (P := P) ⟨hl, rfl⟩ fun _ => ⟨hl, rfl⟩
    | bypass =>
      simp only [exec, execBypass] at h
      refine request h ?_
      split
      · exact ⟨hl, rfl⟩
      · have hm := (s.takeEvent.disableAll_works .bypass false).sameModes
        unfold State.leaveEngaged
        generalize s.takeEvent.disableAll .bypass false = x at hm ⊢
        exact ⟨hm.locked.trans hl, hm.plugSet⟩
    | lockCampaign =>
      simp only [exec, execLockCampaign] at h
      exact request h (State.checked_fst (P := P) ⟨hl, rfl⟩ fun _ => ⟨rfl, rfl⟩)
    | writeEntryGlobal index e =>
      rw [exec_writeEntryGlobal] at h
      refine request h (State.checked_fst (P := P) ⟨hl, rfl⟩ fun hf => ?_)
      obtain ⟨hp, -⟩ := firstFailing_cons_none (firstFailing_cons_none (firstFailing_cons_none hf).2).2
      have hplugs : e.plugs = s.plugSet := by
        rw [State.takeEvent_locked, hl] at hp
        by_contra hne
        simp [hne] at hp
      show (s.takeEvent.writeGlobal e).locked = true ∧ (s.takeEvent.writeGlobal e).plugSet = s.plugSet
      rw [State.writeGlobal, State.latchTest_frame]
      exact ⟨hl, hplugs⟩
    | _ => cases hset

/-- Settles O31: LOCK_CAMPAIGN, and what every other command leaves under the lock. -/
theorem campaignLockFreezesMap : Obligations.CampaignLockFreezesMap := by
  refine ⟨fun s h => ⟨fun hr => ?_, fun hr => ?_⟩, fun c s t hb hp hl hr hc h => ?_⟩
  · exact State.request_fails (checks := fun s => [(s.loader.running, .refusedState)]) (f := fun s => { s with locked := true }) h
      (by simp [firstFailing, hr])
  · exact State.request_passes (checks := fun s => [(s.loader.running, .refusedState)]) (f := fun s => { s with locked := true }) h
      (by simp [firstFailing, hr]) rfl
  · obtain ⟨hlock, hplug⟩ := exec_locked hl hc h
    have hrun : t.loader.running = false := (exec_controlled h).lock (fun _ => hr) hlock
    refine ⟨hlock, hrun, hplug, (exec_change hb hc h).mapKept hb hl fun e => ?_⟩
    rw [hp.live e] at hr; cases hr

end Sys2Proof.Machine
end

section
/-! The reference clock and a lane's time events (O2, O51, O52). -/

namespace Sys2Proof.Machine

variable {s t u : State} {n : Fin 8} {k : Nat}

/-! ## One cycle -/

/-- A position of `a` ticks and `r` cycles is a whole number of ticks only with no cycles over. -/
theorem ticks_add_eq_iff {d r a b : Nat} (h : r < d) : a * d + r = b * d ↔ r = 0 ∧ a = b := by
  have hd : 0 < d := by omega
  constructor
  · intro e
    have hr : r = 0 := by
      have := congrArg (· % d) e
      simpa [Nat.mul_add_mod', Nat.mod_eq_of_lt h] using this
    subst hr
    exact ⟨rfl, Nat.eq_of_mul_eq_mul_right hd e⟩
  · rintro ⟨rfl, rfl⟩; rfl

/-- The instant that a cycle leads to, counted from the start of the period, and the events that come there (R165, R166). -/
theorem Timebase.afterCycle_instant (tb : Timebase) (hc : tb.cycle < tb.divider) (ht : tb.tick < tb.period) (hw : tb.window < tb.period) :
    tb.afterCycle.1 = { tb with cycle := tb.afterCycle.1.cycle, tick := tb.afterCycle.1.tick } ∧
    tb.afterCycle.1.cycle < tb.divider ∧ tb.afterCycle.1.tick < tb.period ∧
    tb.afterCycle.1.tick * tb.divider + tb.afterCycle.1.cycle =
      (tb.tick * tb.divider + tb.cycle + 1) % (tb.period * tb.divider) ∧
    tb.afterCycle.2 =
      if tb.tick * tb.divider + tb.cycle + 1 = tb.window * tb.divider then [.sample, .driveStart]
      else if tb.tick * tb.divider + tb.cycle + 1 = tb.period * tb.divider then [.periodEnd]
      else [] := by
  have hd : 0 < tb.divider := by omega
  unfold Timebase.afterCycle
  by_cases h1 : tb.cycle + 1 < tb.divider
  · have hlt : tb.tick * tb.divider + tb.cycle + 1 < tb.period * tb.divider := calc
      tb.tick * tb.divider + tb.cycle + 1 < (tb.tick + 1) * tb.divider := by rw [Nat.succ_mul]; omega
      _ ≤ tb.period * tb.divider := Nat.mul_le_mul_right _ ht
    have hne (b : Nat) : tb.tick * tb.divider + tb.cycle + 1 ≠ b * tb.divider := fun e =>
      absurd ((ticks_add_eq_iff h1).1 ((Nat.add_assoc _ _ _).symm.trans e)).1 (by omega)
    rw [if_pos h1, if_neg (hne _), if_neg (hne _), Nat.mod_eq_of_lt hlt]
    exact ⟨rfl, h1, ht, rfl, rfl⟩
  · have hinst : tb.tick * tb.divider + tb.cycle + 1 = (tb.tick + 1) * tb.divider := by rw [Nat.succ_mul]; omega
    have heq (b : Nat) : (tb.tick + 1) * tb.divider = b * tb.divider ↔ tb.tick + 1 = b := Nat.mul_left_inj hd.ne'
    rw [if_neg h1, hinst]
    simp only [heq]
    by_cases h2 : tb.tick + 1 < tb.period
    · rw [if_pos h2, Nat.mod_eq_of_lt (Nat.mul_lt_mul_of_pos_right h2 hd), if_neg (c := tb.tick + 1 = tb.period) (by omega)]
      exact ⟨rfl, hd, h2, rfl, rfl⟩
    · have hlast : tb.tick + 1 = tb.period := by omega
      rw [if_neg h2, hlast, if_neg (c := tb.period = tb.window) (by omega), if_pos rfl, Nat.mod_self]
      exact ⟨rfl, hd, (by omega : 0 < tb.period), by simp, rfl⟩

theorem step_nil (h : s.pending = []) : step s = .next s.clockCycle := by rw [step, h]

/-- Settles O2: the cycle's instant, and the events brought to the lanes. -/
theorem emptyQueuePassesOneClockCycle : Obligations.EmptyQueuePassesOneClockCycle := by
  refine ⟨fun s hq hp => ?_, fun s hq hp hc ht hw => ?_⟩
  · rw [step_nil hq, State.clockCycle, if_pos hp]; rfl
  · obtain ⟨ed, ep, -⟩ := s.timebase.afterCycle_settings
    obtain ⟨h1, h2, h3, h4, h5⟩ := s.timebase.afterCycle_instant hc ht hw
    refine ⟨s.clockCycle, step_nil hq, State.clockCycle_frame, ?_⟩
    rw [State.clockCycle, if_neg (by simp [hp])]
    refine ⟨h1, h2.trans_eq ed.symm, h3.trans_eq ep.symm, (congrArg (s.timebase.afterCycle.1.tick * · + _) ed).trans h4, fun n => ?_⟩
    rw [State.bringDue_laneLine, ← h5]
    by_cases he : (s.lane n).state = .disabled
    · have hoff : (s.lane n).enabled = false := by simp [Lane.enabled, he]
      rw [if_pos he, List.append_nil]
      exact if_neg (c := (s.lane n).enabled = true) (by simp [hoff])
    · rw [if_neg he]
      exact if_pos (c := (s.lane n).enabled = true) ((Lane.enabled_iff _).2 he)

end Sys2Proof.Machine
end

section
/-! A lane's time events: when they come, and what they do (O51, O52). -/

namespace Sys2Proof.Machine

variable {s t u : State} {n : Fin 8} {k : Nat}

/-! ## When an event comes -/

theorem Timebase.ranged (h : TimebaseInRange s) :
    s.timebase.cycle < s.timebase.divider ∧ s.timebase.tick < s.timebase.period ∧ s.timebase.window < s.timebase.period := by
  obtain ⟨-, -, hw, hc, ht⟩ := h
  exact ⟨hc, ht, hw.2⟩

/-- The cycles left in the period. -/
def Timebase.left (tb : Timebase) : Nat := tb.period * tb.divider - (tb.tick * tb.divider + tb.cycle)

/-- A cycle brings the next event of the period, or brings none and leaves the same one to come. -/
theorem Timebase.afterCycle_quiet_or_event (tb : Timebase) (hc : tb.cycle < tb.divider) (ht : tb.tick < tb.period) (hw : tb.window < tb.period) :
    tb.afterCycle = tb.toEvent ∨
      tb.afterCycle.2 = [] ∧ tb.afterCycle.1.toEvent = tb.toEvent ∧ tb.afterCycle.1.left < tb.left := by
  have hpos : tb.tick * tb.divider + tb.cycle < tb.period * tb.divider := calc
    tb.tick * tb.divider + tb.cycle < (tb.tick + 1) * tb.divider := by rw [Nat.succ_mul]; omega
    _ ≤ tb.period * tb.divider := Nat.mul_le_mul_right _ ht
  have hsucc : (tb.tick + 1) * tb.divider = tb.tick * tb.divider + tb.divider := Nat.succ_mul _ _
  unfold Timebase.afterCycle Timebase.toEvent Timebase.left
  by_cases h1 : tb.cycle + 1 < tb.divider
  · rw [if_pos h1]
    exact .inr ⟨rfl, rfl, by dsimp only; omega⟩
  · rw [if_neg h1]
    by_cases h2 : tb.tick + 1 < tb.period
    · rw [if_pos h2]
      by_cases h3 : tb.tick + 1 = tb.window
      · rw [if_pos h3, if_pos (by omega), h3]; exact .inl rfl
      · rw [if_neg h3]
        refine .inr ⟨rfl, ?_, by dsimp only; omega⟩
        dsimp only
        split
        · rw [if_pos (by omega)]
        · rw [if_neg (by omega)]
    · rw [if_neg h2, if_neg (by omega)]; exact .inl rfl

theorem State.bringDue_nil : s.bringDue [] = s := by
  have : (s.bringDue []).laneLines = s.laneLines := by
    ext i hi
    have h := State.bringDue_laneLine (s := s) [] ⟨i, hi⟩
    simp only [List.append_nil, ite_self] at h
    simpa [State.laneLine] using congrArg id h
  show { s with laneLines := (s.bringDue []).laneLines } = s
  rw [this]

/-- The cycles that pass to the next event of the period bring nothing, and then they bring that event. -/
theorem State.cyclesOn_toEvent (hp : s.pins.powerReset = false) (hd : (s.laneLine n).due = []) (ht : TimebaseInRange s) :
    ∃ m, cyclesOn m s = { s.runClock with out := Outputs.none } ∧ ∀ j < m, ((cyclesOn j s).laneLine n).due = [] := by
  obtain ⟨fuel, hfuel⟩ : ∃ fuel, s.timebase.left ≤ fuel := ⟨_, Nat.le_refl _⟩
  induction fuel generalizing s with
  | zero =>
    obtain ⟨hc, hk, hw⟩ := Timebase.ranged ht
    obtain h | ⟨-, -, h⟩ := s.timebase.afterCycle_quiet_or_event hc hk hw
    · refine ⟨1, ?_, fun j hj => ?_⟩
      · show s.clockCycle = _
        rw [State.clockCycle, if_neg (by simp [hp]), h]; rfl
      · obtain rfl : j = 0 := by omega
        exact hd
    · omega
  | succ fuel ih =>
    obtain ⟨hc, hk, hw⟩ := Timebase.ranged ht
    obtain h | ⟨hnil, hev, hlt⟩ := s.timebase.afterCycle_quiet_or_event hc hk hw
    · refine ⟨1, ?_, fun j hj => ?_⟩
      · show s.clockCycle = _
        rw [State.clockCycle, if_neg (by simp [hp]), h]; rfl
      · obtain rfl : j = 0 := by omega
        exact hd
    · have hcyc : s.clockCycle = { s.notTaken with timebase := s.timebase.afterCycle.1 } := by
        rw [State.clockCycle, if_neg (by simp [hp]), hnil, State.bringDue_nil]
      obtain ⟨m, hm, hq⟩ := ih (s := s.clockCycle) (by rw [hcyc]; exact hp) (by rw [hcyc]; exact hd)
        (ht.afterCycle (by rw [hcyc])) (by rw [hcyc]; show s.timebase.afterCycle.1.left ≤ fuel; omega)
      refine ⟨m + 1, ?_, fun j hj => ?_⟩
      · show cyclesOn m s.clockCycle = _
        rw [hm, hcyc]
        unfold State.runClock
        rw [show ({ s.notTaken with timebase := s.timebase.afterCycle.1 } : State).timebase.toEvent = s.timebase.toEvent from hev]
        rfl
      · match j with
        | 0 => exact hd
        | j + 1 => exact hq j (by omega)

theorem Timebase.toEvent_events_ne (tb : Timebase) : tb.toEvent.2 ≠ [] := by
  unfold Timebase.toEvent; split <;> simp

theorem State.runClock_due (hn : (s.lane n).state ≠ .disabled) : (s.runClock.laneLine n).due ≠ [] := by
  unfold State.runClock
  rw [State.bringDue_laneLine, if_pos (c := (State.lane { s with timebase := s.timebase.toEvent.1 } n).enabled = true)
    ((Lane.enabled_iff _).2 hn)]
  simp [s.timebase.toEvent_events_ne]

/-! ## The commands of the events -/

/-- What a time command does of the event that it is taken for. -/
def timeWork : Instr → State → State
  | .senseWindowSample n level, s => s.sampleLane n level
  | .drivePhaseStart n, s => s.chooseDrive n
  | .periodEnd n, s => s.endPeriod n
  | .idleTimerExpiry n, s => s.endPeriod n
  | .drainTimerExpiry n, s => s.endPeriod n
  | .admissionTimerExpiry n, s => s.endPeriod n
  | _, s => s

/-- A time command is the event that its lane waits for, and the lane's timer expires where the command names it. -/
def timeTaken : Instr → State → Bool
  | .senseWindowSample n _, s => s.comes n .sample
  | .drivePhaseStart n, s => s.comes n .driveStart
  | .periodEnd n, s => s.comes n .periodEnd
  | .idleTimerExpiry n, s => s.comes n .periodEnd && (s.lane n).idleExpires
  | .drainTimerExpiry n, s => s.comes n .periodEnd && (s.lane n).drainExpires
  | .admissionTimerExpiry n, s => s.comes n .periodEnd && (s.lane n).admissionExpires
  | _, _ => false

theorem timeCommand_cases {c : Instr} (h : timeCommand n c) :
    (∃ level, c = .senseWindowSample n level) ∨ c = .drivePhaseStart n ∨ c = .periodEnd n ∨ c = .idleTimerExpiry n ∨
      c = .drainTimerExpiry n ∨ c = .admissionTimerExpiry n := by
  simpa [timeCommand] using h

theorem exec_timeCommand {c : Instr} (h : timeCommand n c) (s : State) :
    exec c s = if timeTaken c s = true then .next (timeWork c (s.takeTimeEvent n)) else .next s.notTaken := by
  obtain ⟨level, rfl⟩ | rfl | rfl | rfl | rfl | rfl := timeCommand_cases h
  · rfl
  · rfl
  · rfl
  · simp only [timeTaken, Bool.and_eq_true]; rfl
  · simp only [timeTaken, Bool.and_eq_true]; rfl
  · simp only [timeTaken, Bool.and_eq_true]; rfl

theorem Works.out_eq (h : Works s t) : t.out = s.out := by rw [h.frame]

theorem timeWork_out (c : Instr) (s : State) : (timeWork c s).out = s.out := by
  cases c with
  | senseWindowSample n level => exact (s.sampleLane_works n level).out_eq
  | drivePhaseStart n => exact (s.chooseDrive_works n).out_eq
  | periodEnd n => exact (s.endPeriod_works n).out_eq
  | idleTimerExpiry n => exact (s.endPeriod_works n).out_eq
  | drainTimerExpiry n => exact (s.endPeriod_works n).out_eq
  | admissionTimerExpiry n => exact (s.endPeriod_works n).out_eq
  | _ => rfl

theorem timeCommand_periodEnds {c : Instr} (h : c ∈ [Instr.periodEnd n, .idleTimerExpiry n, .drainTimerExpiry n, .admissionTimerExpiry n]) :
    timeCommand n c ∧ ∀ s, s.comes n .periodEnd = false → timeTaken c s = false := by
  simp only [List.mem_cons, List.not_mem_nil, or_false] at h
  obtain rfl | rfl | rfl | rfl := h <;> exact ⟨.inr (by simp), fun s hs => by simp [timeTaken, hs]⟩

theorem exec_timeCommand_notTaken {c : Instr} (h : timeCommand n c) (ht : timeTaken c s = false) :
    exec c s = .next { s with out := Outputs.none } := by
  rw [exec_timeCommand h, if_neg (by simp [ht])]; rfl

theorem State.comes_disabled (h : (s.lane n).state = .disabled) (e : LineEvent) : s.comes n e = false := by
  simp [State.comes, Lane.enabled, h]

theorem timeTaken_disabled {c : Instr} (hc : timeCommand n c) (h : (s.lane n).state = .disabled) : timeTaken c s = false := by
  obtain ⟨level, rfl⟩ | rfl | rfl | rfl | rfl | rfl := timeCommand_cases hc <;> simp [timeTaken, State.comes_disabled h]

/-- An event is taken of a state as of the state to which the clock has run on. -/
theorem exec_timeCommand_runClock {c : Instr} (hc : timeCommand n c) (hn : (s.lane n).state ≠ .disabled) (hd : (s.laneLine n).due = []) :
    ∃ t, exec c { s.runClock with out := Outputs.none } = .next t ∧
      exec c s = .next (if t.out.taken = true then t else { s with out := Outputs.none }) := by
  obtain ⟨w, hw⟩ : ∃ w : State, w = { s.runClock with out := Outputs.none } := ⟨_, rfl⟩
  have hdue : (w.laneLine n).due ≠ [] := by rw [hw]; exact State.runClock_due hn
  have htime : s.timely n = s.runClock := by rw [State.timely, hd]; rfl
  have hcomes (e : LineEvent) : w.comes n e = s.comes n e := by
    rw [State.comes, State.comes, State.timely_of_due hdue, htime, hw]; rfl
  have htaken : timeTaken c w = timeTaken c s := by
    have hlane : w.lane n = s.lane n := by rw [hw]; rfl
    obtain ⟨level, rfl⟩ | rfl | rfl | rfl | rfl | rfl := timeCommand_cases hc <;> simp only [timeTaken, hcomes, hlane]
  have hevent : w.takeTimeEvent n = s.takeTimeEvent n := by
    rw [State.takeTimeEvent, State.takeTimeEvent, State.timely_of_due hdue, htime, hw]; rfl
  rw [← hw, exec_timeCommand hc, exec_timeCommand hc, htaken, hevent]
  cases timeTaken c s with
  | true =>
    refine ⟨_, rfl, ?_⟩
    rw [if_pos rfl, if_pos (by rw [timeWork_out]; rfl)]
  | false => exact ⟨_, rfl, by rfl⟩

/-! ## Samples, drive phases and period ends -/

theorem State.takeTimeEvent_of_head {e : LineEvent} (h : canCome s n e) :
    s.takeTimeEvent n = s.takeEvent.setLaneLine n { s.laneLine n with due := (s.laneLine n).due.tail } := by
  have hd : (s.laneLine n).due ≠ [] := fun h0 => by rw [canCome, h0] at h; simp at h
  rw [State.takeTimeEvent, State.timely_of_due hd]; rfl

/-- A time command that is the event its lane waits for. -/
theorem exec_timeCommand_taken {c : Instr} {e : LineEvent} (h : timeCommand n c) (hc : canCome s n e) (ht : timeTaken c s = true) :
    exec c s = .next (timeWork c (s.takeEvent.setLaneLine n { s.laneLine n with due := (s.laneLine n).due.tail })) := by
  rw [exec_timeCommand h, if_pos ht, State.takeTimeEvent_of_head hc]

theorem advanceTimer_running {o : Option Nat} {timeout : Nat} (h : ∀ c, o = some c → c + 1 < timeout) :
    advanceTimer timeout o = (o.map (· + 1), false) := by
  cases o with
  | none => rfl
  | some c => rw [advanceTimer, if_neg (by have := h c rfl; omega)]; rfl

/-- Settles O52: no timer reaches its timeout. -/
theorem periodEndAdvancesTimers : Obligations.PeriodEndAdvancesTimers := by
  intro n s hc hi hd ha
  have ei := advanceTimer_running hi
  have ed := advanceTimer_running hd
  have ea := advanceTimer_running ha
  rw [exec_timeCommand_taken (n := n) (.inr (by simp)) hc (by simp [timeTaken, State.comes_of_head hc])]
  simp only [timeWork, State.endPeriod, State.driverOff, State.laneLine_setLaneLine_self, State.setLaneLine_setLaneLine]
  simp only [State.lanePeriodEnd, State.lane_setLaneLine, State.lane_takeEvent, Lane.idleExpires, Lane.drainExpires,
    Lane.admissionExpires, Lane.advance, ei, ed, ea, Bool.and_false, Bool.false_eq_true, if_false]

theorem sampleOf_eq (level : Level) : sampleOf level = if level = .low then .home else .away := by cases level <;> rfl

/-- A home state that did not change to HOME of an OPEN take. -/
theorem State.sampleLane_quiet (level : Level)
    (h : ¬((s.lane n).home = .away ∧ homeAfter (s.lane n).home (s.laneLine n).prev (sampleOf level) = .home ∧ (s.lane n).state = .opened)) :
    s.sampleLane n level = (s.setLaneLine n { s.laneLine n with prev := some (sampleOf level) }).setLane n
      { s.lane n with home := homeAfter (s.lane n).home (s.laneLine n).prev (sampleOf level) } := by
  unfold State.sampleLane
  dsimp only
  split
  · next hh =>
    have hne : (s.lane n).state ≠ .opened := fun he => h ⟨hh.1, hh.2, he⟩
    unfold State.homeSensed
    simp only [State.lane_setLaneLine, State.lane_setLane_self]
    split
    · next k he _ => exact absurd he hne
    · rfl
  · rfl

theorem State.sampleLane_closes (level : Level) (ha : (s.lane n).home = .away)
    (hh : homeAfter (s.lane n).home (s.laneLine n).prev (sampleOf level) = .home) (ho : (s.lane n).state = .opened)
    (hk : (s.lane n).current = some k) :
    s.sampleLane n level = ((s.setLaneLine n { s.laneLine n with prev := some (sampleOf level) }).setTake k
      { s.takeAt k with state := .closing }).setLane n { s.lane n with
        home := .home, state := .closing, finalSeq := none, idle := none
        drain := if (s.lane n).cfg.drain = 0 then none else some 0 } := by
  unfold State.sampleLane
  dsimp only
  rw [if_pos ⟨ha, hh⟩, hh]
  unfold State.homeSensed
  simp only [State.lane_setLaneLine, State.lane_setLane_self, ho, hk]
  unfold State.enterClosing startTimer
  simp only [State.modTake, State.lane_setLaneLine, State.lane_setLane_self, State.takeAt_setLaneLine, State.takeAt_setLane]
  exact State.setLane_setLane ((s.setLaneLine n _).setTake k _) n _ _

theorem State.lineDriver_lane {i : Fin 12} (hi : i.val = n.val) (hp : s.pins.powerReset = false) (hn : (s.lane n).state ≠ .disabled) :
    s.lineDriver i = if s.drivenLow n = true then some .low else none := by
  rw [State.lineDriver, if_neg (by simp [hp]), hi, laneOf_val]
  exact if_pos ((Lane.enabled_iff _).2 hn)

/-- Settles O51. -/
theorem sampleAndDriveFollowLineAndPauses : Obligations.SampleAndDriveFollowLineAndPauses := by
  refine ⟨?_, ?_, ?_, ?_, ?_, ?_⟩
  · rintro n level s b x h hc rfl rfl rfl
    rw [← sampleOf_eq,
      exec_timeCommand_taken (n := n) (.inl ⟨level, rfl⟩) hc (by simp [timeTaken, State.comes_of_head hc])]
    simp only [timeWork]
    refine ⟨fun hq => ?_, fun k ha hh ho hk => ?_⟩
    · rw [State.sampleLane_quiet]
      · simp [homeAfter]
      · simpa [homeAfter] using hq
    · rw [State.sampleLane_closes (k := k)]
      · simp; rfl
      · simpa using ha
      · simpa [homeAfter] using hh
      · simpa using ho
      · simpa using hk
  · intro n s hc
    refine ⟨_, ?_, rfl, fun i hi => ?_⟩
    · rw [exec_timeCommand_taken (n := n) (.inr (by simp)) hc (by simp [timeTaken, State.comes_of_head hc])]
      simp [timeWork, State.chooseDrive, Lane.paused]
    · obtain ⟨hp, hn, hhead⟩ := hc
      rw [State.lineDriver_lane hi (by exact hp) (by exact hn), State.drivenLow, State.laneLine_setLaneLine_self]
      obtain ⟨e, rest, hdue⟩ : ∃ e rest, (s.laneLine n).due = e :: rest := List.exists_cons_of_ne_nil fun h0 => by simp [h0] at hhead
      obtain rfl : e = .driveStart := by simpa [hdue] using hhead
      simp only [hdue, Bool.and_eq_true, decide_eq_true_eq, Bool.or_eq_true, List.tail_cons, List.isEmpty_iff, List.cons.injEq, true_and]
      exact if_congr ⟨fun ⟨⟨h1, h2⟩, h3⟩ => ⟨h1, h3, h2⟩, fun ⟨h1, h3, h2⟩ => ⟨⟨h1, h2⟩, h3⟩⟩ rfl rfl
  · intro n i s hi hn ht
    cases hp : s.pins.powerReset with
    | true => rw [State.lineDriver, if_pos hp]
    | false =>
      rw [State.lineDriver_lane hi hp hn, if_neg]
      simp [State.drivenLow, ht]
  · intro n s hp hn hd ht
    obtain ⟨m, hm, hq⟩ := State.cyclesOn_toEvent hp hd ht
    exact ⟨m, _, rfl, by rw [hm]; exact State.runClock_due hn, hq, fun c hc => by
      rw [hm]; exact exec_timeCommand_runClock hc hn hd⟩
  · intro n level s e hc
    refine ⟨fun he => ?_, fun he => ?_, fun he c hmem => ?_⟩
    · exact exec_timeCommand_notTaken (n := n) (.inl ⟨level, rfl⟩) (by simp [timeTaken, State.comes_of_head hc, he])
    · exact exec_timeCommand_notTaken (n := n) (.inr (by simp)) (by simp [timeTaken, State.comes_of_head hc, he])
    · obtain ⟨h1, h2⟩ := timeCommand_periodEnds hmem
      exact exec_timeCommand_notTaken h1 (h2 s (by simp [State.comes_of_head hc, he]))
  · intro n level s hn
    have quiet {c : Instr} (hc : timeCommand n c) := exec_timeCommand_notTaken hc (timeTaken_disabled hc hn)
    exact ⟨quiet (.inl ⟨level, rfl⟩), quiet (.inr (by simp)), quiet (.inr (by simp)), quiet (.inr (by simp)),
      quiet (.inr (by simp)), quiet (.inr (by simp))⟩

end Sys2Proof.Machine
end

section
/-! REJECT_TAKE and RELEASE_TAKE (O27, O28). -/

namespace Sys2Proof.Machine

variable {s t u : State} {n : Fin 8} {k : Nat}

/-! ## REJECT_TAKE -/

theorem exec_rejectTake (index : BitVec 16) (serial : BitVec 32) (s : State) :
    exec (.rejectTake index serial) s = s.request (.rejectTake index serial) fun s =>
      s.verdict index serial (rejectBy (s.takeAt index.toNat).state) (State.reject index.toNat) := rfl

section
variable {index : BitVec 16} {serial : BitVec 32}

theorem exec_rejectTake_fails {e : Status} (h : s.listening = true) (he : takeRefusal s index serial = some e) :
    exec (.rejectTake index serial) s = .next (s.answered (.rejectTake index serial) e []) := by
  rw [exec_rejectTake]
  exact State.request_refuses h (State.verdict_fails _ he)

theorem exec_rejectTake_refused (h : s.listening = true) (hc : takeRefusal s index serial = none)
    (hv : rejectBy (s.takeAt index.toNat).state = .refused) :
    exec (.rejectTake index serial) s = .next (s.answered (.rejectTake index serial) .refusedState []) := by
  rw [exec_rejectTake]
  refine State.request_refuses h ?_
  rw [State.takeAt_takeEvent, hv]
  exact State.verdict_refused hc

theorem exec_rejectTake_already (h : s.listening = true) (hc : takeRefusal s index serial = none)
    (hv : rejectBy (s.takeAt index.toNat).state = .already) :
    exec (.rejectTake index serial) s = .next (s.answered (.rejectTake index serial) .done []) := by
  rw [exec_rejectTake]
  refine State.request_gives (u := s.takeEvent) h ?_ rfl rfl
  rw [State.takeAt_takeEvent, hv]
  exact State.verdict_already hc

theorem exec_rejectTake_taken (h : s.listening = true) (hc : takeRefusal s index serial = none)
    (hv : rejectBy (s.takeAt index.toNat).state = .taken) :
    exec (.rejectTake index serial) s =
      .next ((s.takeEvent.reject index.toNat).answered (.rejectTake index serial) .done []) := by
  rw [exec_rejectTake]
  refine State.request_answers h ?_ (by rw [State.reject_frame]; rfl)
  rw [State.takeAt_takeEvent, hv]
  exact State.verdict_taken hc

end

/-- The take's tube after REJECT_TAKE (R10). -/
theorem State.tubeAt_reject_of_tube (hb : Books s) {p : TubePos} (hp : (s.takeAt k).tube = some p) (i : Nat) :
    (s.reject k).tubeAt i = if i = p.index then (s.tubeAt p.index).reject k (s.takeAt k).state else s.tubeAt i := by
  rw [State.tubeAt_reject hb.takesForm hb.tubesForm, Take.tubeIndex, hp]
  simp only [Option.map_some, Option.some_inj]
  split
  next e => rw [if_pos e.symm, e]
  next e => rw [if_neg fun h => e h.symm]

/-- Settles O27: the checks of R36, then R40's table by the take's state, as for ACCEPT_TAKE. -/
theorem rejectTakeClearsTubesResult : Obligations.RejectTakeClearsTubesResult := by
  rintro index serial s _ _ hl hb rfl rfl
  refine ⟨fun e he => exec_rejectTake_fails hl he, fun hc hx => exec_rejectTake_refused hl hc ?_,
    fun hc hx => exec_rejectTake_already hl hc ?_, fun p hc hx hp => ?_⟩
  · obtain hx | hx | hx := hx <;> rw [hx] <;> rfl
  · rw [hx]; rfl
  · have hv : rejectBy (s.takeAt index.toNat).state = .taken := by obtain hx | hx | hx := hx <;> rw [hx] <;> rfl
    have hb' : Books s.takeEvent := hb.of_fields rfl rfl rfl rfl rfl rfl
    have hp' : (s.takeEvent.takeAt index.toNat).tube = some p := hp
    refine ⟨_, exec_rejectTake_taken hl hc hv, ?_, ?_, fun j hj => ?_, fun i hi => ?_, ?_⟩
    · rw [State.reject_frame]; rfl
    · rw [State.takeAt_reject hb'.takesForm, if_pos rfl, State.takeAt_takeEvent]
    · rw [State.takeAt_reject hb'.takesForm, if_neg hj, State.takeAt_takeEvent]
    · rw [State.tubeAt_reject_of_tube hb' hp', if_neg hi, State.tubeAt_takeEvent]
    · rw [State.tubeAt_reject_of_tube hb' hp', if_pos rfl, Tube.reject_eq, State.tubeAt_takeEvent, State.takeAt_takeEvent]

/-! ## RELEASE_TAKE -/

/-- Where unreserved has not fallen, the latch test may arm the latch and does nothing else. -/
theorem State.latchAfter_risen (before : Nat) (q : Bool) (h : s.pool.armed = true → s.pool.lowMark ≤ s.pool.unreserved)
    (hb : s.pool.armed = false → before < s.pool.highMark) :
    s.latchAfter before q = { s with pool := { s.pool with
      armed := s.pool.armed || decide (s.pool.highMark ≤ s.pool.unreserved) } } := by
  unfold State.latchAfter
  split
  next e =>
    have harmed : (s.pool.armed || decide (s.pool.highMark ≤ s.pool.unreserved)) = s.pool.armed := by
      cases ha : s.pool.armed with
      | true => rfl
      | false => have := hb ha; rw [e]; simpa using this
    rw [harmed]
  next => exact State.latchTest_risen q h

/-- A release up to its admission check posts no notice. -/
theorem Books.releaseBefore_eq (h : Books s) (k : Nat) : s.releaseBefore k =
    { s with
      takes := (s.setTake k Take.free).takes
      tubes := (s.modTubeOf k fun t => t.release k (s.takeAt k).state).tubes
      amendments := (s.dropAmendments k).amendments
      pool := { s.pool with
        freeList := s.pool.freeList ++ (s.takeAt k).chain
        freeCount := s.pool.freeCount + (s.takeAt k).chain.length
        armed := s.pool.armed ||
          decide (s.pool.highMark ≤ s.pool.freeCount + (s.takeAt k).chain.length - s.pool.reserved) } } := by
  unfold State.releaseBefore State.freeTake
  rw [State.modTubeOf_frame]
  refine (State.latchAfter_risen _ _ (fun ha => ?_) fun ha => ?_).trans ?_
  · exact (h.latch.armed ha).trans (Nat.sub_le_sub_right (Nat.le_add_right _ _) _)
  · exact h.latch.disarmed ha
  · rfl

section
variable {index : BitVec 16} {serial : BitVec 32}

theorem exec_releaseTake (index : BitVec 16) (serial : BitVec 32) (s : State) :
    exec (.releaseTake index serial) s = s.request (.releaseTake index serial) fun s =>
      s.checked (s.takeChecks index serial ++ [(!releasable (s.takeAt index.toNat).state, .refusedState),
        (decide (0 < (s.takeAt index.toNat).bindings), .bound)]) (State.release index.toNat) := rfl

/-- The first of RELEASE_TAKE's checks that fails. -/
theorem exec_releaseTake_fails {e : Status} (h : s.listening = true)
    (he : (takeRefusal s index serial).or (firstFailing [(!releasable (s.takeAt index.toNat).state, .refusedState),
      (decide (0 < (s.takeAt index.toNat).bindings), .bound)]) = some e) :
    exec (.releaseTake index serial) s = .next (s.answered (.releaseTake index serial) e []) := by
  rw [exec_releaseTake]
  exact State.request_refuses h (State.checked_fail (by rw [firstFailing_takeChecks_append]; exact he))

theorem exec_releaseTake_done (h : s.listening = true) (hc : takeRefusal s index serial = none)
    (hr : releasable (s.takeAt index.toNat).state = true) (hb : (s.takeAt index.toNat).bindings = 0) :
    exec (.releaseTake index serial) s =
      .next ((s.takeEvent.releaseBefore index.toNat).admissionCheck.answered (.releaseTake index serial) .done []) := by
  rw [exec_releaseTake]
  refine State.request_answers h (State.checked_pass ?_) (by
    obtain ⟨ho, -⟩ := (State.release_keepsOut (s := s.takeEvent) index.toNat)
    exact ho)
  rw [firstFailing_takeChecks_append, takeRefusal_takeEvent, hc]
  simp [firstFailing, hr, hb]

end

theorem releasable_iff (st : TakeState) : releasable st = true ↔ st ≠ .free ∧ st ≠ .opened ∧ st ≠ .closing := by
  cases st <;> simp [releasable]

/-- Settles O28: the checks of R36 and R42, then the effect of R43 up to its admission check. -/
theorem releaseTakeFreesSlotAndSegments : Obligations.ReleaseTakeFreesSlotAndSegments := by
  rintro index serial s _ _ hl hb rfl rfl
  refine ⟨fun e he => exec_releaseTake_fails hl (by rw [he]; rfl), fun hc hx => exec_releaseTake_fails hl ?_,
    fun hc h1 h2 h3 hbind => exec_releaseTake_fails hl ?_, fun p hc h1 h2 h3 hbind hp => ?_⟩
  · rw [hc]
    obtain hx | hx | hx := hx <;> rw [hx] <;> rfl
  · rw [hc]
    simp [firstFailing, (releasable_iff _).2 ⟨h1, h2, h3⟩, hbind]
  · have hb' : Books s.takeEvent := hb.of_fields rfl rfl rfl rfl rfl rfl
    have htube := State.tubeAt_modTubeOf (s := s.takeEvent) hb'.tubesForm hp fun x => x.release index.toNat (s.takeAt index.toNat).state
    have hpost := hb'.releaseBefore_eq index.toNat
    refine ⟨_, exec_releaseTake_done hl hc ((releasable_iff _).2 ⟨h1, h2, h3⟩) hbind, ?_, ?_, fun j hj => ?_, fun a => ?_,
      fun i hi => ?_, ?_⟩ <;> rw [hpost]
    · rfl
    · exact (State.takeAt_setTake hb'.takesForm index.toNat index.toNat Take.free).trans (if_pos rfl)
    · exact (State.takeAt_setTake hb'.takesForm index.toNat j Take.free).trans (if_neg hj)
    · simp only [State.dropAmendments, Fin.getElem_fin, Vector.getElem_map]; rfl
    · exact (htube i).trans (if_neg hi)
    · exact ((htube p.index).trans (if_pos rfl)).trans (Tube.release_eq _ _ _)

end Sys2Proof.Machine
end

section
/-! The admission check in the words of the statements (O29): what it leaves, and each head's turn. -/

namespace Sys2Proof.Machine

variable {s t u : State} {n : Fin 8} {k : Nat}

theorem slotGiven_nil : slotGiven s [] k ↔ opensAt s k := by simp [slotGiven, opensAt]

theorem State.freeSlot_iff : s.freeSlot [] = some k ↔ opensAt s k := (State.freeSlot_given [] k).trans slotGiven_nil

theorem State.freeSlot_none (h : ¬∃ k, opensAt s k) : s.freeSlot [] = none :=
  Option.eq_none_iff_forall_ne_some.2 fun k hk => h ⟨k, State.freeSlot_iff.1 hk⟩

/-- What an admission check leaves as it was: takes that are not FREE, lanes outside its queue, tubes held by none of them. -/
structure CheckLeaves (q : List (Fin 8)) (s t : State) : Prop where
  takes : ∀ j, (s.takeAt j).state ≠ .free → t.takeAt j = s.takeAt j
  lanes : ∀ n, n ∉ q → t.lane n = s.lane n
  tubes : ∀ i, (∀ n ∈ q, ∀ p d, (s.lane n).held = some (p, d) → p.index ≠ i) → t.tubeAt i = s.tubeAt i
  queue : s.pool.queue = q → t.pool.queue <:+ q

theorem CheckLeaves.refl (q : List (Fin 8)) (s : State) : CheckLeaves q s s :=
  ⟨fun _ _ => rfl, fun _ _ => rfl, fun _ _ => rfl, fun h => h ▸ List.suffix_refl _⟩

/-- The head's turn, then the rest's. -/
theorem CheckLeaves.cons {h : Fin 8} {rest : List (Fin 8)} {p : TubePos} {d : Direction} (hr : h ∉ rest) (hh : (s.lane h).held = some (p, d))
    (htakes : ∀ j, (s.takeAt j).state ≠ .free → u.takeAt j = s.takeAt j) (hlanes : ∀ n, n ≠ h → u.lane n = s.lane n)
    (htubes : ∀ i, i ≠ p.index → u.tubeAt i = s.tubeAt i) (hq : s.pool.queue = h :: rest → u.pool.queue = rest)
    (hc : CheckLeaves rest u t) : CheckLeaves (h :: rest) s t where
  takes j hj := by rw [hc.takes j (by rw [htakes j hj]; exact hj), htakes j hj]
  lanes n hn := by
    rw [List.mem_cons, not_or] at hn
    rw [hc.lanes n hn.2, hlanes n hn.1]
  tubes i hi := by
    rw [hc.tubes i fun n hn p' d' hp' => ?_, htubes i fun e => hi h (by simp) p d hh e.symm]
    rw [hlanes n fun e => hr (e ▸ hn)] at hp'
    exact hi n (by simp [hn]) p' d' hp'
  queue hs := (hc.queue (hq hs)).trans (List.suffix_cons _ _)

theorem filter_ne_head {h : Fin 8} {rest : List (Fin 8)} (hr : h ∉ rest) : (h :: rest).filter (· ≠ h) = rest := by
  rw [List.filter_cons_of_neg (by simp), List.filter_eq_self]
  exact fun n hn => by simpa using fun e : n = h => hr (e ▸ hn)

theorem State.queue_admitHead (s : State) (h : Fin 8) (rest : List (Fin 8)) : (s.admitHead h rest).pool.queue = rest := by
  unfold State.admitHead; rw [State.latchTest_frame]

@[simp] theorem State.tubeAt_admitHead (s : State) (h : Fin 8) (rest : List (Fin 8)) (i : Nat) :
    (s.admitHead h rest).tubeAt i = s.tubeAt i := by rw [State.admitHead_frame]; rfl

theorem QueueReady.openTake {q : List (Fin 8)} (h : QueueReady s q) {o : Opening} (ho : o.lane ∉ q) : QueueReady (s.openTake o) q :=
  ⟨h.nodup, fun n hn => by rw [State.lane_openTake, if_neg (show n ≠ o.lane from fun e => ho (e ▸ hn))]; exact h.held n hn⟩

section
variable {h : Fin 8} {rest : List (Fin 8)} {p : TubePos} {d : Direction}

theorem State.admitNow_blocked (hu : s.pool.freeCount - s.pool.reserved < (s.lane h).cfg.reservation) :
    State.admitNow (h :: rest) s = s := by
  rw [State.admitNow, if_pos (show s.pool.unreserved < _ from hu)]

theorem State.admitNow_admits (hu : (s.lane h).cfg.reservation ≤ s.pool.freeCount - s.pool.reserved)
    (hp : (s.lane h).held = some (p, d)) (hk : opensAt s k) :
    State.admitNow (h :: rest) s =
      State.admitNow rest ((s.admitHead h rest).openTake { lane := h, slot := k, pos := p, direction := d }) := by
  rw [State.admitNow, if_neg (show ¬s.pool.unreserved < _ from Nat.not_lt.2 hu), State.freeSlot_iff.2 hk, hp]

theorem State.admitNow_refuses (hu : (s.lane h).cfg.reservation ≤ s.pool.freeCount - s.pool.reserved)
    (hp : (s.lane h).held = some (p, d)) (hk : ¬∃ k, opensAt s k) :
    State.admitNow (h :: rest) s = State.admitNow rest (heldRefused s h p .tableFull) := by
  rw [State.admitNow, if_neg (show ¬s.pool.unreserved < _ from Nat.not_lt.2 hu), State.freeSlot_none hk]
  exact congrArg (State.admitNow rest) (State.refuseHeld_eq .tableFull hp)

end

/-- The check of a queue, one head at a time, leaves what it has nothing to do with. -/
theorem State.admitNow_leaves (q : List (Fin 8)) (hf : s.Formed) (hq : QueueReady s q) : CheckLeaves q s (State.admitNow q s) := by
  induction q generalizing s with
  | nil => exact .refl _ _
  | cons h rest ih =>
    obtain ⟨hr, -⟩ := List.nodup_cons.1 hq.nodup
    obtain ⟨p, d, hp⟩ := hq.held h (by simp)
    by_cases hu : s.pool.freeCount - s.pool.reserved < (s.lane h).cfg.reservation
    · rw [State.admitNow_blocked hu]; exact .refl _ _
    · by_cases hk : ∃ k, opensAt s k
      · obtain ⟨k, hk⟩ := hk
        obtain ⟨-, hlt, hfree, -⟩ := id hk
        have hform := hf.admitHead h rest
        rw [State.admitNow_admits (Nat.not_lt.1 hu) hp hk]
        refine .cons (u := (s.admitHead h rest).openTake { lane := h, slot := k, pos := p, direction := d }) hr hp
          (fun j hj => ?_) (fun n hn => ?_) (fun i hi => ?_) (fun _ => State.queue_admitHead s h rest)
          (ih (hform.openTake (o := { lane := h, slot := k, pos := p, direction := d }) hlt) (hq.admitHead.openTake hr))
        · rw [State.takeAt_openTake hform.1, if_neg (show j ≠ k from fun e => hj (e ▸ hfree)), State.takeAt_admitHead]
        · rw [State.lane_openTake, if_neg hn, State.lane_admitHead]
        · rw [State.tubeAt_openTake hform.2, if_neg hi, State.tubeAt_admitHead]
      · rw [State.admitNow_refuses (Nat.not_lt.1 hu) hp hk]
        refine .cons (u := heldRefused s h p .tableFull) hr hp (fun j hj => rfl) (fun n hn => ?_) (fun i hi => ?_) (fun hs => ?_)
          (ih (hf.heldRefused h p .tableFull) (hq.heldRefused p .tableFull))
        · rw [State.lane_heldRefused, if_neg hn]
        · exact (State.tubeAt_setTube (s := { s with pool := { s.pool with queue := s.pool.queue.filter (· ≠ h) } }) hf.2 _ i _).trans (if_neg hi)
        · show s.pool.queue.filter (· ≠ h) = rest
          rw [hs]; exact filter_ne_head hr

/-- The head of the queue with room for it and a slot: it opens, and the check goes on. -/
theorem Books.headAdmitted_check (hb : Books s) {h : Fin 8} {rest : List (Fin 8)} {p : TubePos} {d : Direction}
    (hq : s.pool.queue = h :: rest) (hp : (s.lane h).held = some (p, d))
    (hu : (s.lane h).cfg.reservation ≤ s.pool.freeCount - s.pool.reserved) (hk : opensAt s k) :
    s.admissionCheck = (headAdmitted s h rest k p d).admissionCheck ∧
      CheckLeaves rest (headAdmitted s h rest k p d) s.admissionCheck := by
  have hready := hb.queueReady
  rw [hq] at hready
  obtain ⟨hr, -⟩ := List.nodup_cons.1 hready.nodup
  have hhead : headAdmitted s h rest k p d = (s.admitHead h rest).openTake { lane := h, slot := k, pos := p, direction := d } := by
    rw [headAdmitted, State.openTake_eq, State.admitHead_eq hb.latch.disarmed]
  have hform := (hb.formed.admitHead h rest).openTake (o := { lane := h, slot := k, pos := p, direction := d }) hk.2.1
  have hrest : QueueReady ((s.admitHead h rest).openTake { lane := h, slot := k, pos := p, direction := d }) rest :=
    hready.admitHead.openTake hr
  have hnow : s.admissionCheck = State.admitNow rest (headAdmitted s h rest k p d) := by
    rw [State.admissionCheck_eq_now hb.formed hb.queueReady, hq, State.admitNow_admits hu hp hk, hhead]
  have hqueue : (headAdmitted s h rest k p d).pool.queue = rest := by rw [hhead]; exact State.queue_admitHead s h rest
  rw [← hhead] at hform hrest
  refine ⟨?_, ?_⟩
  · rw [hnow, State.admissionCheck_eq_now hform (by rw [hqueue]; exact hrest), hqueue]
  · rw [hnow]; exact State.admitNow_leaves rest hform hrest

/-- Settles O29: the check as one that opens each take as its start is admitted. -/
theorem admissionCheckTakesHeadsInOrder : Obligations.AdmissionCheckTakesHeadsInOrder := by
  intro s hb ht
  have hready := hb.queueReady
  refine ⟨⟨_, _, State.admitLoop_decides s.pool.queue [] rfl hready.nodup (fun n hn => ?_) hb.latch.marks hb.latch.disarmed, rfl⟩,
    State.admissionCheck_empty, fun h rest p d hq hp => ⟨fun hu => ?_, fun k hu hk => ?_, fun hu hk => ?_⟩⟩
  · obtain ⟨p, d, hp⟩ := hready.held n hn
    rw [hp]; rfl
  · rw [State.admissionCheck_eq_now hb.formed hready, hq, State.admitNow_blocked hu]
  · obtain ⟨heq, hl⟩ := hb.headAdmitted_check hq hp hu hk
    rw [hq] at hready
    obtain ⟨hr, -⟩ := List.nodup_cons.1 hready.nodup
    have hlt := hk.2.1
    have hcount : headCounted s h rest = s.admitHead h rest := (State.admitHead_eq hb.latch.disarmed).symm
    have hform := hb.formed.admitHead h rest
    have htake (j) : (headAdmitted s h rest k p d).takeAt j =
        if j = k then takeOpened s.serialCounter h p d (s.lane h).cfg.reservation else s.takeAt j := by
      rw [headAdmitted, hcount, ← State.openTake_eq, State.takeAt_openTake hform.1, State.takeAt_admitHead, State.lane_admitHead,
        State.admitHead_frame]
      rfl
    have htube (i) : (headAdmitted s h rest k p d).tubeAt i = if i = p.index then tubeOpened (s.tubeAt p.index) k else s.tubeAt i := by
      rw [headAdmitted, hcount, ← State.openTake_eq, State.tubeAt_openTake hform.2, State.tubeAt_admitHead, State.tubeAt_admitHead]
      rfl
    have hlane (m) : (headAdmitted s h rest k p d).lane m = if m = h then laneOpened (s.lane h) k else s.lane m := by
      rw [headAdmitted, hcount, ← State.openTake_eq, State.lane_openTake, State.lane_admitHead, State.lane_admitHead]
      rfl
    refine ⟨heq, ?_, ?_, ?_, hl.queue ?_, fun j hj => ?_⟩
    · rw [hl.takes k, htake, if_pos rfl]
      rw [htake, if_pos rfl]; exact nofun
    · rw [hl.tubes p.index, htube, if_pos rfl]
      intro n hn q e hheld hi
      have hne : n ≠ h := fun e => hr (e ▸ hn)
      rw [hlane, if_neg hne] at hheld
      have h1 := (ht.claims q.index n).2 (.inl ⟨q, e, hheld, rfl⟩)
      have h2 := (ht.claims p.index h).2 (.inl ⟨p, d, hp, rfl⟩)
      rw [hi, h2] at h1
      exact hne (Option.some_inj.1 h1).symm
    · rw [hl.lanes h hr, hlane, if_pos rfl]
    · rw [headAdmitted, hcount]; exact State.queue_admitHead s h rest
    · have hjk : j ≠ k := fun e => hj (e ▸ hk.2.2.1)
      rw [hl.takes j (by rw [htake, if_neg hjk]; exact hj), htake, if_neg hjk]
  · have hready' := hready
    rw [hq] at hready'
    obtain ⟨hr, -⟩ := List.nodup_cons.1 hready'.nodup
    have hqueue : (heldRefused s h p .tableFull).pool.queue = rest := by
      show s.pool.queue.filter (· ≠ h) = rest
      rw [hq]; exact filter_ne_head hr
    rw [State.admissionCheck_eq_now hb.formed hready, hq, State.admitNow_refuses hu hp hk,
      State.admissionCheck_eq_now (hb.formed.heldRefused h p .tableFull) (by rw [hqueue]; exact hready'.heldRefused p .tableFull), hqueue]

end Sys2Proof.Machine
end

section
/-! The classes of R146 and what stands for a transaction of each in the in-flight list (O33, O37). -/

namespace Sys2Proof.Machine

variable {s t u : State} {n : Fin 8} {k : Nat}

/-! ## Classes -/

theorem inRegion_iff (a base : Addr) (size : Nat) : inRegion a base size = true ↔ within a base size := by
  simp [inRegion, within]

/-- In a good layout an address lies in one region at most (R145). -/
structure RegionsApart (l : Layout) : Prop where
  review : ∀ a : Addr, within a l.review (2 ^ 28) → ¬within a l.lane (2 ^ 27)
  capture : ∀ a : Addr, within a l.capture (2 ^ 30) → ¬within a l.lane (2 ^ 27) ∧ ¬within a l.review (2 ^ 28)
  marker : ∀ a : Addr, within a l.marker (2 ^ 16) →
    ¬within a l.lane (2 ^ 27) ∧ ¬within a l.review (2 ^ 28) ∧ ¬within a l.capture (2 ^ 30)
  ring : ∀ a : Addr, within a l.ring (2 ^ 15) →
    ¬within a l.lane (2 ^ 27) ∧ ¬within a l.review (2 ^ 28) ∧ ¬within a l.capture (2 ^ 30) ∧ ¬within a l.marker (2 ^ 16)

theorem regionsApart {l : Layout} (h : layoutGood l) : RegionsApart l := by
  obtain ⟨-, hp⟩ := h
  simp only [List.pairwise_cons, List.mem_cons, List.not_mem_nil, or_false, forall_eq_or_imp, forall_eq, false_imp_iff,
    implies_true, List.Pairwise.nil, and_true] at hp
  obtain ⟨⟨lr, lc, lm, lg⟩, ⟨rc, rm, rg⟩, ⟨cm, cg⟩, mg⟩ := hp
  exact ⟨fun a h1 h2 => lr _ ⟨h2, h1⟩, fun a h1 => ⟨fun h2 => lc _ ⟨h2, h1⟩, fun h2 => rc _ ⟨h2, h1⟩⟩,
    fun a h1 => ⟨fun h2 => lm _ ⟨h2, h1⟩, fun h2 => rm _ ⟨h2, h1⟩, fun h2 => cm _ ⟨h2, h1⟩⟩,
    fun a h1 => ⟨fun h2 => lg _ ⟨h2, h1⟩, fun h2 => rg _ ⟨h2, h1⟩, fun h2 => cg _ ⟨h2, h1⟩, fun h2 => mg _ ⟨h2, h1⟩⟩⟩

section
variable {l : Layout} {a : Addr}

/-- The class, with the sizes of the regions written out (R145). -/
theorem classify_regions (l : Layout) (a : Addr) : classify l a =
    if inRegion a l.lane (2 ^ 27) then
      .lane (Fin.ofNat 8 ((a.toNat - l.lane.toNat) / 2 ^ 24)) ((a.toNat - l.lane.toNat) % 2 ^ 24)
    else if inRegion a l.review (2 ^ 28) then
      .review (Fin.ofNat 16 ((a.toNat - l.review.toNat) / 2 ^ 24)) ((a.toNat - l.review.toNat) % 2 ^ 24)
    else if inRegion a l.capture (2 ^ 30) then .capture
    else if inRegion a l.marker (2 ^ 16) then .marker ((a.toNat - l.marker.toNat) / 64)
    else if inRegion a l.ring (2 ^ 15) then .ring
    else .other := rfl

theorem inRegion_out {base : Addr} {size : Nat} (h : ¬within a base size) : ¬inRegion a base size = true :=
  fun h' => h ((inRegion_iff a base size).1 h')

theorem inRegion_in {base : Addr} {size : Nat} (h : within a base size) : inRegion a base size = true :=
  (inRegion_iff a base size).2 h

theorem classify_capture (h : layoutGood l) (ha : within a l.capture (2 ^ 30)) : classify l a = .capture := by
  obtain ⟨h1, h2⟩ := (regionsApart h).capture a ha
  rw [classify_regions, if_neg (inRegion_out h1), if_neg (inRegion_out h2), if_pos (inRegion_in ha)]

theorem classify_marker (h : layoutGood l) (ha : within a l.marker (2 ^ 16)) :
    classify l a = .marker ((a.toNat - l.marker.toNat) / 64) := by
  obtain ⟨h1, h2, h3⟩ := (regionsApart h).marker a ha
  rw [classify_regions, if_neg (inRegion_out h1), if_neg (inRegion_out h2), if_neg (inRegion_out h3), if_pos (inRegion_in ha)]

theorem classify_ring (h : layoutGood l) (ha : within a l.ring (2 ^ 15)) : classify l a = .ring := by
  obtain ⟨h1, h2, h3, h4⟩ := (regionsApart h).ring a ha
  rw [classify_regions, if_neg (inRegion_out h1), if_neg (inRegion_out h2), if_neg (inRegion_out h3), if_neg (inRegion_out h4), if_pos (inRegion_in ha)]

theorem classify_review (h : layoutGood l) (ha : within a l.review (2 ^ 28)) :
    classify l a = .review (Fin.ofNat 16 ((a.toNat - l.review.toNat) / 2 ^ 24)) ((a.toNat - l.review.toNat) % 2 ^ 24) := by
  rw [classify_regions, if_neg (inRegion_out ((regionsApart h).review a ha)), if_pos (inRegion_in ha)]

theorem classify_window {v : Fin 16} {off : Nat} (h : layoutGood l) (ho : off < 2 ^ 24)
    (ha : a.toNat = l.review.toNat + v.val * 2 ^ 24 + off) : classify l a = .review v off := by
  have hv := v.isLt
  have hin : within a l.review (2 ^ 28) := by unfold within; omega
  have hd : (a.toNat - l.review.toNat) / 2 ^ 24 = v.val := by omega
  have hm : (a.toNat - l.review.toNat) % 2 ^ 24 = off := by omega
  rw [classify_review h hin, hd, hm]
  congr 1
  exact Fin.ext (Nat.mod_eq_of_lt hv)

theorem classify_markerUnit {unit : Nat} (h : layoutGood l) (hu : unit < 1024) (ha : a.toNat = l.marker.toNat + 64 * unit) :
    classify l a = .marker unit := by
  have hin : within a l.marker (2 ^ 16) := by unfold within; omega
  rw [classify_marker h hin]
  congr 1
  omega

theorem classify_other (h1 : ¬within a l.lane (2 ^ 27)) (h2 : ¬within a l.review (2 ^ 28)) (h3 : ¬within a l.capture (2 ^ 30))
    (h4 : ¬within a l.marker (2 ^ 16)) (h5 : ¬within a l.ring (2 ^ 15)) : classify l a = .other := by
  rw [classify_regions, if_neg (inRegion_out h1), if_neg (inRegion_out h2), if_neg (inRegion_out h3), if_neg (inRegion_out h4),
    if_neg (inRegion_out h5)]

end

/-! ## The way of a transaction -/

section
variable {t : RigTxn} {w : State}

/-- A transaction taken joins the list as its route says (R143). -/
theorem exec_rigRoute (h : RigTaken s t) (hp : PortsSound s) (hw : w = s.takeEvent.watch t) :
    ∃ u, exec (.rigPortTransaction t) s = .next u ∧ Joined s (w.route t).1 u (w.route t).2 := by
  have hf := (w.route_works t).1.frame
  exact exec_rigPortTransaction_joined h hp hw (by rw [hf]) (by rw [hf])

theorem State.watched_mode (hw : w = s.takeEvent.watch t) : w.mode = s.mode := by rw [hw, State.watch_frame]; rfl
theorem State.watched_layout (hw : w = s.takeEvent.watch t) : w.layout = s.layout := by rw [hw, State.watch_frame]; rfl

theorem State.route_bypass (hw : w = s.takeEvent.watch t) (hm : s.mode = .bypass) : w.route t = (w, forwarded t) := by
  rw [State.route, State.watched_mode hw, hm]

theorem State.route_engaged (hw : w = s.takeEvent.watch t) (hm : s.mode = .engaged) {c : AddrClass} (hc : classify s.layout t.addr = c) :
    w.route t = w.actOn t c := by
  rw [State.route, State.watched_mode hw, hm, State.watched_layout hw, ← hc]

/-- Settles O33: the route of each class. -/
theorem transactionsAreForwardedOrGuarded : Obligations.TransactionsAreForwardedOrGuarded := by
  intro t s w hrig hports hw
  obtain ⟨u, hexec, hj⟩ := exec_rigRoute hrig hports hw
  have joins {f : Flight} (h : w.route t = (w, f)) : Joined s w u f := by rwa [h] at hj
  refine ⟨u, hexec, fun hm => joins (State.route_bypass hw hm), fun hm hl => ⟨fun data hop hin => joins ?_, fun size hop hin => joins ?_,
    fun size hop hin => joins ?_, fun data hop hlen hin => joins ?_, fun h1 h2 h3 h4 h5 => joins ?_⟩⟩
  · obtain hin | hin | hin := hin
    · rw [State.route_engaged hw hm (classify_capture hl hin)]; simp only [State.actOn, hop]; rfl
    · rw [State.route_engaged hw hm (classify_ring hl hin)]; simp only [State.actOn, hop]; rfl
    · rw [State.route_engaged hw hm (classify_review hl hin)]; simp only [State.actOn, hop]; rfl
  · rw [State.route_engaged hw hm (classify_capture hl hin)]; simp only [State.actOn, hop]; rfl
  · obtain hin | hin := hin
    · rw [State.route_engaged hw hm (classify_ring hl hin)]; simp only [State.actOn, hop]; rfl
    · rw [State.route_engaged hw hm (classify_marker hl hin)]; simp only [State.actOn, hop]; rfl
  · rw [State.route_engaged hw hm (classify_marker hl hin)]
    simp only [State.actOn, hop]
    rw [if_neg hlen]; rfl
  · rw [State.route_engaged hw hm (classify_other h1 h2 h3 h4 h5)]; rfl

/-! ## Reads of takes -/

theorem State.laneRead_none (h : ∀ st, (w.lane n).state = st → st ≠ .opened ∧ st ≠ .closing) (off size : Nat) :
    w.laneRead n off size = .answered (.readData (voidFill size)) := by
  obtain ⟨h1, h2⟩ := h _ rfl
  have hr : (w.lane n).recording = false := by simp [Lane.recording, h1, h2]
  rw [State.laneRead, hr]; rfl

theorem State.laneRead_recorded (h : recordsTake w n k) (off size : Nat) : w.laneRead n off size = readOf w k off size := by
  obtain ⟨hk, hs⟩ := h
  have hr : (w.lane n).recording = true := by simpa [Lane.recording] using hs
  rw [State.laneRead, hr, if_pos rfl, hk]; rfl

theorem State.reviewRead_none {v : Fin 16} (h : w.resolve w.windows[v] = none) (off size : Nat) :
    w.reviewRead v off size = .answered (.readData (voidFill size)) := by rw [State.reviewRead, h]

theorem State.reviewRead_void {v : Fin 16} (h : w.resolve w.windows[v] = some k)
    (hs : (w.takeAt k).state = .free ∨ (w.takeAt k).state = .rejected) (off size : Nat) :
    w.reviewRead v off size = .answered (.readData (voidFill size)) := by
  rw [State.reviewRead, h]; exact if_pos hs

theorem State.reviewRead_take {v : Fin 16} (h : w.resolve w.windows[v] = some k)
    (h1 : (w.takeAt k).state ≠ .free) (h2 : (w.takeAt k).state ≠ .rejected) (off size : Nat) :
    w.reviewRead v off size = readOf w k off size := by
  rw [State.reviewRead, h]; exact if_neg (by simp [h1, h2])

theorem State.resolve_iff (w : State) (x : Window) (k : Nat) : w.resolve x = some k ↔
    x = .take k ∨ ∃ p, x = .follow p ∧ (w.tubeAt p.index).accepted = some k := by
  cases x <;> simp [State.resolve]

theorem State.resolve_none_iff (w : State) (x : Window) : w.resolve x = none ↔
    x = .unbound ∨ ∃ p, x = .follow p ∧ (w.tubeAt p.index).accepted = none := by
  cases x <;> simp [State.resolve]

/-- Settles O37: the lane's take or the window's, and the fills. -/
theorem readsOfTakesAreTranslatedOrFilled : Obligations.ReadsOfTakesAreTranslatedOrFilled := by
  intro t s w size hrig hports hw hop
  obtain ⟨u, hexec, hj⟩ := exec_rigRoute hrig hports hw
  have joins {f : Flight} (h : w.route t = (w, f)) : Joined s w u f := by rwa [h] at hj
  have htake (k) : w.takeAt k = s.takeAt k := by rw [hw, State.watch_frame]; rfl
  have htube (i) : w.tubeAt i = s.tubeAt i := by rw [hw, State.watch_frame]; rfl
  have hwin : w.windows = s.windows := by rw [hw, State.watch_frame]; rfl
  refine ⟨u, hexec, fun n off hr => ?_, fun v off hr => ?_⟩
  · have hroute : w.route t = (w, w.laneRead n off size) := by
      rw [State.route_engaged hw hr.engaged (classify_lane hr.inAperture hr.address)]; simp only [State.actOn, hop]
    refine ⟨fun h1 h2 => joins ?_, fun k hk => joins ?_⟩
    · rw [hroute, State.laneRead_none fun _ e => e ▸ ⟨h1, h2⟩]; rfl
    · rw [hroute, State.laneRead_recorded hk]
  · have hroute : w.route t = (w, w.reviewRead v off size) := by
      rw [State.route_engaged hw hr.engaged (classify_window hr.layout hr.inWindow hr.address)]; simp only [State.actOn, hop]
    refine ⟨fun k hv => ?_, fun hv => joins ?_⟩
    · have hres : w.resolve w.windows[v] = some k := by
        rw [State.resolve_iff, hwin]; simpa only [htube] using hv
      refine ⟨fun hs => joins ?_, fun h1 h2 => joins ?_⟩
      · rw [hroute, State.reviewRead_void hres (by rwa [htake])]; rfl
      · rw [hroute, State.reviewRead_take hres (by rwa [htake]) (by rwa [htake])]
    · have hres : w.resolve w.windows[v] = none := by
        rw [State.resolve_none_iff, hwin]; simpa only [htube] using hv
      rw [hroute, State.reviewRead_none hres]; rfl

end

end Sys2Proof.Machine
end

section
/-! The watch units: which of them a transaction hits, and what the hits do (O34). -/

namespace Sys2Proof.Machine

variable {s u : State} {t : RigTxn} {n : Fin 8} {v : Fin 4}

/-! ## Hits (R173) -/

/-- The filters in the words of the statements. -/
theorem Watch.passes_iff (w : Watch) (t : RigTxn) : w.passes t = true ↔
    ((∃ size, t.op = .read size) → w.dirFilter ≠ .write) ∧ ((∃ data, t.op = .write data) → w.dirFilter ≠ .read) ∧
      ∀ src, w.source = some src → src = t.source := by
  unfold Watch.passes
  cases hop : t.op <;> cases hf : w.dirFilter <;> cases hs : w.source <;> simp [isWriteOp]

/-- Agreement under a mask, bit by bit. -/
theorem masked_eq_iff (a c m : Addr) : a &&& m = c &&& m ↔ ∀ b < 40, m.getLsbD b = true → a.getLsbD b = c.getLsbD b := by
  constructor
  · intro h b hb hm
    have := congrArg (·.getLsbD b) h
    simpa [hm] using this
  · intro h
    refine BitVec.eq_of_getLsbD_eq fun b hb => ?_
    simp only [BitVec.getLsbD_and]
    cases hm : m.getLsbD b with
    | false => simp
    | true => simp [h b hb hm]

theorem pairHits_even_iff (e o : Watch) (t : RigTxn) : (pairHits e o t).1 = true ↔ e.passes t = true ∧
    ((e.mode = .matching ∧ ∀ b < 40, e.mask.getLsbD b = true → t.addr.getLsbD b = e.compare.getLsbD b) ∨
      (e.mode = .range ∧ e.compare.toNat ≤ t.addr.toNat ∧ t.addr.toNat ≤ o.compare.toNat)) := by
  rw [← masked_eq_iff, pairHits]
  split
  next h => simp [h, BitVec.le_def, and_comm]
  next h => simp [h, Watch.matches, and_comm]

theorem pairHits_odd_iff (e o : Watch) (t : RigTxn) : (pairHits e o t).2 = true ↔ o.passes t = true ∧
    (o.mode = .matching ∧ (∀ b < 40, o.mask.getLsbD b = true → t.addr.getLsbD b = o.compare.getLsbD b) ∧ e.mode ≠ .range) := by
  rw [← masked_eq_iff, pairHits]
  split
  next h => simp [h]
  next h => simp [h, Watch.matches, and_comm]

/-- A unit is hit as its place in its pair says. -/
theorem unitHit_iff (s : State) (t : RigTxn) (v : Fin 4) : unitHit s t v ↔ s.watches[v].passes t = true ∧
    ((s.watches[v].mode = .matching ∧
        (∀ b < 40, s.watches[v].mask.getLsbD b = true → t.addr.getLsbD b = s.watches[v].compare.getLsbD b) ∧
        (v = 1 → s.watches[0].mode ≠ .range) ∧ (v = 3 → s.watches[2].mode ≠ .range)) ∨
      (v = 0 ∧ s.watches[0].mode = .range ∧ s.watches[0].compare.toNat ≤ t.addr.toNat ∧
        t.addr.toNat ≤ s.watches[1].compare.toNat) ∨
      (v = 2 ∧ s.watches[2].mode = .range ∧ s.watches[2].compare.toNat ≤ t.addr.toNat ∧
        t.addr.toNat ≤ s.watches[3].compare.toNat)) := by
  rw [Watch.passes_iff]
  unfold unitHit
  simp only [and_assoc]

theorem State.mem_watchHits (s : State) (t : RigTxn) (v : Fin 4) : v ∈ s.watchHits t ↔ unitHit s t v := by
  rw [unitHit_iff]
  have h0 := pairHits_even_iff s.watches[0] s.watches[1] t
  have h1 := pairHits_odd_iff s.watches[0] s.watches[1] t
  have h2 := pairHits_even_iff s.watches[2] s.watches[3] t
  have h3 := pairHits_odd_iff s.watches[2] s.watches[3] t
  have hmem : v ∈ s.watchHits t ↔ (v = 0 ∧ (pairHits s.watches[0] s.watches[1] t).1 = true) ∨
      (v = 1 ∧ (pairHits s.watches[0] s.watches[1] t).2 = true) ∨
      (v = 2 ∧ (pairHits s.watches[2] s.watches[3] t).1 = true) ∨
      (v = 3 ∧ (pairHits s.watches[2] s.watches[3] t).2 = true) := by
    unfold State.watchHits
    simp only [List.mem_append, or_assoc]
    refine or_congr ?_ (or_congr ?_ (or_congr ?_ ?_)) <;> split <;> simp [*]
  rw [hmem, h0, h1, h2, h3]
  match v with
  | 0 => simp
  | 1 => simp
  | 2 => simp
  | 3 => simp

theorem State.watchHits_ascending (s : State) (t : RigTxn) : (s.watchHits t).Pairwise (· < ·) := by
  have h : ([0] ++ [1] ++ [2] ++ [3] : List (Fin 4)).Pairwise (· < ·) := by decide
  refine h.sublist ?_
  have part (b : Bool) (x : Fin 4) : (if b = true then [x] else []).Sublist [x] := by cases b <;> simp
  exact (((part _ _).append (part _ _)).append (part _ _)).append (part _ _)

/-! ## What the hits do (R174) -/

/-- The reports that the hits of these units post. -/
def reportsOf (s : State) (t : RigTxn) (vs : List (Fin 4)) : List Report :=
  vs.filterMap fun v => if s.watches[v].notice = true then
    some { Report.blank .watchHit with source := some t.source, cause := some (.watch v), value := t.addr.toNat / 64 } else none

theorem Watch.hit_eq (w : Watch) (t : RigTxn) : w.hit t = unitAfterHit w t := by
  unfold Watch.hit unitAfterHit isWriteOp captureData satAdd
  cases t.op <;> rfl

/-- Lane n gains WATCH where one of these units holds it and it is enabled. -/
def heldBy (s : State) (vs : List (Fin 4)) (n : Fin 8) : Bool :=
  decide ((s.lane n).state ≠ .disabled) && vs.any fun v => s.watches[v].hold && decide (s.watches[v].holdLane = n)

/-- What the hits of these units do. -/
structure Hits (t : RigTxn) (vs : List (Fin 4)) (s u : State) : Prop where
  frame : u = { s with watches := u.watches, lanes := u.lanes, notices := u.notices, arbiter := u.arbiter }
  notices : u.notices = (reportsOf s t vs).foldl NoticeWriter.create s.notices
  arbiter : u.arbiter = arbiterAfter s.arbiter (reportsOf s t vs)
  watches : ∀ v : Fin 4, u.watches[v] = if v ∈ vs then unitAfterHit s.watches[v] t else s.watches[v]
  lanes : ∀ n, u.lane n = { s.lane n with pauseWatch := (s.lane n).pauseWatch || heldBy s vs n }

theorem State.holdLane_lane (s : State) (m n : Fin 8) : (s.holdLane m).lane n =
    { s.lane n with pauseWatch := (s.lane n).pauseWatch || (decide ((s.lane n).state ≠ .disabled) && decide (m = n)) } := by
  unfold State.holdLane
  by_cases hm : m = n
  · subst hm
    split
    next h => rw [State.lane_setLane_self]; simp [(Lane.enabled_iff _).1 h]
    next h =>
      have hoff : decide ((s.lane m).state ≠ .disabled) = false := by simpa [Lane.enabled] using h
      rw [hoff, Bool.false_and, Bool.or_false]
  · simp only [hm, decide_false, Bool.and_false, Bool.or_false]
    split
    · exact State.lane_setLane_ne _ _ fun e => hm e.symm
    · rfl

theorem State.watchAct_hits (s : State) (t : RigTxn) (v : Fin 4) : Hits t [v] s (s.watchAct t v) := by
  have hlane (w : State) (hw : w.lanes = s.lanes) (m : Fin 8) : w.lane m = s.lane m := by simp only [State.lane, hw]
  obtain ⟨x, hx⟩ : ∃ x : State, x = (if s.watches[v].notice = true then
      ({ s with watches := s.watches.set v (s.watches[v].hit t) } : State).post (Report.watchHit v t.source t.addr)
      else { s with watches := s.watches.set v (s.watches[v].hit t) }) := ⟨_, rfl⟩
  have hact : s.watchAct t v = if s.watches[v].hold = true then x.holdLane s.watches[v].holdLane else x := by rw [hx]; rfl
  have hframe : x = { s with watches := x.watches, notices := x.notices, arbiter := x.arbiter } := by rw [hx]; split <;> rfl
  have hout : s.watchAct t v = { x with lanes := (s.watchAct t v).lanes } := by
    rw [hact]; split
    · exact State.holdLane_frame _
    · rfl
  have hlanes : x.lanes = s.lanes := by rw [hframe]
  refine ⟨?_, ?_, ?_, fun v' => ?_, fun n => ?_⟩
  · rw [hout, hframe]
  · rw [hout]; simp only [hx, reportsOf, List.filterMap_cons, List.filterMap_nil]; split <;> rfl
  · rw [hout]; simp only [hx, reportsOf, List.filterMap_cons, List.filterMap_nil]
    split
    · exact State.arbiter_post _
    · rfl
  · have hwatch : (s.watchAct t v).watches = s.watches.set v (s.watches[v].hit t) := by rw [hout]; simp only [hx]; split <;> rfl
    rw [hwatch, Watch.hit_eq]
    by_cases h : v' = v
    · subst h; simp
    · have hne : v.val ≠ v'.val := fun e => h (Fin.ext e.symm)
      simp [h, hne]
  · rw [hact]
    simp only [heldBy, List.any_cons, List.any_nil, Bool.or_false]
    cases s.watches[v].hold with
    | true => rw [if_pos rfl, State.holdLane_lane, hlane x hlanes, Bool.true_and]
    | false => rw [if_neg (by simp), hlane x hlanes, Bool.false_and, Bool.and_false, Bool.or_false]

theorem Hits.nil (t : RigTxn) (s : State) : Hits t [] s s :=
  ⟨rfl, rfl, rfl, fun _ => by simp, fun n => by simp [heldBy]⟩

/-- One unit's hit, then those of others. -/
theorem Hits.cons {vs : List (Fin 4)} {w : State} (hv : v ∉ vs) (h : Hits t [v] s w) (h' : Hits t vs w u) : Hits t (v :: vs) s u := by
  have hsame (v' : Fin 4) (hm : v' ∈ vs) : w.watches[v'] = s.watches[v'] := by
    rw [h.watches, if_neg (by simpa using fun e : v' = v => hv (e ▸ hm))]
  have hreports : reportsOf w t vs = reportsOf s t vs := List.filterMap_congr fun v' hm => by rw [hsame v' hm]
  have hsplit : reportsOf s t (v :: vs) = reportsOf s t [v] ++ reportsOf s t vs := List.filterMap_append (l := [v]) (l' := vs) ..
  refine ⟨?_, ?_, ?_, fun v' => ?_, fun n => ?_⟩
  · have hw := h.frame
    have hu := h'.frame
    rw [hw] at hu
    exact hu
  · rw [h'.notices, h.notices, hreports, hsplit, List.foldl_append]
  · rw [h'.arbiter, h.arbiter, hreports, hsplit, arbiterAfter_append]
  · rw [h'.watches, h.watches]
    by_cases hm : v' ∈ vs
    · have hne : v' ≠ v := fun e => hv (e ▸ hm)
      simp [hm, hne]
    · simp only [hm, if_false, List.mem_cons, List.not_mem_nil, or_false]
  · rw [h'.lanes, h.lanes]
    have hany : (vs.any fun v => w.watches[v].hold && decide (w.watches[v].holdLane = n)) =
        vs.any fun v => s.watches[v].hold && decide (s.watches[v].holdLane = n) := by
      rw [Bool.eq_iff_iff, List.any_eq_true, List.any_eq_true]
      exact exists_congr fun v' => and_congr_right fun hm => by rw [hsame v' hm]
    have hst : (w.lane n).state = (s.lane n).state := by rw [h.lanes]
    simp only [heldBy, hany, hst, List.any_cons, List.any_nil, Bool.or_false, Bool.or_assoc, Bool.and_or_distrib_left]

theorem State.foldl_watchAct_hits (t : RigTxn) (vs : List (Fin 4)) (hv : vs.Nodup) : Hits t vs s (vs.foldl (State.watchAct t) s) := by
  induction vs generalizing s with
  | nil => exact .nil t s
  | cons v vs ih =>
    obtain ⟨hnew, hv⟩ := List.nodup_cons.1 hv
    exact .cons hnew (s.watchAct_hits t v) (ih hv)

/-- Settles O34: the hits one after the other. -/
theorem watchHitsCountCaptureAndAct : Obligations.WatchHitsCountCaptureAndAct := by
  intro t s
  have hh : Hits t (s.watchHits t) s (s.watch t) := State.foldl_watchAct_hits t _ ((s.watchHits_ascending t).imp ne_of_lt)
  refine ⟨s.mem_watchHits t, s.watchHits_ascending t, fun hno => ?_, _, rfl, ?_, fun v => ⟨fun hv => ?_, fun hv => ?_⟩, fun n => ⟨?_, ?_⟩⟩
  · have hnil : s.watchHits t = [] := List.eq_nil_iff_forall_not_mem.2 fun v hv => hno v ((s.mem_watchHits t v).1 hv)
    rw [State.watch, hnil]; rfl
  · have hf := hh.frame
    rw [hh.notices, hh.arbiter] at hf
    exact hf
  · rw [hh.watches, if_pos ((s.mem_watchHits t v).2 hv)]
  · rw [hh.watches, if_neg fun hm => hv ((s.mem_watchHits t v).1 hm)]
  · rw [hh.lanes]
  · rw [hh.lanes]
    simp only [heldBy, Bool.or_eq_true, Bool.and_eq_true, decide_eq_true_eq, List.any_eq_true, s.mem_watchHits t]

end Sys2Proof.Machine
end

section
/-! The Marker Decoder's reading of a unit, and what a marker write does (O42, O43). -/

namespace Sys2Proof.Machine

variable {s u : State} {n : Fin 8} {k : Nat}

/-! ## The check word -/

/-- The sum of a record's words in the words of the statements. -/
theorem wordSum_toNat (m : Nat) (bs : List Byte) (h : bs.length = 2 * m) :
    (wordSum bs).toNat = ((List.range m).map fun i => leField bs (2 * i) 2).sum % 65536 := by
  induction m generalizing bs with
  | zero => rw [List.length_eq_zero_iff.1 h]; rfl
  | succ m ih =>
    match bs, h with
    | a :: b :: bs, h =>
      have hlen : bs.length = 2 * m := by simp only [List.length_cons] at h; omega
      have htail (i : Nat) : leField (a :: b :: bs) (2 * (i + 1)) 2 = leField bs (2 * i) 2 := by
        rw [show 2 * (i + 1) = 2 * i + 1 + 1 by omega]; rfl
      have hhead : leField (a :: b :: bs) (2 * 0) 2 = a.toNat + 256 * b.toNat := by simp [leField, leNat]
      have ha := a.isLt
      have hb := b.isLt
      rw [List.range_succ_eq_map, List.map_cons, List.map_map, List.sum_cons, hhead, wordSum, BitVec.toNat_add, ih bs hlen,
        BitVec.toNat_ofNat, show ((fun i => leField (a :: b :: bs) (2 * i) 2) ∘ Nat.succ) = fun i => leField bs (2 * i) 2 from funext htail]
      omega

theorem wordSum_eq_zero_iff {bs : List Byte} (h : bs.length = 64) :
    wordSum bs = 0 ↔ ((List.range 32).map fun i => leField bs (2 * i) 2).sum % 65536 = 0 := by
  rw [← wordSum_toNat 32 bs h, ← BitVec.toNat_inj]; rfl

section
variable {bs : List Byte} {kind : Nat}

theorem decodeMarker_badCheck (hl : bs.length = 64) (h : ∀ kind, ¬markerOf bs kind) : decodeMarker bs = .error .badCheck :=
  if_pos fun e => h _ ⟨(wordSum_eq_zero_iff hl).1 e, rfl⟩

theorem decodeMarker_of (hl : bs.length = 64) (h : markerOf bs kind) : decodeMarker bs = markerFields (byteAt bs 0) bs :=
  if_neg fun hne => hne ((wordSum_eq_zero_iff hl).2 h.1)

/-! ## The fields by kind (R119, R120, R186) -/

theorem decodeMarker_badKind (hl : bs.length = 64) (h : markerOf bs kind) (hk : kind < 1 ∨ 5 < kind) :
    decodeMarker bs = .error .badKind := by
  obtain ⟨-, hkind⟩ := id h
  rw [decodeMarker_of hl h, markerFields]
  split
  next e => omega
  next e => omega
  next e => omega
  next e => omega
  next e => omega
  next => rfl

theorem tubePosOf_markerAt {p : TubePos} (h : markerAt bs p) : tubePosOf (byteAt bs 2) (byteAt bs 3) = some p :=
  tubePosOf_some h.1.symm h.2.symm

theorem directionOf_none {b : Byte} (h : 1 < b.toNat) : directionOf b = none := by
  unfold directionOf
  split
  next e => omega
  next e => omega
  next => rfl

theorem directionOf_code {b : Byte} {d : Direction} (h : b.toNat = d.code) : directionOf b = some d := by
  unfold directionOf
  rw [h]; cases d <;> rfl

theorem directionOf_some {b : Byte} (h : b.toNat ≤ 1) : ∃ d : Direction, b.toNat = d.code := by
  obtain h | h : b.toNat = 0 ∨ b.toNat = 1 := by omega
  · exact ⟨.push, h⟩
  · exact ⟨.pull, h⟩

/-- A marker of a kind whose fields are out of range (R120). -/
theorem decodeMarker_badField (hl : bs.length = 64) (h : markerOf bs kind) (h1 : 1 ≤ kind) (h5 : kind ≤ 5)
    (hbad : (kind ≤ 3 ∧ 7 < (byteAt bs 1).toNat) ∨ (kind ≠ 3 ∧ (127 < (byteAt bs 2).toNat ∨ 127 < (byteAt bs 3).toNat)) ∨
      (kind = 1 ∧ 1 < (byteAt bs 4).toNat)) : decodeMarker bs = .error .badField := by
  obtain ⟨-, hkind⟩ := id h
  have hlane (hb : 7 < (byteAt bs 1).toNat) : laneOf (byteAt bs 1).toNat = none := laneOf_none hb
  have hpos (hb : 127 < (byteAt bs 2).toNat ∨ 127 < (byteAt bs 3).toNat) : tubePosOf (byteAt bs 2) (byteAt bs 3) = none :=
    tubePosOf_none hb
  rw [decodeMarker_of hl h, markerFields]
  obtain rfl | rfl | rfl | rfl | rfl : kind = 1 ∨ kind = 2 ∨ kind = 3 ∨ kind = 4 ∨ kind = 5 := by omega
  · rw [hkind]
    obtain ⟨-, hb⟩ | ⟨-, hb⟩ | ⟨-, hb⟩ := hbad
    · simp only [hlane hb]
    · simp only [hpos hb]; cases laneOf (byteAt bs 1).toNat <;> rfl
    · simp only [directionOf_none hb]; cases laneOf (byteAt bs 1).toNat <;> cases tubePosOf (byteAt bs 2) (byteAt bs 3) <;> rfl
  · rw [hkind]
    obtain ⟨-, hb⟩ | ⟨-, hb⟩ | ⟨hb, -⟩ := hbad
    · simp only [hlane hb]
    · simp only [hpos hb]; cases laneOf (byteAt bs 1).toNat <;> rfl
    · omega
  · rw [hkind]
    obtain ⟨-, hb⟩ | ⟨hb, -⟩ | ⟨hb, -⟩ := hbad
    · simp only [hlane hb]
    · omega
    · omega
  · rw [hkind]
    obtain ⟨hb, -⟩ | ⟨-, hb⟩ | ⟨hb, -⟩ := hbad
    · omega
    · simp only [hpos hb]
    · omega
  · rw [hkind]
    obtain ⟨hb, -⟩ | ⟨-, hb⟩ | ⟨hb, -⟩ := hbad
    · omega
    · simp only [hpos hb]
    · omega

theorem decodeMarker_start {p : TubePos} {d : Direction} (hl : bs.length = 64) (h : markerOf bs 1) (hn : (byteAt bs 1).toNat = n.val)
    (hp : markerAt bs p) (hd : (byteAt bs 4).toNat = d.code) : decodeMarker bs = .ok (.tubeStart n p d) := by
  rw [decodeMarker_of hl h, markerFields, h.2]
  simp only [hn, laneOf_val, tubePosOf_markerAt hp, directionOf_code hd]

theorem decodeMarker_end {p : TubePos} (hl : bs.length = 64) (h : markerOf bs 2) (hn : (byteAt bs 1).toNat = n.val)
    (hp : markerAt bs p) : decodeMarker bs = .ok (.tubeEnd n p (markerFinal bs)) := by
  rw [decodeMarker_of hl h, markerFields, h.2]
  simp only [hn, laneOf_val, tubePosOf_markerAt hp]
  rfl

theorem decodeMarker_abandon (hl : bs.length = 64) (h : markerOf bs 3) (hn : (byteAt bs 1).toNat = n.val) :
    decodeMarker bs = .ok (.abandon n) := by
  rw [decodeMarker_of hl h, markerFields, h.2]
  simp only [hn, laneOf_val]

theorem decodeMarker_plug {p : TubePos} (hl : bs.length = 64) (h : markerOf bs kind) (hk : kind = 4 ∨ kind = 5) (hp : markerAt bs p) :
    decodeMarker bs = .ok (if kind = 4 then .plug p else .unplug p) := by
  obtain rfl | rfl := hk <;> rw [decodeMarker_of hl h, markerFields, h.2] <;> simp only [tubePosOf_markerAt hp] <;> rfl

/-! ## What a marker write does -/

/-- The state after a marker: MARKER_INVALID is posted where it gave a cause. -/
def markerOutcome (t : RigTxn) (unit : Nat) (n : Option (Fin 8)) (r : State × Option MarkerCause) : State :=
  r.2.elim r.1 fun c => r.1.post (invalidReport t n c unit)

variable {t : RigTxn} {w : State} {unit : Nat}

theorem State.markerWrite_error {c : MarkerCause} (h : decodeMarker bs = .error c) (w : State) (t : RigTxn) (unit : Nat) :
    w.markerWrite t.source unit bs = w.post (invalidReport t none c unit) := by rw [State.markerWrite, h]; rfl

theorem State.markerWrite_ok {m : Marker} (h : decodeMarker bs = .ok m) (w : State) (t : RigTxn) (unit : Nat) :
    w.markerWrite t.source unit bs = markerOutcome t unit m.lane (w.dispatchMarker t.source m) := by
  rw [State.markerWrite, h]
  simp only [markerOutcome]
  split
  next hd => rw [hd]; rfl
  next hd => rw [hd]; rfl

/-- A marker of a lane from another source than its marker source (R121). -/
theorem State.laneMarker_foreign {act : State × Option MarkerCause} {src : Source} (h : src ≠ (w.lane n).cfg.markerSource) :
    w.laneMarker src n act = (w, some .foreign) := if_pos h

theorem State.laneMarker_own {act : State × Option MarkerCause} {src : Source} (h : src = (w.lane n).cfg.markerSource) :
    w.laneMarker src n act = act := if_neg (not_not.2 h)

theorem State.plugAuthority_foreign {act : State × Option MarkerCause} {src : Source} (h : w.plugSet.getLsbD src.toNat = false) :
    w.plugAuthority src act = (w, some .foreign) := if_neg (by simp [h])

theorem State.plugAuthority_own {act : State × Option MarkerCause} {src : Source} (h : w.plugSet.getLsbD src.toNat = true) :
    w.plugAuthority src act = act := if_pos h

/-- A marker write that the rig port takes: decoded and forwarded at its own address (R116). -/
theorem exec_markerWrite (h : RigTaken s t) (hp : PortsSound s) (hw : w = s.takeEvent.watch t) (hm : WritesMarker s t unit bs) :
    ∃ u, exec (.rigPortTransaction t) s = .next u ∧ Joined s (w.markerWrite t.source unit bs) u (ownAddress t) := by
  have hroute : w.route t = (w.markerWrite t.source unit bs, ownAddress t) := by
    rw [State.route_engaged hw hm.engaged (classify_markerUnit hm.layout hm.inWindow hm.address)]
    simp only [State.actOn, hm.write]
    rw [if_pos (show bs.length = Config.unitBytes from hm.full)]; rfl
  have hj := exec_rigRoute h hp hw
  rwa [hroute] at hj

/-- Settles O42: the decoder's causes, then the authority's. -/
theorem invalidMarkerOnlyPosts : Obligations.InvalidMarkerOnlyPosts := by
  intro t s w unit bs hrig hports hw hm
  obtain ⟨u, hexec, hj⟩ := exec_markerWrite hrig hports hw hm
  have joins {v : State} (h : w.markerWrite t.source unit bs = v) : Joined s v u (ownAddress t) := h ▸ hj
  have hl := hm.full
  refine ⟨u, hexec, fun h => joins ?_, fun kind h hk => joins ?_, fun kind h h1 h5 hbad => joins ?_,
    fun kind n h h1 h3 hn hpos hdir hsrc => joins ?_, fun kind p h hk hpos hset => joins ?_⟩
  · exact State.markerWrite_error (decodeMarker_badCheck hl h) w t unit
  · exact State.markerWrite_error (decodeMarker_badKind hl h hk) w t unit
  · exact State.markerWrite_error (decodeMarker_badField hl h h1 h5 hbad) w t unit
  · obtain rfl | rfl | rfl : kind = 1 ∨ kind = 2 ∨ kind = 3 := by omega
    · obtain ⟨p, hp⟩ := hpos.resolve_left (by decide)
      obtain ⟨d, hd⟩ := directionOf_some (hdir rfl)
      rw [State.markerWrite_ok (decodeMarker_start hl h hn hp hd), State.dispatchMarker, State.laneMarker_foreign hsrc]; rfl
    · obtain ⟨p, hp⟩ := hpos.resolve_left (by decide)
      rw [State.markerWrite_ok (decodeMarker_end hl h hn hp), State.dispatchMarker, State.laneMarker_foreign hsrc]; rfl
    · rw [State.markerWrite_ok (decodeMarker_abandon hl h hn), State.dispatchMarker, State.laneMarker_foreign hsrc]; rfl
  · rw [State.markerWrite_ok (decodeMarker_plug hl h hk hpos)]
    obtain rfl | rfl := hk
    · rw [if_pos rfl, State.dispatchMarker, State.plugAuthority_foreign hset]; rfl
    · rw [if_neg (by decide), State.dispatchMarker, State.plugAuthority_foreign hset]; rfl

theorem State.plugMarker_loading {p : TubePos} {g : Plug} (h : w.loader.running = true) :
    w.plugMarker p g = (w, some .mapLoading) := if_pos h

theorem State.plugMarker_claimed {p : TubePos} {g : Plug} (h : w.loader.running = false) (hc : (w.tubeAt p.index).claim ≠ none) :
    w.plugMarker p g = (w, some .tubeInTest) := by rw [State.plugMarker, if_neg (by simp [h]), if_pos hc]

theorem State.plugMarker_free {p : TubePos} {g : Plug} (h : w.loader.running = false) (hc : (w.tubeAt p.index).claim = none) :
    w.plugMarker p g = (w.setTube p.index { w.tubeAt p.index with plug := g }, none) := by
  rw [State.plugMarker, if_neg (by simp [h]), if_neg (not_not.2 hc)]

/-- PLUG and UNPLUG from a source with authority. -/
theorem State.markerWrite_plug {p : TubePos} (hl : bs.length = 64) (h : markerOf bs kind) (hk : kind = 4 ∨ kind = 5) (hp : markerAt bs p)
    (hset : w.plugSet.getLsbD t.source.toNat = true) :
    w.markerWrite t.source unit bs =
      markerOutcome t unit none (w.plugMarker p (if kind = 4 then .plugged else .unplugged)) := by
  rw [State.markerWrite_ok (decodeMarker_plug hl h hk hp)]
  obtain rfl | rfl := hk
  · rw [if_pos rfl, if_pos rfl, State.dispatchMarker, State.plugAuthority_own hset]; rfl
  · rw [if_neg (by decide), if_neg (by decide), State.dispatchMarker, State.plugAuthority_own hset]; rfl

/-- Settles O43: the Tube Register's checks of a plug marker. -/
theorem plugMarkersSetPlugState : Obligations.PlugMarkersSetPlugState := by
  intro t s w unit bs kind p hrig hports hw hm h hk hp hset
  obtain ⟨u, hexec, hj⟩ := exec_markerWrite hrig hports hw hm
  rw [State.markerWrite_plug hm.full h hk hp hset] at hj
  refine ⟨u, hexec, fun hr => ?_, fun hr hc => ?_, fun hr hc => ?_⟩
  · rw [State.plugMarker_loading hr] at hj; exact hj
  · rw [State.plugMarker_claimed hr hc] at hj; exact hj
  · rw [State.plugMarker_free hr hc] at hj; exact hj

end

end Sys2Proof.Machine
end

section
/-! TUBE_START (O44, O45, O46). -/

namespace Sys2Proof.Machine

variable {s u : State} {n : Fin 8} {k : Nat} {bs : List Byte} {t : RigTxn} {w : State} {unit : Nat} {p : TubePos} {d : Direction}

/-! ## The state watched -/

/-- The state in which a transaction finds the blocks has its books right. -/
theorem Books.watched (hb : Books s) (hw : w = s.takeEvent.watch t) : Books w := by
  have h0 := hb.same SameBooks.takeEvent
  exact hw ▸ Moves.books (Moves.watch h0 t) h0

theorem TubesMatch.watched (ht : TubesMatch s) (hb : Books s) (hw : w = s.takeEvent.watch t) : TubesMatch w := by
  have h0 := hb.same SameBooks.takeEvent
  have h1 : Moves s (s.takeEvent.watch t) := (Relation.ReflTransGen.single (Move.keep SameBooks.takeEvent)).trans (Moves.watch h0 t)
  exact hw ▸ Change.tubesMatch (.moves h1) hb ht

/-! ## The checks of a start (R53, R56) -/

theorem State.startCheck_eq (w : State) (n : Fin 8) (p : TubePos) : w.startCheck n p = startRefusal w n p := by
  unfold State.startCheck startRefusal
  dsimp only
  split_ifs with h1 h2 h3 h4
  · rfl
  · rfl
  · rfl
  · obtain ⟨hne, hn⟩ := h4
    obtain ⟨m, hm⟩ := Option.ne_none_iff_exists'.1 hne
    rw [hm] at hn ⊢
    exact if_neg fun e => hn (by rw [e])
  · cases hc : (w.tubeAt p.index).claim with
    | none => rfl
    | some m =>
      have : m = n := by
        by_contra hne
        exact h4 ⟨by rw [hc]; simp, by rw [hc]; simpa using hne⟩
      exact if_pos this

/-- A TUBE_START from the lane's marker source is handed to its Lane Engine. -/
theorem State.markerWrite_start (hm : WritesMarker s t unit bs) (h : Sys2Proof.Machine.laneMarker w t bs 1 n) (hp : markerAt bs p)
    (hd : (byteAt bs 4).toNat = d.code) :
    w.markerWrite t.source unit bs = markerOutcome t unit (some n) (w.tubeStart n p d) := by
  obtain ⟨hk, hn, hsrc⟩ := h
  rw [State.markerWrite_ok (decodeMarker_start hm.full hk hn hp hd), State.dispatchMarker, State.laneMarker_own hsrc]; rfl

theorem State.tubeStart_disabled (h : (w.lane n).state = .disabled) : w.tubeStart n p d = (w, some .laneDisabled) := by
  rw [State.tubeStart, h]

theorem State.tubeStart_working (h : (w.lane n).state = .opened ∨ (w.lane n).state = .closing) :
    w.tubeStart n p d = (w.post (refusedReport n p .laneState), none) := by
  obtain h | h := h <;> rw [State.tubeStart, h] <;> rfl

theorem State.tubeStart_refused {c : RefuseCause} (h : (w.lane n).state = .armed ∨ (w.lane n).state = .waiting)
    (hc : startRefusal w n p = some c) : w.tubeStart n p d = (w.post (refusedReport n p c), none) := by
  rw [← State.startCheck_eq] at hc
  obtain h | h := h
  · rw [State.tubeStart, h]; simp only [hc]; rfl
  · rw [State.tubeStart, h]; simp only [hc]; rfl

theorem State.tubeStart_armed (h : (w.lane n).state = .armed) (hc : startRefusal w n p = none) :
    w.tubeStart n p d = ((w.claimTube n p).requestAdmission n p d, none) := by
  rw [← State.startCheck_eq] at hc
  rw [State.tubeStart, h]; simp only [hc]

theorem State.tubeStart_waiting (h : (w.lane n).state = .waiting) (hc : startRefusal w n p = none) :
    w.tubeStart n p d = (w.replaceHeld n p d, none) := by
  rw [← State.startCheck_eq] at hc
  rw [State.tubeStart, h]; simp only [hc]

/-! ## A start admitted at once -/

theorem State.freeSlot_claimTube : (w.claimTube n p).freeSlot [] = w.freeSlot [] := rfl

theorem State.requestAdmission_opens (hq : w.pool.queue = []) (hu : (w.lane n).cfg.reservation ≤ w.pool.freeCount - w.pool.reserved)
    (hk : opensAt w k) : (w.claimTube n p).requestAdmission n p d =
      ((w.claimTube n p).countOut n).openTake { lane := n, slot := k, pos := p, direction := d } := by
  have hcond : (w.claimTube n p).pool.queue = [] ∧ ((w.claimTube n p).lane n).cfg.reservation ≤ (w.claimTube n p).pool.unreserved :=
    ⟨hq, hu⟩
  rw [State.requestAdmission, if_pos hcond, State.freeSlot_claimTube, State.freeSlot_iff.2 hk]

theorem State.requestAdmission_full (hq : w.pool.queue = []) (hu : (w.lane n).cfg.reservation ≤ w.pool.freeCount - w.pool.reserved)
    (hk : ¬∃ k, opensAt w k) : (w.claimTube n p).requestAdmission n p d =
      ((w.claimTube n p).post (refusedReport n p .tableFull)).clearClaim p := by
  have hcond : (w.claimTube n p).pool.queue = [] ∧ ((w.claimTube n p).lane n).cfg.reservation ≤ (w.claimTube n p).pool.unreserved :=
    ⟨hq, hu⟩
  rw [State.requestAdmission, if_pos hcond, State.freeSlot_claimTube, State.freeSlot_none hk]; rfl

theorem State.requestAdmission_defers (h : w.pool.queue ≠ [] ∨ w.pool.freeCount - w.pool.reserved < (w.lane n).cfg.reservation) :
    (w.claimTube n p).requestAdmission n p d = (w.claimTube n p).deferStart n p d := by
  have hcond : ¬((w.claimTube n p).pool.queue = [] ∧ ((w.claimTube n p).lane n).cfg.reservation ≤ (w.claimTube n p).pool.unreserved) := by
    rintro ⟨hq, hu⟩
    obtain h | h := h
    · exact h hq
    · exact absurd h (Nat.not_lt.2 hu)
  rw [State.requestAdmission, if_neg hcond]

theorem latchFallen_tubes (x : State) (ts : List (Nat × Tube)) : latchFallen { x with tubes := ts } = { latchFallen x with tubes := ts } := by
  unfold latchFallen
  dsimp only
  split <;> rfl

theorem latchFallen_frame (x : State) : latchFallen x = { x with
    pool := (latchFallen x).pool, notices := (latchFallen x).notices, arbiter := (latchFallen x).arbiter } := by
  unfold latchFallen; split <;> rfl

/-- The reservation counted out for a claimed tube's start (R78, R90). -/
theorem State.countOut_claimTube (hl : w.pool.armed = false → w.pool.freeCount - w.pool.reserved < w.pool.highMark) :
    (w.claimTube n p).countOut n =
      { latchFallen { w with pool := { w.pool with reserved := w.pool.reserved + (w.lane n).cfg.reservation } } with
        tubes := (w.claimTube n p).tubes } := by
  rw [State.countOut, State.latchTest_fallen, ← latchFallen_tubes]
  · rfl
  · intro ha
    have h : w.pool.freeCount - w.pool.reserved < w.pool.highMark := hl ha
    show w.pool.freeCount - (w.pool.reserved + (w.lane n).cfg.reservation) < w.pool.highMark
    omega

/-- Settles O44: the reservation counted out, then the opening. -/
theorem tubeStartOpensTake : Obligations.TubeStartOpensTake := by
  intro t s w unit bs n p d k hrig hports hw hm hb hlm hpos hdir hst hc hq hu hk
  replace hb := hb.watched hw
  obtain ⟨u, hexec, hj⟩ := exec_markerWrite hrig hports hw hm
  obtain ⟨y, hy⟩ : ∃ y, y = (w.claimTube n p).countOut n := ⟨_, rfl⟩
  have hx : w.markerWrite t.source unit bs = y.openTake { lane := n, slot := k, pos := p, direction := d } := by
    rw [State.markerWrite_start hm hlm hpos hdir, State.tubeStart_armed hst hc, State.requestAdmission_opens hq hu hk, ← hy]; rfl
  rw [State.countOut_claimTube hb.latch.disarmed] at hy
  have hfall := latchFallen_frame { w with pool := { w.pool with reserved := w.pool.reserved + (w.lane n).cfg.reservation } }
  have htake (j) : y.takeAt j = w.takeAt j := by rw [hy, hfall]; rfl
  have hlane (m) : y.lane m = w.lane m := by rw [hy, hfall]; rfl
  have hser : y.serialCounter = w.serialCounter := by rw [hy, hfall]
  have htakes : y.takesForm := by rw [State.takesForm, hy, hfall]; exact hb.takesForm
  have hform : (w.claimTube n p).tubesForm := State.tubesForm_setTube hb.tubesForm _ p.index_lt
  have htubes : y.tubesForm := by rw [State.tubesForm, hy]; exact hform
  have htube (i) : y.tubeAt i = if i = p.index then { w.tubeAt p.index with claim := some n } else w.tubeAt i := by
    have h : y.tubeAt i = (w.claimTube n p).tubeAt i := by rw [hy]; rfl
    rw [h]; exact State.tubeAt_setTube hb.tubesForm _ i _
  rw [hx] at hj
  refine ⟨u, _, hexec, hj, ?_, ?_, fun j hjk => ?_, ?_, fun i hi => ?_, ?_, fun m hmn => ?_⟩
  · generalize hxg : y.openTake { lane := n, slot := k, pos := p, direction := d } = x
    have hxe : x = { y with takes := x.takes, tubes := x.tubes, lanes := x.lanes, serialCounter := w.serialCounter + 1 } := by
      rw [← hxg, ← hser]; rfl
    rw [hxe, hy]
  · rw [State.takeAt_openTake htakes, if_pos rfl, hser, hlane]; rfl
  · rw [State.takeAt_openTake htakes, if_neg hjk, htake]
  · rw [State.tubeAt_openTake htubes, if_pos rfl, htube, if_pos rfl]; rfl
  · rw [State.tubeAt_openTake htubes, if_neg hi, htube, if_neg hi]
  · rw [State.lane_openTake, if_pos rfl, hlane]; rfl
  · rw [State.lane_openTake, if_neg hmn, hlane]

/-! ## A start that opens nothing -/

/-- A claim that was none is none again. -/
theorem Tube.claim_none {x : Tube} (h : x.claim = none) : ({ x with claim := none } : Tube) = x := by
  obtain ⟨⟩ := x; simp only at h; rw [h]

/-- Settles O45. -/
theorem tubeStartRefusedChangesNothing : Obligations.TubeStartRefusedChangesNothing := by
  intro t s w unit bs n p d hrig hports hw hm hb hlm hpos hdir
  replace hb := hb.watched hw
  obtain ⟨u, hexec, hj⟩ := exec_markerWrite hrig hports hw hm
  rw [State.markerWrite_start hm hlm hpos hdir] at hj
  refine ⟨u, hexec, fun hst => ?_, fun hst => ?_, fun c hst hc => ?_, fun hst hc hclaim hq hu hk => ?_⟩
  · rw [State.tubeStart_disabled hst] at hj; exact hj
  · rw [State.tubeStart_working hst] at hj; exact hj
  · rw [State.tubeStart_refused hst hc] at hj; exact hj
  · rw [State.tubeStart_armed hst hc, State.requestAdmission_full hq hu hk] at hj
    refine ⟨_, hj, rfl, fun i => ?_⟩
    have hform : (w.claimTube n p).tubesForm := State.tubesForm_setTube hb.tubesForm _ p.index_lt
    have hset := State.tubeAt_setTube hb.tubesForm p.index
    refine (State.tubeAt_setTube (s := (w.claimTube n p).post (refusedReport n p .tableFull)) hform p.index i _).trans ?_
    split
    next e =>
      have hself : ((w.claimTube n p).post (refusedReport n p .tableFull)).tubeAt p.index = { w.tubeAt p.index with claim := some n } :=
        (hset p.index _).trans (if_pos rfl)
      rw [hself, e]
      exact Tube.claim_none hclaim
    next e => exact (hset i _).trans (if_neg e)

/-! ## A start that waits -/

/-- The tubes once the held start on q of lane n has become one on p (R56). -/
theorem State.replaceHeld_eq {q : TubePos} {e : Direction} (hh : (w.lane n).held = some (q, e)) :
    w.replaceHeld n p d = { (w.setLane n { w.lane n with held := some (p, d) }).post (refusedReport n q .replaced) with
      tubes := (if q = p then w.claimTube n p else (w.claimTube n p).clearClaim q).tubes } := by
  have hpost : (w.claimTube n p).postHeld n .replaced = (w.claimTube n p).post (refusedReport n q .replaced) := by
    have hh' : ((w.claimTube n p).lane n).held = some (q, e) := hh
    rw [State.postHeld, hh']; rfl
  rw [State.replaceHeld]
  simp only [hh, hpost]
  split <;> rfl

/-- Settles O46. -/
theorem tubeStartDefersOrReplaces : Obligations.TubeStartDefersOrReplaces := by
  intro t s w unit bs n p d hrig hports hw hm hb hlm hpos hdir hc
  replace hb := hb.watched hw
  obtain ⟨u, hexec, hj⟩ := exec_markerWrite hrig hports hw hm
  rw [State.markerWrite_start hm hlm hpos hdir] at hj
  refine ⟨u, hexec, fun hst hwait => ?_, fun q e hst hh => ?_⟩
  · rw [State.tubeStart_armed hst hc, State.requestAdmission_defers hwait] at hj; exact hj
  · rw [State.tubeStart_waiting hst hc, State.replaceHeld_eq hh] at hj
    have hset := State.tubeAt_setTube hb.tubesForm p.index
    have hform : (w.claimTube n p).tubesForm := State.tubesForm_setTube hb.tubesForm _ p.index_lt
    have hclaim (i) : (w.claimTube n p).tubeAt i = if i = p.index then { w.tubeAt p.index with claim := some n } else w.tubeAt i :=
      hset i _
    have htube (i) : (if q = p then w.claimTube n p else (w.claimTube n p).clearClaim q).tubeAt i =
        if i = p.index then { w.tubeAt p.index with claim := some n }
        else if i = q.index then { w.tubeAt q.index with claim := none } else w.tubeAt i := by
      by_cases hqp : q = p
      · rw [if_pos hqp, hclaim, hqp]
        split
        · rfl
        · rfl
      · have hne : p.index ≠ q.index := fun e => hqp (TubePos.index_inj e.symm)
        rw [if_neg hqp]
        refine (State.tubeAt_setTube hform q.index i _).trans ?_
        rw [hclaim, hclaim, if_neg hne.symm]
        by_cases hi : i = p.index
        · rw [if_pos hi, if_pos hi, if_neg fun h => hne (hi.symm.trans h)]
        · rw [if_neg hi, if_neg hi]
    refine ⟨_, hj, rfl, (htube p.index).trans (if_pos rfl), fun hne => ?_, fun i h1 h2 => ?_⟩
    · exact (htube q.index).trans ((if_neg hne).trans (if_pos rfl))
    · exact (htube i).trans ((if_neg h1).trans (if_neg h2))

end Sys2Proof.Machine
end

section
/-! What seal processing does not read: the outputs, the lines and the lane's timers. It commutes with their writes. -/

namespace Sys2Proof.Machine

variable {s t u : State} {n : Fin 8} {k : Nat}

/-! ## Outputs and lines -/

/-- The outputs and the lines are written. -/
def State.aside (s : State) (o : Outputs) (v : Vector LaneLine 8) : State := { s with out := o, laneLines := v }

section
variable (o : Outputs) (v : Vector LaneLine 8)

theorem State.latchTest_aside (q : Bool) : (s.aside o v).latchTest q = (s.latchTest q).aside o v := by
  have hp : (s.aside o v).pool = s.pool := rfl
  unfold State.latchTest
  rw [hp]
  split_ifs <;> rfl

theorem State.admitHead_aside (h : Fin 8) (rest : List (Fin 8)) : (s.aside o v).admitHead h rest = (s.admitHead h rest).aside o v :=
  State.latchTest_aside (s := { s with pool := { s.pool with queue := rest, reserved := s.pool.reserved + (s.lane h).cfg.reservation } }) o v false

theorem State.refuseHeld_aside (h : Fin 8) (c : RefuseCause) : (s.aside o v).refuseHeld h c = (s.refuseHeld h c).aside o v := by
  have hl : (s.aside o v).lane h = s.lane h := rfl
  cases hh : (s.lane h).held with
  | some pd => rw [State.refuseHeld_eq c (p := pd.1) (d := pd.2) (hl ▸ hh), State.refuseHeld_eq c (p := pd.1) (d := pd.2) hh]; rfl
  | none =>
    unfold State.refuseHeld State.dropHeld
    have hpost : s.postHeld h c = s := by rw [State.postHeld, hh]
    have hpost' : (s.aside o v).postHeld h c = s.aside o v := by rw [State.postHeld, hl, hh]
    have hrel : (s.leaveQueue h).releaseHeld h = s.leaveQueue h := by
      rw [State.releaseHeld, show (s.leaveQueue h).lane h = s.lane h from rfl, hh]
    have hrel' : ((s.aside o v).leaveQueue h).releaseHeld h = (s.aside o v).leaveQueue h := by
      rw [State.releaseHeld, show ((s.aside o v).leaveQueue h).lane h = s.lane h from rfl, hh]
    rw [hpost, hpost', hrel, hrel']
    rfl

theorem State.admitLoop_aside (q : List (Fin 8)) (os : List Opening) : State.admitLoop q os (s.aside o v) =
    ((State.admitLoop q os s).1.aside o v, (State.admitLoop q os s).2) := by
  induction q generalizing s os with
  | nil => rfl
  | cons h rest ih =>
    have hl : (s.aside o v).lane h = s.lane h := rfl
    have hp : (s.aside o v).pool = s.pool := rfl
    have hf (g : List Nat) : (s.aside o v).freeSlot g = s.freeSlot g := rfl
    rw [State.admitLoop, State.admitLoop, hl, hp, hf]
    split
    · rfl
    · cases s.freeSlot (os.map Opening.slot) with
      | none => simp only [State.refuseHeld_aside, ih]
      | some k =>
        cases (s.lane h).held with
        | none => simp only [State.refuseHeld_aside, ih]
        | some pd => simp only [State.admitHead_aside, ih]

theorem State.openAll_aside (os : List Opening) : (s.aside o v).openAll os = (s.openAll os).aside o v := by
  induction os generalizing s with
  | nil => rfl
  | cons a os ih => rw [State.openAll_cons, State.openAll_cons, ← ih]; rfl

theorem State.admitDecide_aside : (s.aside o v).admitDecide = (s.admitDecide.1.aside o v, s.admitDecide.2) :=
  State.admitLoop_aside o v _ []

theorem State.latchAfter_aside (b : Nat) (q : Bool) : (s.aside o v).latchAfter b q = (s.latchAfter b q).aside o v := by
  unfold State.latchAfter State.latchTest
  simp only [apply_ite (fun x : State => x.aside o v)]
  rfl

theorem State.sealReady_aside (cause : CloseCause) (q : Bool) : (s.aside o v).sealReady n k cause q = (s.sealReady n k cause q).aside o v := by
  set x := s.setTake k ((s.takeAt k).closed cause (s.lane n).track.parser.midBlock (s.expectedOf (s.takeAt k))) with hx
  exact State.latchAfter_aside (s := { x with pool := { x.pool with reserved := x.pool.reserved - (s.takeAt k).remaining } }) o v
    x.pool.unreserved q

theorem State.sealEnd_aside (cause : CloseCause) (q : Bool) : (s.aside o v).sealEnd k cause q = (s.sealEnd k cause q).aside o v := by
  have hs (x : State) (y : Take) : (x.aside o v).sealTube y = (x.sealTube y).aside o v := by
    unfold State.sealTube; split <;> rfl
  have hk : (s.aside o v).takeAt k = s.takeAt k := rfl
  have hm : (s.aside o v).rejectMask = s.rejectMask := rfl
  have hset (y : Take) : (s.aside o v).setTake k y = (s.setTake k y).aside o v := rfl
  unfold State.sealEnd
  simp only [hk, hm, hset, hs]
  split <;> rfl

theorem State.sealMost_aside (cause : CloseCause) (q : Bool) : (s.aside o v).sealMost n k cause q = (s.sealMost n k cause q).aside o v := by
  rw [State.sealMost, State.sealReady_aside, State.admitDecide_aside, State.sealEnd_aside, State.openAll_aside]; rfl

end

/-! ## The lane -/

section
variable {l : Lane}

theorem State.setLane_comm (s : State) {n m : Fin 8} (l x : Lane) (h : m ≠ n) : (s.setLane n l).setLane m x = (s.setLane m x).setLane n l := by
  have hne : n.val ≠ m.val := fun e => h (Fin.ext e.symm)
  have hset : (s.lanes.set n l).set m x = (s.lanes.set m x).set n l := Vector.set_comm l x hne
  show ({ s with lanes := (s.lanes.set n l).set m x } : State) = { s with lanes := (s.lanes.set m x).set n l }
  rw [hset]

theorem State.latchTest_setLane (q : Bool) : (s.setLane n l).latchTest q = (s.latchTest q).setLane n l := by
  have hp : (s.setLane n l).pool = s.pool := rfl
  unfold State.latchTest
  rw [hp]
  split_ifs <;> rfl

theorem State.admitHead_setLane {h : Fin 8} (hn : h ≠ n) (rest : List (Fin 8)) :
    (s.setLane n l).admitHead h rest = (s.admitHead h rest).setLane n l := by
  unfold State.admitHead
  rw [State.lane_setLane_ne _ _ hn]
  exact State.latchTest_setLane (s := { s with pool := { s.pool with queue := rest, reserved := s.pool.reserved + (s.lane h).cfg.reservation } }) false

theorem State.heldRefused_setLane {h : Fin 8} (hn : h ≠ n) (p : TubePos) (c : RefuseCause) :
    heldRefused (s.setLane n l) h p c = (heldRefused s h p c).setLane n l := by
  unfold heldRefused
  rw [State.lane_setLane_ne _ _ hn]
  exact congrArg (·.post (refusedReport h p c)) (State.setLane_comm
    ({ s with pool := { s.pool with queue := s.pool.queue.filter (· ≠ h) } }.unclaim p) l (laneStoodDown (s.lane h)) hn)

/-- The decisions of an admission check do not read a lane outside the queue. -/
theorem State.admitLoop_setLane (q : List (Fin 8)) (os : List Opening) (hq : QueueReady s q) (hn : n ∉ q) :
    State.admitLoop q os (s.setLane n l) = ((State.admitLoop q os s).1.setLane n l, (State.admitLoop q os s).2) := by
  induction q generalizing s os with
  | nil => rfl
  | cons h rest ih =>
    rw [List.mem_cons, not_or] at hn
    have hne : h ≠ n := Ne.symm hn.1
    obtain ⟨p, d, hh⟩ := hq.held h (by simp)
    have hl : (s.setLane n l).lane h = s.lane h := State.lane_setLane_ne _ _ hne
    have hp : (s.setLane n l).pool = s.pool := rfl
    have hf (g : List Nat) : (s.setLane n l).freeSlot g = s.freeSlot g := rfl
    rw [State.admitLoop, State.admitLoop, hl, hp, hf]
    split
    · rfl
    · rw [hh]
      cases s.freeSlot (os.map Opening.slot) with
      | none =>
        simp only [State.refuseHeld_eq .tableFull (hl ▸ hh), State.refuseHeld_eq .tableFull hh, State.heldRefused_setLane hne]
        exact ih _ (hq.heldRefused p .tableFull) hn.2
      | some k =>
        simp only [State.admitHead_setLane hne]
        exact ih _ hq.admitHead hn.2

theorem State.openAll_setLane {os : List Opening} (hn : ∀ o ∈ os, o.lane ≠ n) : (s.setLane n l).openAll os = (s.openAll os).setLane n l := by
  induction os generalizing s with
  | nil => rfl
  | cons a os ih =>
    have ha : a.lane ≠ n := hn a (by simp)
    rw [State.openAll_cons, State.openAll_cons, ← ih fun o ho => hn o (by simp [ho])]
    refine congrArg (State.openAll · os) ?_
    have hl : (s.setLane n l).lane a.lane = s.lane a.lane := State.lane_setLane_ne _ _ ha
    unfold State.openTake
    rw [hl]
    exact State.setLane_comm ((({ s with serialCounter := s.serialCounter + 1 } : State).setTake a.slot _).setTube a.pos.index _) l _ ha

theorem State.latchAfter_setLane (b : Nat) (q : Bool) : (s.setLane n l).latchAfter b q = (s.latchAfter b q).setLane n l :=
  (State.latchAfter_setLanes (s.lanes.set n l) s.laneLines b q).trans (by rw [State.latchAfter_frame]; rfl)

theorem State.sealReady_setLane (hl : l.track = (s.lane n).track) (cause : CloseCause) (q : Bool) :
    (s.setLane n l).sealReady n k cause q = (s.sealReady n k cause q).setLane n l := by
  set x := s.setTake k ((s.takeAt k).closed cause (s.lane n).track.parser.midBlock (s.expectedOf (s.takeAt k))) with hx
  have h := State.latchAfter_setLane (l := l) (n := n)
    (s := { x with pool := { x.pool with reserved := x.pool.reserved - (s.takeAt k).remaining } }) x.pool.unreserved q
  unfold State.sealReady
  rw [State.lane_setLane_self, hl]
  exact h

theorem State.sealEnd_setLane (cause : CloseCause) (q : Bool) : (s.setLane n l).sealEnd k cause q = (s.sealEnd k cause q).setLane n l := by
  have hs (x : State) (y : Take) : (x.setLane n l).sealTube y = (x.sealTube y).setLane n l := by
    unfold State.sealTube; split <;> rfl
  have hset (y : Take) : (s.setLane n l).setTake k y = (s.setTake k y).setLane n l := rfl
  unfold State.sealEnd
  simp only [State.takeAt_setLane, State.setLane_rejectMask, hset, hs]
  split <;> rfl

/-- A seal reads of its lane the parser alone. -/
theorem State.sealMost_setLane (hb : Books s) (hk : (s.lane n).current = some k) (hl : l.track = (s.lane n).track) (cause : CloseCause) (q : Bool) :
    (s.setLane n l).sealMost n k cause q = (s.sealMost n k cause q).setLane n l := by
  obtain ⟨hb', hc⟩ := hb.sealReady hk cause q
  obtain ⟨-, -, -, -, hlanes, -⟩ := hb.sealReady_decide hk cause q
  have hnq : n ∉ (s.sealReady n k cause q).pool.queue := fun hm => by
    have hw := (hb'.queue.queued n).1 hm
    have hr := (hb'.current hc).2.2
    simp [Lane.recording, hw] at hr
  have hdec : ((s.sealReady n k cause q).setLane n l).admitDecide =
      ((s.sealReady n k cause q).admitDecide.1.setLane n l, (s.sealReady n k cause q).admitDecide.2) :=
    State.admitLoop_setLane _ [] hb'.queueReady hnq
  rw [State.sealMost, State.sealReady_setLane hl, hdec, State.sealEnd_setLane, State.openAll_setLane hlanes]; rfl

end

end Sys2Proof.Machine
end

section
/-! Seal processing in the words of the statements (R31–R35): `SealedBy`. -/

namespace Sys2Proof.Machine

variable {s t u : State} {n : Fin 8} {k : Nat}

/-! ## The take of a seal and its admission check -/

section
variable {x : Take}

theorem State.latchTest_setTake (q : Bool) : (s.setTake k x).latchTest q = (s.latchTest q).setTake k x := by
  have hp : (s.setTake k x).pool = s.pool := rfl
  unfold State.latchTest
  rw [hp]
  split_ifs <;> rfl

theorem State.admitHead_setTake (h : Fin 8) (rest : List (Fin 8)) :
    (s.setTake k x).admitHead h rest = (s.admitHead h rest).setTake k x :=
  State.latchTest_setTake (s := { s with pool := { s.pool with queue := rest, reserved := s.pool.reserved + (s.lane h).cfg.reservation } }) false

theorem State.freeSlot_setTake (hf : s.takesForm) (hk : (s.takeAt k).state ≠ .free) (hx : x.state ≠ .free) (g : List Nat) :
    (s.setTake k x).freeSlot g = s.freeSlot g := by
  have hsame (j : Nat) : decide (((s.setTake k x).takeAt j).state = .free) = decide ((s.takeAt j).state = .free) := by
    rw [State.takeAt_setTake hf]
    split
    next e => rw [e]; simp [hk, hx]
    next => rfl
  unfold State.freeSlot
  simp only [hsame, State.setTake_serialCounter]

/-- The decisions of an admission check do not read a take that is not FREE. -/
theorem State.admitLoop_setTake (q : List (Fin 8)) (os : List Opening) (hf : s.takesForm) (hq : QueueReady s q)
    (hk : (s.takeAt k).state ≠ .free) (hx : x.state ≠ .free) :
    State.admitLoop q os (s.setTake k x) = ((State.admitLoop q os s).1.setTake k x, (State.admitLoop q os s).2) := by
  induction q generalizing s os with
  | nil => rfl
  | cons h rest ih =>
    obtain ⟨p, d, hh⟩ := hq.held h (by simp)
    have hl : (s.setTake k x).lane h = s.lane h := rfl
    have hh' : ((s.setTake k x).lane h).held = some (p, d) := hh
    have hp : (s.setTake k x).pool = s.pool := rfl
    have hrefuse : (s.setTake k x).refuseHeld h .tableFull = (heldRefused s h p .tableFull).setTake k x :=
      State.refuseHeld_eq .tableFull hh'
    rw [State.admitLoop, State.admitLoop, hl, hp, State.freeSlot_setTake hf hk hx]
    split
    · rfl
    · rw [hh]
      cases s.freeSlot (os.map Opening.slot) with
      | none =>
        simp only [hrefuse, State.refuseHeld_eq .tableFull hh]
        exact ih (s := heldRefused s h p .tableFull) _ hf (hq.heldRefused p .tableFull) hk
      | some k' =>
        simp only [State.admitHead_setTake]
        exact ih (s := s.admitHead h rest) _ (by rw [State.admitHead_frame]; exact hf) hq.admitHead (by rw [State.takeAt_admitHead]; exact hk)

end

/-- What the decisions of an admission check leave and post. -/
structure Decides (q : List (Fin 8)) (os : List Opening) (s : State) (r : State × List Opening) : Prop where
  tubes : ∀ i, (∀ n ∈ q, ∀ p d, (s.lane n).held = some (p, d) → p.index ≠ i) → r.1.tubeAt i = s.tubeAt i
  starts : ∀ o ∈ r.2, o ∈ os ∨ (o.lane ∈ q ∧ (s.lane o.lane).held = some (o.pos, o.direction))
  posts : ∃ before : List Report, (∀ r ∈ before, r.kind = .poolLow ∨ (r.kind = .startRefused ∧ r.cause = some (.refused .tableFull))) ∧
    r.1.notices = before.foldl NoticeWriter.create s.notices

theorem Decides.refl (q : List (Fin 8)) (os : List Opening) (s : State) : Decides q os s (s, os) :=
  ⟨fun _ _ => rfl, fun _ ho => .inl ho, [], by simp, rfl⟩

theorem State.latchTest_notices (s : State) (q : Bool) : (s.latchTest q).notices = s.notices ∨
    (s.latchTest q).notices = s.notices.create (Report.poolLow s.pool.unreserved) := by
  unfold State.latchTest
  split
  · split
    · cases q
      · exact .inr rfl
      · exact .inl rfl
    · exact .inl rfl
  · split <;> exact .inl rfl

theorem State.latchTest_posts (s : State) (q : Bool) : ∃ before : List Report, (∀ r ∈ before, r.kind = .poolLow) ∧
    (s.latchTest q).notices = before.foldl NoticeWriter.create s.notices := by
  obtain h | h := s.latchTest_notices q
  · exact ⟨[], by simp, by rw [h]; rfl⟩
  · exact ⟨[Report.poolLow s.pool.unreserved], by simp [Report.poolLow, Report.blank], by rw [h]; rfl⟩

theorem State.admitHead_posts (s : State) (h : Fin 8) (rest : List (Fin 8)) : ∃ before : List Report, (∀ r ∈ before, r.kind = .poolLow) ∧
    (s.admitHead h rest).notices = before.foldl NoticeWriter.create s.notices :=
  State.latchTest_posts { s with pool := { s.pool with queue := rest, reserved := s.pool.reserved + (s.lane h).cfg.reservation } } false

theorem State.admitLoop_leaves (q : List (Fin 8)) (os : List Opening) (hf : s.Formed) (hq : QueueReady s q) :
    Decides q os s (State.admitLoop q os s) := by
  induction q generalizing s os with
  | nil => exact .refl _ _ _
  | cons h rest ih =>
    obtain ⟨hr, -⟩ := List.nodup_cons.1 hq.nodup
    obtain ⟨p, d, hh⟩ := hq.held h (by simp)
    rw [State.admitLoop]
    split
    · exact .refl _ _ _
    · rw [hh]
      cases s.freeSlot (os.map Opening.slot) with
      | none =>
        simp only [State.refuseHeld_eq .tableFull hh]
        obtain ⟨h1, h2, before, h3, h4⟩ := ih (s := heldRefused s h p .tableFull) os (hf.heldRefused h p .tableFull) (hq.heldRefused p .tableFull)
        have hlane (m : Fin 8) (hm : m ∈ rest) : (heldRefused s h p .tableFull).lane m = s.lane m := by
          rw [State.lane_heldRefused, if_neg (show m ≠ h from fun e => hr (e ▸ hm))]
        refine ⟨fun i hi => ?_, fun o ho => ?_, refusedReport h p .tableFull :: before, fun r hmem => ?_, h4⟩
        · rw [h1 i fun m hm p' d' hp' => hi m (by simp [hm]) p' d' (by rwa [hlane m hm] at hp')]
          exact (State.tubeAt_setTube (s := { s with pool := { s.pool with queue := s.pool.queue.filter (· ≠ h) } }) hf.2 _ i _).trans
            (if_neg fun e => hi h (by simp) p d hh e.symm)
        · obtain ho | ⟨ho, hp'⟩ := h2 o ho
          · exact .inl ho
          · exact .inr ⟨by simp [ho], by rwa [hlane _ ho] at hp'⟩
        · obtain rfl | hmem := List.mem_cons.1 hmem
          · exact .inr ⟨rfl, rfl⟩
          · exact h3 r hmem
      | some k =>
        obtain ⟨h1, h2, before, h3, h4⟩ := ih (s := s.admitHead h rest) (os ++ [{ lane := h, slot := k, pos := p, direction := d }])
          (hf.admitHead h rest) hq.admitHead
        obtain ⟨first, h5, h6⟩ := s.admitHead_posts h rest
        refine ⟨fun i hi => ?_, fun o ho => ?_, first ++ before, fun r hmem => ?_, ?_⟩
        · rw [← State.tubeAt_admitHead s h rest i]
          exact h1 i fun m hm p' d' hp' => hi m (by simp [hm]) p' d' (by rwa [State.lane_admitHead] at hp')
        · obtain ho | ⟨ho, hp'⟩ := h2 o ho
          · obtain ho | ho := List.mem_append.1 ho
            · exact .inl ho
            · rw [List.mem_singleton.1 ho]; exact .inr ⟨by simp, hh⟩
          · exact .inr ⟨by simp [ho], by rwa [State.lane_admitHead] at hp'⟩
        · obtain hmem | hmem := List.mem_append.1 hmem
          · exact .inl (h5 r hmem)
          · exact h3 r hmem
        · rw [List.foldl_append, ← h6]; exact h4

/-! ## The record of the sealed take -/

theorem Take.sealFlags_eq (s : State) (n : Fin 8) (k : Nat) (cause : CloseCause) :
    (s.takeAt k).sealFlags cause (s.lane n).track.parser.midBlock (s.expectedOf (s.takeAt k)) = Sys2Proof.Machine.sealFlags s n k cause := by
  have hadd (f : Flags) (c : Bool) (g : Flag) : Flags.addIf f c g = f ||| if c = true then g.set else 0 := by
    cases c <;> simp [Flags.addIf, Flags.add]
  unfold Take.sealFlags Sys2Proof.Machine.sealFlags State.expectedOf
  simp only [hadd]
  congr 1
  · congr 1
    · cases cause <;> simp [CloseCause.flag, Flags.add]
    · cases (s.lane n).track.parser <;> rfl
  · cases (s.takeAt k).tube with
    | none => rfl
    | some p => simp only [decide_eq_true_eq]

/-- The take closed and judged is the sealed take of the statements (R31–R33). -/
theorem Take.judged_closed (s : State) (n : Fin 8) (k : Nat) (cause : CloseCause) :
    ((s.takeAt k).closed cause (s.lane n).track.parser.midBlock (s.expectedOf (s.takeAt k))).judged s.rejectMask = sealOf s n k cause := by
  unfold Take.judged Take.closed sealOf
  dsimp only
  rw [Take.sealFlags_eq]
  split
  next h => simp [h]
  next h => rw [decide_eq_true h, Bool.or_true]

/-- A tube that no opening is of is as it was. -/
theorem State.tubeAt_openAll_ne (h : s.Formed) {os : List Opening} (hs : ∀ o ∈ os, o.slot < Config.takeSlots) {i : Nat}
    (hi : ∀ o ∈ os, o.pos.index ≠ i) : (s.openAll os).tubeAt i = s.tubeAt i := by
  induction os generalizing s with
  | nil => rfl
  | cons o os ih =>
    rw [State.openAll_cons, ih (h.openTake (hs o (by simp))) (fun o' ho' => hs o' (by simp [ho'])) fun o' ho' => hi o' (by simp [ho']),
      State.tubeAt_openTake h.2, if_neg (Ne.symm (hi o (by simp)))]

/-! ## The seal -/

theorem Books.sealReady_eq (h : Books s) (cause : CloseCause) (q : Bool) : s.sealReady n k cause q =
    (reservationReturned s k).setTake k ((s.takeAt k).closed cause (s.lane n).track.parser.midBlock (s.expectedOf (s.takeAt k))) := by
  refine (State.latchAfter_risen _ _ (fun ha => ?_) fun ha => ?_).trans rfl
  · refine (h.latch.armed ha).trans ?_
    show s.pool.freeCount - s.pool.reserved ≤ s.pool.freeCount - (s.pool.reserved - (s.takeAt k).remaining)
    omega
  · exact h.latch.disarmed ha

/-- The rest of a seal on the state that the check's decisions leave. -/
theorem State.sealEnd_eq {x : State} (hf : x.Formed) (hk : k < Config.takeSlots) (hmask : x.rejectMask = s.rejectMask)
    (htube : ∀ p, (s.takeAt k).tube = some p → x.tubeAt p.index = s.tubeAt p.index) (cause : CloseCause) :
    (x.setTake k ((s.takeAt k).closed cause (s.lane n).track.parser.midBlock (s.expectedOf (s.takeAt k)))).sealEnd k cause false =
      sealRecorded s x n k cause := by
  have hjudged := Take.judged_closed s n k cause
  have hsame : (sealOf s n k cause).tube = (s.takeAt k).tube := rfl
  generalize (s.takeAt k).closed cause (s.lane n).track.parser.midBlock (s.expectedOf (s.takeAt k)) = c at hjudged ⊢
  unfold State.sealEnd sealRecorded
  simp only [State.takeAt_setTake_self hf.1, State.setTake_rejectMask, hmask, hjudged, State.setTake_setTake hf.1 _ _ hk,
    Bool.false_eq_true, if_false, State.sealTube, hsame]
  cases hp : (s.takeAt k).tube with
  | none => rfl
  | some p =>
    simp only [State.tubeAt_setTake, htube p hp, Tube.sealed_eq]

/-- Seal processing, with the lane left as `left` (R31–R34, R63). -/
theorem Books.sealedBy (hb : Books s) (ht : TubesMatch s) (hrec : recordsTake s n k) (cause : CloseCause) (left : Lane) :
    SealedBy s ((s.sealMost n k cause false).setLane n left) n k cause left := by
  obtain ⟨hk, hst⟩ := hrec
  obtain ⟨-, htrec, -⟩ := hb.current hk
  have hbusy : (s.takeAt k).state ≠ .free := by
    obtain e | e := (TakeState.recording_iff _).1 htrec <;> simp [e]
  have hslot : k < Config.takeSlots := hb.slot hbusy
  have hnq : n ∉ s.pool.queue := fun hm => by
    have := (hb.queue.queued n).1 hm
    rw [this] at hst; simp at hst
  obtain ⟨r, hr⟩ : ∃ r, r = reservationReturned s k := ⟨_, rfl⟩
  have hf : r.Formed := by rw [hr]; exact hb.formed
  have hq : QueueReady r r.pool.queue := by rw [hr]; exact ⟨hb.queueReady.nodup, hb.queueReady.held⟩
  obtain ⟨x, os, hdec⟩ : ∃ x os, r.admitDecide = (x, os) := ⟨_, _, rfl⟩
  have hloop : State.admitLoop r.pool.queue [] r = (x, os) := hdec
  -- the decisions
  have hdecides : CheckDecides r [] x os := by
    have h := State.admitLoop_decides (s := r) r.pool.queue [] rfl hq.nodup (fun m hm => by
      obtain ⟨p, d, hp⟩ := hq.held m hm
      rw [hp]; rfl) (by rw [hr]; exact hb.latch.marks) (fun ha => by
        rw [hr] at ha ⊢
        simp only [reservationReturned, Bool.or_eq_false_iff, decide_eq_false_iff_not, not_le] at ha
        exact ha.2)
    rwa [hloop] at h
  obtain ⟨hready, hform, hlanes, hfrom⟩ := State.admitLoop_ready r.pool.queue [] hf hq ⟨nofun, List.nodup_nil, List.nodup_nil⟩ nofun
  obtain ⟨htubes, hstarts, before, hkinds, hposts⟩ := State.admitLoop_leaves r.pool.queue [] hf hq
  have hxframe := State.admitLoop_frame (s := r) r.pool.queue []
  rw [hloop] at hready hform hlanes hfrom htubes hstarts hposts hxframe
  simp only at hready hform hlanes hfrom htubes hstarts hposts hxframe
  have hqs : r.pool.queue = s.pool.queue := by rw [hr]; rfl
  have hlane (m : Fin 8) : r.lane m = s.lane m := by rw [hr]; rfl
  have htakes (j : Nat) : x.takeAt j = s.takeAt j := by rw [hxframe, hr]; rfl
  -- the take's tube is no other lane's
  have hclaim (p : TubePos) (hp : (s.takeAt k).tube = some p) : (s.tubeAt p.index).claim = some n :=
    (ht.claims p.index n).2 (.inr ⟨k, hk, by rw [Take.tubeIndex, hp]; rfl⟩)
  have hapart (p : TubePos) (hp : (s.takeAt k).tube = some p) {m : Fin 8} (hm : m ∈ s.pool.queue) {q : TubePos} {d : Direction}
      (hq : (s.lane m).held = some (q, d)) : q.index ≠ p.index := fun e => by
    have h1 := (ht.claims q.index m).2 (.inl ⟨q, d, hq, rfl⟩)
    rw [e, hclaim p hp] at h1
    exact hnq (Option.some_inj.1 h1 ▸ hm)
  have htube (p : TubePos) (hp : (s.takeAt k).tube = some p) : x.tubeAt p.index = s.tubeAt p.index := by
    rw [htubes p.index fun m hm q d hq => hapart p hp (hqs ▸ hm) (hlane m ▸ hq), hr]; rfl
  have hoslot : ∀ o ∈ os, o.slot ≠ k := fun o ho e => hbusy (by rw [← htakes, ← e]; exact (hready.slots o ho).2)
  have holane : ∀ o ∈ os, o.lane ≠ n := fun o ho e => by
    obtain hm | hm := hfrom o ho
    · cases hm
    · exact hnq (hqs ▸ e ▸ hm)
  have hos : ∀ o ∈ os, o.slot < Config.takeSlots := fun o ho => (hready.slots o ho).1
  -- the whole
  have hready' : (r.setTake k ((s.takeAt k).closed cause (s.lane n).track.parser.midBlock (s.expectedOf (s.takeAt k)))).admitDecide =
      (x.setTake k ((s.takeAt k).closed cause (s.lane n).track.parser.midBlock (s.expectedOf (s.takeAt k))), os) := by
    have hrbusy : (r.takeAt k).state ≠ .free := by rw [hr]; exact hbusy
    have h := State.admitLoop_setTake (x := (s.takeAt k).closed cause (s.lane n).track.parser.midBlock (s.expectedOf (s.takeAt k)))
      r.pool.queue [] hf.1 hq hrbusy hbusy
    rwa [hloop] at h
  have hmost : s.sealMost n k cause false = (sealRecorded s x n k cause).openAll os := by
    rw [State.sealMost, hb.sealReady_eq cause false, ← hr, hready']
    exact congrArg (State.openAll · os) (State.sealEnd_eq hform hslot (by rw [hxframe, hr]; rfl) htube cause)
  obtain ⟨z, hz⟩ : ∃ z, z = sealRecorded s x n k cause := ⟨_, rfl⟩
  have hzform : z.Formed := by
    rw [hz]
    unfold sealRecorded
    cases (s.takeAt k).tube with
    | none => exact ⟨State.takesForm_setTake hform.1 _ hslot, hform.2⟩
    | some p => exact ⟨State.takesForm_setTake (s := x) hform.1 _ hslot, State.tubesForm_setTube (s := x.setTake k _) hform.2 _ p.index_lt⟩
  have hztake (j : Nat) : z.takeAt j = if j = k then sealOf s n k cause else s.takeAt j := by
    rw [hz, ← htakes j, ← State.takeAt_setTake hform.1 k j]
    unfold sealRecorded
    cases (s.takeAt k).tube <;> rfl
  have hznotices : z.notices = x.notices.create (Report.takeSealed k (sealOf s n k cause) cause) := by
    rw [hz]; unfold sealRecorded; cases (s.takeAt k).tube <;> rfl
  rw [hmost, ← hz]
  refine ⟨⟨x, os, hr ▸ hdecides, by rw [← hz]; rfl⟩, ?_, fun p hp => ?_, fun j hj hfree => ?_, State.lane_setLane_self _ n left,
    before, hkinds, ?_⟩
  · show (z.openAll os).takeAt k = _
    rw [State.takeAt_openAll hzform hos hoslot, hztake, if_pos rfl]
  · show (z.openAll os).tubeAt p.index = _
    have hztube : z.tubeAt p.index = tubeAfterSeal (s.tubeAt p.index) (sealOf s n k cause).state := by
      rw [hz]; unfold sealRecorded; rw [hp]
      exact State.tubeAt_setTube_self (s := x.setTake k _) hform.2 _ _
    have hother : ∀ o ∈ os, o.pos.index ≠ p.index := fun o ho => by
      obtain h | ⟨hm, hheld⟩ := hstarts o ho
      · cases h
      · exact hapart p hp (hqs ▸ hm) (hlane o.lane ▸ hheld)
    rw [State.tubeAt_openAll_ne hzform hos hother, hztube]
  · show (z.openAll os).takeAt j = _
    rw [State.takeAt_openAll hzform hos fun o ho e => hfree (by rw [← htakes, ← e]; exact (hready.slots o ho).2), hztake, if_neg hj]
  · show (z.openAll os).notices = _
    have h : (z.openAll os).notices = z.notices := by rw [State.openAll_frame]
    rw [h, hznotices, hposts, List.foldl_append, hr]; rfl

/-- A seal that leaves its lane enabled (R63). -/
theorem Books.sealTake_sealedBy (hb : Books s) (ht : TubesMatch s) (hrec : recordsTake s n k) {cause : CloseCause} (hc : cause.disables = false) :
    SealedBy s (s.sealTake n cause false) n k cause (laneLeft (s.lane n)) := by
  obtain ⟨hk, -⟩ := id hrec
  rw [State.sealTake_eq hk, hb.lane_sealMost hk]
  have hleave : (s.lane n).leave cause = laneLeft (s.lane n) := by rw [Lane.leave, hc]; rfl
  rw [hleave]
  exact hb.sealedBy ht hrec cause _

end Sys2Proof.Machine
end

section
/-! TUBE_END and ABANDON (O47, O48). -/

namespace Sys2Proof.Machine

variable {s u : State} {n : Fin 8} {k : Nat} {bs : List Byte} {t : RigTxn} {w : State} {unit : Nat} {p q : TubePos} {d : Direction}

theorem State.markerWrite_end (hm : WritesMarker s t unit bs) (h : Sys2Proof.Machine.laneMarker w t bs 2 n) (hp : markerAt bs p) :
    w.markerWrite t.source unit bs = markerOutcome t unit (some n) (w.tubeEnd n p (markerFinal bs)) := by
  obtain ⟨hk, hn, hsrc⟩ := h
  rw [State.markerWrite_ok (decodeMarker_end hm.full hk hn hp), State.dispatchMarker, State.laneMarker_own hsrc]; rfl

theorem State.markerWrite_abandon (hm : WritesMarker s t unit bs) (h : Sys2Proof.Machine.laneMarker w t bs 3 n) :
    w.markerWrite t.source unit bs = markerOutcome t unit (some n) (w.abandon n) := by
  obtain ⟨hk, hn, hsrc⟩ := h
  rw [State.markerWrite_ok (decodeMarker_abandon hm.full hk hn), State.dispatchMarker, State.laneMarker_own hsrc]; rfl

theorem State.cancelHeld_eq (hh : (w.lane n).held = some (p, d)) : w.cancelHeld n = (heldRefused w n p .cancelled).admissionCheck := by
  rw [State.cancelHeld, State.refuseHeld_eq .cancelled hh]

/-! ## ABANDON -/

/-- Settles O48: R61's table by the lane's state. -/
theorem abandonSealsOrCancels : Obligations.AbandonSealsOrCancels := by
  intro t s w unit bs n hrig hports hw hm hb ht hlm
  have htw := ht.watched hb hw
  have hbw := hb.watched hw
  obtain ⟨u, hexec, hj⟩ := exec_markerWrite hrig hports hw hm
  rw [State.markerWrite_abandon hm hlm] at hj
  have joins {r : State × Option MarkerCause} (h : w.abandon n = r) : Joined s (markerOutcome t unit (some n) r) u (ownAddress t) := h ▸ hj
  refine ⟨u, hexec, fun hst => ?_, fun hst => ?_, fun q d hst hh => ?_, fun k hrec => ?_⟩
  · exact joins (r := (w, some .laneDisabled)) (by rw [State.abandon, hst])
  · exact joins (r := (w, some .noTake)) (by rw [State.abandon, hst])
  · rw [← State.cancelHeld_eq hh]
    exact joins (r := (w.cancelHeld n, none)) (by rw [State.abandon, hst])
  · refine ⟨_, joins (r := (w.sealTake n .abandon false, none)) ?_, hbw.sealTake_sealedBy htw hrec rfl⟩
    obtain hst | hst := hrec.2 <;> rw [State.abandon, hst]

/-! ## TUBE_END -/

theorem State.laneTube_waiting (hst : (w.lane n).state = .waiting) (hh : (w.lane n).held = some (q, d)) : w.laneTube n = some q := by
  rw [State.laneTube, hst]; simp only [hh]; rfl

theorem State.laneTube_recording (hrec : recordsTake w n k) : w.laneTube n = (w.takeAt k).tube := by
  obtain ⟨hk, hst | hst⟩ := hrec <;> rw [State.laneTube, hst] <;> simp only [hk] <;> rfl

theorem State.tubeEnd_mismatch {f : BitVec 16} (hst : (w.lane n).state = .waiting ∨ (w.lane n).state = .opened ∨ (w.lane n).state = .closing)
    (hne : w.laneTube n ≠ some p) : w.tubeEnd n p f = (w, some .tubeMismatch) := by
  obtain hst | hst | hst := hst <;> rw [State.tubeEnd, hst] <;> exact if_neg hne

/-- An end whose final sequence the lane has completed last seals the take (R58, R59). -/
theorem State.tubeEnd_seals {f : BitVec 16} (hrec : recordsTake w n k) (hp : w.laneTube n = some p) (hfin : (w.lane n).finalSeq = none)
    (hlast : (w.lane n).lastSeq = some f) : w.tubeEnd n p f = (w.sealTake n .endMarker false, none) := by
  obtain ⟨hk, hst | hst⟩ := hrec
  · rw [State.tubeEnd, hst]
    refine (if_pos hp).trans ?_
    rw [State.endOpen, if_pos hlast]
  · rw [State.tubeEnd, hst]
    refine (if_pos hp).trans ?_
    rw [State.endClosing, hfin]; exact if_pos hlast

theorem Lane.closing_idle {l : Lane} (hst : l.state = .closing) (hi : l.idle = none) :
    ({ l with state := .closing, idle := none } : Lane) = l := by
  obtain ⟨⟩ := l; simp only at hst hi; rw [hst, hi]

/-- Another end leaves the take CLOSING with its final sequence (R58, R59). -/
theorem State.tubeEnd_closes {f : BitVec 16} (hb : Books w) (hrec : recordsTake w n k) (hp : w.laneTube n = some p)
    (hfin : (w.lane n).finalSeq = none) (hlast : (w.lane n).lastSeq ≠ some f) : w.tubeEnd n p f =
      ((w.setTake k { w.takeAt k with state := .closing }).setLane n { w.lane n with
        state := .closing, finalSeq := some f, idle := none
        drain := if (w.lane n).cfg.drain = 0 then none else some 0 }, none) := by
  obtain ⟨hk, hst | hst⟩ := id hrec
  · rw [State.tubeEnd, hst]
    refine (if_pos hp).trans ?_
    rw [State.endOpen, if_neg hlast, hk]; rfl
  · have htake : (w.takeAt k).state = .closing := by
      obtain ⟨-, ⟨ho, -⟩ | ⟨-, hc⟩⟩ := hb.lanes.current n k hk
      · rw [hst] at ho; cases ho
      · exact hc
    have hsame : w.setTake k { w.takeAt k with state := .closing } = w := by
      rw [← htake]; exact State.setTake_takeAt hb.takesForm k
    have hidle : (w.lane n).idle = none := Option.eq_none_iff_forall_ne_some.2 fun c hc => by
      have := (hb.fields.idle n c hc).1
      rw [hst] at this; cases this
    rw [State.tubeEnd, hst]
    refine (if_pos hp).trans ?_
    rw [State.endClosing, hfin, hsame]
    simp only [if_neg hlast]
    exact congrArg (fun l : Lane => (w.setLane n { l with finalSeq := some f, drain := startTimer l.cfg.drain }, none))
      (Lane.closing_idle hst hidle).symm

/-- Settles O47: R58–R60's table by the lane's state. -/
theorem tubeEndClosesTake : Obligations.TubeEndClosesTake := by
  intro t s w unit bs n p hrig hports hw hm hb ht hlm hpos
  have htw := ht.watched hb hw
  have hbw := hb.watched hw
  obtain ⟨u, hexec, hj⟩ := exec_markerWrite hrig hports hw hm
  rw [State.markerWrite_end hm hlm hpos] at hj
  have joins {r : State × Option MarkerCause} (h : w.tubeEnd n p (markerFinal bs) = r) :
      Joined s (markerOutcome t unit (some n) r) u (ownAddress t) := h ▸ hj
  refine ⟨u, hexec, fun hst => ?_, fun hst => ?_, fun q d hst hh => ⟨fun hne => ?_, fun heq => ?_⟩, fun k hrec => ⟨fun hne => ?_,
    fun htube hfin hst => ?_, fun htube hfin hlast => ?_, fun htube hfin hlast => ?_⟩⟩
  · exact joins (r := (w, some .laneDisabled)) (by rw [State.tubeEnd, hst])
  · exact joins (r := (w, some .noTake)) (by rw [State.tubeEnd, hst])
  · refine joins (State.tubeEnd_mismatch (.inl hst) ?_)
    rw [State.laneTube_waiting hst hh]; simpa using hne
  · subst heq
    rw [← State.cancelHeld_eq hh]
    refine joins (r := (w.cancelHeld n, none)) ?_
    rw [State.tubeEnd, hst]; exact if_pos (State.laneTube_waiting hst hh)
  · exact joins (State.tubeEnd_mismatch (.inr hrec.2) (by rw [State.laneTube_recording hrec]; exact hne))
  · refine joins (r := (w, some .duplicateEnd)) ?_
    obtain ⟨f, hf⟩ := Option.ne_none_iff_exists'.1 hfin
    rw [State.tubeEnd, hst]
    refine (if_pos (by rw [State.laneTube_recording hrec]; exact htube)).trans ?_
    rw [State.endClosing, hf]
  · exact ⟨_, joins (State.tubeEnd_seals hrec (by rw [State.laneTube_recording hrec]; exact htube) hfin hlast),
      hbw.sealTake_sealedBy htw hrec rfl⟩
  · exact joins (State.tubeEnd_closes hbw hrec (by rw [State.laneTube_recording hrec]; exact htube) hfin hlast)

end Sys2Proof.Machine
end

section
/-! The timers' expiries and DISABLE_LANE (O53, O24). -/

namespace Sys2Proof.Machine

variable {s t u : State} {n : Fin 8} {k : Nat} {p : TubePos} {d : Direction}

/-! ## A lane whose line is written -/

theorem Moves.takeEvent_line (hn : (s.lane n).state ≠ .disabled) (v : LaneLine) : Moves s (s.takeEvent.setLaneLine n v) :=
  (Relation.ReflTransGen.single (Move.keep SameBooks.takeEvent)).tail (Move.line (s := s.takeEvent) hn v)

theorem Moves.setLaneLine (hn : (s.lane n).state ≠ .disabled) (v : LaneLine) : Moves s (s.setLaneLine n v) := .single (Move.line hn v)

theorem recordsTake.enabled (h : recordsTake s n k) : (s.lane n).state ≠ .disabled := by
  obtain ⟨-, h | h⟩ := h <;> rw [h] <;> exact nofun

/-! ## Expiries (R66–R68) -/

theorem advanceTimer_expires {c timeout : Nat} (h : c + 1 = timeout) : advanceTimer timeout (some c) = (none, true) :=
  if_pos h.ge

theorem Lane.idleExpires_of {l : Lane} {c : Nat} (hst : l.state = .opened) (hi : l.idle = some c) (hc : c + 1 = l.cfg.idle) :
    l.idleExpires = true := by rw [Lane.idleExpires, hst, hi, advanceTimer_expires hc]; rfl

theorem Lane.drainExpires_of {l : Lane} {c : Nat} (hst : l.state = .closing) (hi : l.drain = some c) (hc : c + 1 = l.cfg.drain) :
    l.drainExpires = true := by rw [Lane.drainExpires, hst, hi, advanceTimer_expires hc]; rfl

theorem Lane.admissionExpires_of {l : Lane} {c : Nat} (hst : l.state = .waiting) (hi : l.admission = some c) (hc : c + 1 = l.cfg.admission) :
    l.admissionExpires = true := by rw [Lane.admissionExpires, hst, hi, advanceTimer_expires hc]; rfl

theorem Lane.idleExpires_not {l : Lane} (hst : l.state ≠ .opened) : l.idleExpires = false := by simp [Lane.idleExpires, hst]
theorem Lane.drainExpires_not {l : Lane} (hst : l.state ≠ .closing) : l.drainExpires = false := by simp [Lane.drainExpires, hst]

/-- A recording lane that leaves its take after its timers have run on. -/
theorem Books.leave_advance (hb : Books s) (hrec : recordsTake s n k) {cause : CloseCause} (hc : cause.disables = false) :
    (s.lane n).advance.leave cause = laneLeft (s.lane n) := by
  have hadm : (s.lane n).admission = none := Option.eq_none_iff_forall_ne_some.2 fun c hc => by
    have h1 := (hb.fields.admission n c hc).1
    obtain ⟨-, h | h⟩ := hrec <;> rw [h] at h1 <;> cases h1
  rw [Lane.leave, hc]
  simp only [Lane.advance, hadm, laneLeft]
  rfl

/-- A period end at which a take's timer expires (R66, R67). -/
theorem Books.sealTake_advance (hb : Books s) (ht : TubesMatch s) (hrec : recordsTake s n k) {cause : CloseCause} (hc : cause.disables = false) :
    SealedBy s ((s.setLane n (s.lane n).advance).sealTake n cause false) n k cause (laneLeft (s.lane n)) := by
  have hk : ((s.setLane n (s.lane n).advance).lane n).current = some k := by rw [State.lane_setLane_self]; exact hrec.1
  have heq : (s.setLane n (s.lane n).advance).sealTake n cause false = (s.sealMost n k cause false).setLane n (laneLeft (s.lane n)) := by
    rw [State.sealTake_eq hk, State.sealMost_setLane (l := (s.lane n).advance) hb hrec.1 rfl, State.lane_setLane_self, State.setLane_setLane, hb.leave_advance hrec hc]
  rw [heq]
  exact hb.sealedBy ht hrec cause _

/-- A period end at which the admission timer expires (R68). -/
theorem Books.refuseHeld_advance (hb : Books s) (hh : (s.lane n).held = some (p, d)) (c : RefuseCause) :
    (s.setLane n (s.lane n).advance).refuseHeld n c = heldRefused s n p c := by
  have hst := hb.waiting_of_held hh
  have hidle : (s.lane n).idle = none := Option.eq_none_iff_forall_ne_some.2 fun c hc => by
    have h1 := (hb.fields.idle n c hc).1
    rw [hst] at h1; cases h1
  have hdrain : (s.lane n).drain = none := Option.eq_none_iff_forall_ne_some.2 fun c hc => by
    have h1 := (hb.fields.drain n c hc).1
    rw [hst] at h1; cases h1
  have hh' : ((s.setLane n (s.lane n).advance).lane n).held = some (p, d) := by rw [State.lane_setLane_self]; exact hh
  have hdown : laneStoodDown (s.lane n).advance = laneStoodDown (s.lane n) := by
    simp only [laneStoodDown, Lane.advance, hidle, hdrain]
    rfl
  rw [State.refuseHeld_eq c hh', heldRefused, State.lane_setLane_self, hdown]
  exact congrArg (·.post (refusedReport n p c))
    (State.setLane_setLane ({ s with pool := { s.pool with queue := s.pool.queue.filter (· ≠ n) } }.unclaim p) n _ _)

theorem State.lanePeriodEnd_idle (h : (s.lane n).idleExpires = true) :
    s.lanePeriodEnd n = (s.setLane n (s.lane n).advance).sealTake n .idleTimeout false := if_pos h

theorem State.lanePeriodEnd_drain (hi : (s.lane n).idleExpires = false) (h : (s.lane n).drainExpires = true) :
    s.lanePeriodEnd n = (s.setLane n (s.lane n).advance).sealTake n (s.lane n).drainCause false := by
  rw [State.lanePeriodEnd, hi, h]; rfl

theorem State.lanePeriodEnd_admission (hi : (s.lane n).idleExpires = false) (hd : (s.lane n).drainExpires = false)
    (h : (s.lane n).admissionExpires = true) :
    s.lanePeriodEnd n = ((s.setLane n (s.lane n).advance).refuseHeld n .admissionTimeout).admissionCheck := by
  rw [State.lanePeriodEnd, hi, hd, h]; rfl

theorem Lane.drainCause_eq (l : Lane) : l.drainCause = if l.finalSeq = none then .homeSense else .drainTimeout := by
  unfold Lane.drainCause; cases l.finalSeq <;> rfl

/-- A period end that is taken, on the state in which the lane takes it (R167, R169). -/
theorem exec_periodEnds {e : Instr} (hc : canCome s n .periodEnd) (hmem : e ∈ [Instr.periodEnd n, .idleTimerExpiry n, .drainTimerExpiry n,
    .admissionTimerExpiry n]) (htk : timeTaken e s = true) : exec e s =
      .next ((s.takeEvent.setLaneLine n { s.laneLine n with driveLow := false, due := (s.laneLine n).due.tail }).lanePeriodEnd n) := by
  rw [exec_timeCommand_taken (timeCommand_periodEnds hmem).1 hc htk]
  have hwork (x : State) : timeWork e x = x.endPeriod n := by
    simp only [List.mem_cons, List.not_mem_nil, or_false] at hmem
    obtain rfl | rfl | rfl | rfl := hmem <;> rfl
  rw [hwork, State.endPeriod, State.driverOff, State.laneLine_setLaneLine_self, State.setLaneLine_setLaneLine]

/-- Settles O53: the period end at which one timer expires, and no other can. -/
theorem timerExpiriesSealOrRefuse : Obligations.TimerExpiriesSealOrRefuse := by
  intro n s b e hc hb ht hbe
  obtain ⟨-, hn, -⟩ := id hc
  have hmoves := Moves.takeEvent_line hn { s.laneLine n with driveLow := false, due := (s.laneLine n).due.tail }
  rw [← hbe] at hmoves
  have hbb := Moves.books hmoves hb
  have htb := Change.tubesMatch (.moves hmoves) hb ht
  have hlane : b.lane n = s.lane n := by rw [hbe]; rfl
  refine ⟨fun k c he hrec hi hcount => ?_, fun k c he hrec hi hcount => ?_, fun p d c he hh hi hcount => ?_⟩
  · have hexp := Lane.idleExpires_of (hb.fields.idle n c hi).1 hi hcount
    refine ⟨_, exec_periodEnds hc ?_ ?_, ?_⟩
    · obtain rfl | rfl := he <;> simp
    · obtain rfl | rfl := he <;> simp [timeTaken, State.comes_of_head hc, hexp]
    · rw [← hbe, State.lanePeriodEnd_idle (by rw [hlane]; exact hexp), ← hlane]
      exact hbb.sealTake_advance htb (by rw [recordsTake, hlane]; exact hrec) rfl
  · have hst := (hb.fields.drain n c hi).1
    have hexp := Lane.drainExpires_of hst hi hcount
    have hidle := Lane.idleExpires_not (l := s.lane n) (by rw [hst]; exact nofun)
    refine ⟨_, exec_periodEnds hc ?_ ?_, ?_⟩
    · obtain rfl | rfl := he <;> simp
    · obtain rfl | rfl := he <;> simp [timeTaken, State.comes_of_head hc, hexp]
    · rw [← hbe, State.lanePeriodEnd_drain (by rw [hlane]; exact hidle) (by rw [hlane]; exact hexp), ← hlane, ← Lane.drainCause_eq]
      exact hbb.sealTake_advance htb (by rw [recordsTake, hlane]; exact hrec) (by unfold Lane.drainCause; split <;> rfl)
  · have hst := (hb.fields.admission n c hi).1
    have hexp := Lane.admissionExpires_of hst hi hcount
    have hidle := Lane.idleExpires_not (l := s.lane n) (by rw [hst]; exact nofun)
    have hdrain := Lane.drainExpires_not (l := s.lane n) (by rw [hst]; exact nofun)
    rw [exec_periodEnds hc (by obtain rfl | rfl := he <;> simp)
      (by obtain rfl | rfl := he <;> simp [timeTaken, State.comes_of_head hc, hexp]), ← hbe,
      State.lanePeriodEnd_admission (by rw [hlane]; exact hidle) (by rw [hlane]; exact hdrain) (by rw [hlane]; exact hexp),
      hbb.refuseHeld_advance (by rw [hlane]; exact hh)]

/-! ## DISABLE_LANE (R50) -/

theorem exec_disableLane (index : BitVec 16) (s : State) : exec (.disableLane index) s =
    s.request (.disableLane index) fun s => s.laneCommand index fun n => (s.disableLane n).done := rfl

theorem exec_disableLane_lane {index : BitVec 16} (h : s.listening = true) (hn : index.toNat = n.val) :
    exec (.disableLane index) s = .next ((s.takeEvent.disableLane n).answered (.disableLane index) .done []) := by
  rw [exec_disableLane]
  exact State.request_answers h (State.laneCommand_lane hn) (State.disableLane_works n).out_eq

/-- The seal of DISABLE_LANE, with the lane shut (R50, R63). -/
theorem State.sealTake_shutLane (hb : Books s) (hk : (s.lane n).current = some k) (cause : CloseCause) :
    (s.sealTake n cause false).shutLane n =
      ((s.sealMost n k cause false).setLane n (Lane.disabled (s.lane n).cfg)).setLaneLine n LaneLine.idle := by
  have hlane := hb.lane_sealMost hk cause false
  rw [State.sealTake_eq hk, State.shutLane, State.lane_setLane_self, State.setLane_setLane, hlane]; rfl

/-- Settles O24: R50's table by the lane's state. -/
theorem disableLaneActsByState : Obligations.DisableLaneActsByState := by
  intro index s hl
  refine ⟨fun hi => ?_, fun n hn => ⟨fun hst => ?_, fun hst => ?_, fun p d hst hh => ?_, fun k hrec hb ht => ?_⟩⟩
  · rw [exec_disableLane]
    exact State.request_refuses hl (State.laneCommand_badIndex hi)
  · rw [exec_disableLane_lane hl hn, State.disableLane, State.lane_takeEvent, hst]; rfl
  · rw [exec_disableLane_lane hl hn, State.disableLane, State.lane_takeEvent, hst]; rfl
  · rw [exec_disableLane_lane hl hn, State.disableLane, State.lane_takeEvent, hst]
    simp only [State.refuseHeld_eq .disabled (show (s.takeEvent.lane n).held = some (p, d) from hh)]
    rw [State.shutLane, State.lane_heldRefused, if_pos rfl]; rfl
  · have hb1 := Moves.books (Moves.setLaneLine hrec.enabled LaneLine.idle) hb
    have ht1 := Change.tubesMatch (.moves (Moves.setLaneLine hrec.enabled LaneLine.idle)) hb ht
    have hbe := hb.same SameBooks.takeEvent
    refine ⟨((s.setLaneLine n LaneLine.idle).sealMost n k .laneDisable false).setLane n (Lane.disabled (s.lane n).cfg), ?_,
      hb1.sealedBy ht1 hrec .laneDisable _⟩
    have hact : s.takeEvent.disableLane n = (s.takeEvent.sealTake n .laneDisable false).shutLane n := by
      obtain hst | hst := hrec.2 <;> rw [State.disableLane, State.lane_takeEvent, hst]
    have h1 : s.takeEvent.sealMost n k .laneDisable false = (s.sealMost n k .laneDisable false).aside s.takeEvent.out s.laneLines :=
      State.sealMost_aside (s := s) _ _ .laneDisable false
    have h2 : (s.setLaneLine n LaneLine.idle).sealMost n k .laneDisable false =
        (s.sealMost n k .laneDisable false).aside s.out (s.laneLines.set n LaneLine.idle) :=
      State.sealMost_aside (s := s) s.out (s.laneLines.set n LaneLine.idle) .laneDisable false
    rw [exec_disableLane_lane hl hn, hact, State.sealTake_shutLane hbe hrec.1, h1, h2]
    exact congrArg Host.Outcome.next (State.answered_congr rfl)

end Sys2Proof.Machine
end

section
/-! A lane write in order (O36): the segment, the unit recorded, and the seal that its block may bring. -/

namespace Sys2Proof.Machine

variable {s u : State} {n : Fin 8} {k off : Nat} {t : RigTxn} {w x : State} {chain : List Nat} {remaining : Nat} {data : List Byte}
  {l : Lane}

/-! ## The segment (R79) -/

/-- No segment is given where the reservation is spent and nothing is unreserved. -/
theorem State.segmentFor_none (hoff : off / 262144 = (w.takeAt k).chain.length) (hr : (w.takeAt k).remaining = 0)
    (hu : w.pool.freeCount ≤ w.pool.reserved) : w.segmentFor k off = none := by
  have hun : ¬0 < w.pool.unreserved := by simp only [Pool.unreserved]; omega
  rw [State.segmentFor, if_pos (show off / Config.segmentBytes = _ from hoff), State.allocate]
  split
  · rfl
  · rw [if_neg (by omega), if_neg hun]

/-- The segment that the statements name is the one given. -/
theorem State.segmentFor_some (hb : Books w) (h : segmentTaken w x k off chain remaining) :
    (w.setLane n l).segmentFor k off =
      some ((x.setLane n l).setTake k { w.takeAt k with chain := chain, remaining := remaining }) := by
  obtain ⟨hoff, rfl, rfl, rfl⟩ | ⟨hoff, seg, rest, hfree, rfl, hpool⟩ := h
  · rw [State.segmentFor, if_neg (show ¬off / Config.segmentBytes = ((State.setLane _ n l).takeAt k).chain.length from hoff)]
    exact congrArg some (State.setTake_takeAt (s := State.setLane _ n l) hb.takesForm k).symm
  · have hfree' : (w.setLane n l).pool.freeList = seg :: rest := hfree
    have htake : (w.setLane n l).takeAt k = w.takeAt k := rfl
    rw [State.segmentFor, if_pos (show off / Config.segmentBytes = ((w.setLane n l).takeAt k).chain.length from hoff), State.allocate, hfree']
    dsimp only
    obtain ⟨hr, rfl, rfl⟩ | ⟨hr, hu, rfl, rfl⟩ := hpool
    · rw [if_pos (show 0 < ((w.setLane n l).takeAt k).remaining from hr)]; rfl
    · have hun : 0 < (w.setLane n l).pool.unreserved := by
        show 0 < w.pool.freeCount - w.pool.reserved; omega
      have hfall := hb.latch.disarmed
      rw [if_neg (by rw [htake]; omega), if_pos hun, ← State.latchTest_fallen (s := { w with pool := { w.pool with
          freeList := rest, freeCount := w.pool.freeCount - 1 } }) fun ha => by
        have h1 : w.pool.freeCount - w.pool.reserved < w.pool.highMark := hfall ha
        show w.pool.freeCount - 1 - w.pool.reserved < w.pool.highMark
        omega, ← State.latchTest_setLane, ← State.latchTest_setTake]
      have hrem : ({ w.takeAt k with chain := (w.takeAt k).chain ++ [seg], remaining := 0 } : Take) =
          { w.takeAt k with chain := (w.takeAt k).chain ++ [seg], remaining := (w.takeAt k).remaining } := by rw [hr]
      rw [hrem]; rfl

theorem segmentTaken.frame (h : segmentTaken w x k off chain remaining) :
    x = { w with pool := x.pool, notices := x.notices, arbiter := x.arbiter } := by
  obtain ⟨-, rfl, -, -⟩ | ⟨-, seg, rest, -, -, ⟨-, -, rfl⟩ | ⟨-, -, -, rfl⟩⟩ := h
  · rfl
  · rfl
  · rw [latchFallen_frame]

/-! ## The unit recorded (R73) -/

/-- The state in which the unit is parsed: the lane touched, the segment with the take. -/
def segmented (w x : State) (n : Fin 8) (k : Nat) (chain : List Nat) (remaining : Nat) : State :=
  (x.setLane n (laneTouched (w.lane n))).setTake k { w.takeAt k with chain := chain, remaining := remaining }

theorem segmented_take (hb : Books w) (h : segmentTaken w x k off chain remaining) :
    (segmented w x n k chain remaining).takeAt k = { w.takeAt k with chain := chain, remaining := remaining } :=
  State.takeAt_setTake_self (s := x.setLane n (laneTouched (w.lane n))) (by rw [h.frame]; exact hb.takesForm) k _

theorem segmented_lane : (segmented w x n k chain remaining).lane n = laneTouched (w.lane n) := State.lane_setLane_self x n _

theorem segmented_parse (hb : Books w) (h : segmentTaken w x k off chain remaining) :
    (segmented w x n k chain remaining).parseUnit n k data = parsed w n k chain remaining data := by
  rw [State.parseUnit, segmented_take hb h, segmented_lane]; rfl

/-- Recording the unit, then noting a completed block's sequence, is the record of the statements. -/
theorem unitRecorded_eq (hb : Books w) (h : segmentTaken w x k off chain remaining) (hk : k < Config.takeSlots) (hoff : off = (w.lane n).nextOffset)
    {last : Option (BitVec 16)} {r : Work × Option (BitVec 16)} (hr : r = parsed w n k chain remaining data)
    (hlast : last = r.2.or (w.lane n).lastSeq) :
    unitRecorded w x n k off r = ((segmented w x n k chain remaining).recordUnit n k r.1).setLane n
      { ((segmented w x n k chain remaining).recordUnit n k r.1).lane n with lastSeq := last } := by
  have hwritten : r.1.take.written = (w.takeAt k).written := by
    have hp := Work.takeUnit_parsed { track := (w.lane n).track, take := { w.takeAt k with chain := chain, remaining := remaining } }
      (w.lane n).cfg data
    unfold TakeParsed at hp
    rw [hr, parsed, hp]
  have hform : (x.setLane n (laneTouched (w.lane n))).takesForm := by
    rw [h.frame]; exact hb.takesForm
  have hmatch : last = (match r.2 with
      | some q => some q
      | none => (w.lane n).lastSeq) := by rw [hlast]; cases r.2 <;> rfl
  have hset := State.setTake_setTake hform { w.takeAt k with chain := chain, remaining := remaining }
    { r.1.take with written := (w.takeAt k).written + 64 } hk
  unfold unitRecorded State.recordUnit
  rw [State.lane_setLane_self, State.setLane_setLane, segmented_lane, hwritten, segmented, hset, hmatch, hoff]
  exact (State.setLane_setLane (x.setTake k { r.1.take with written := (w.takeAt k).written + 64 }) n _ _).symm

theorem State.takenWrite_inOrder (h : (w.takeAt k).flags &&& Flag.truncated.set = 0) (ho : off = (w.lane n).nextOffset) :
    w.takenWrite n k off data = (w.setLane n (laneTouched (w.lane n))).inOrderWrite n k off data := by
  rw [State.takenWrite, if_neg (fun hh => (Flags.has_iff _ _).mp hh h), if_pos ho, Lane.touch_eq]

/-- An in-order write that has its segment. -/
theorem State.inOrderWrite_segmented (hb : Books w) (h : segmentTaken w x k off chain remaining) :
    (w.setLane n (laneTouched (w.lane n))).inOrderWrite n k off data =
      ((parsed w n k chain remaining data).2.elim ((segmented w x n k chain remaining).recordUnit n k (parsed w n k chain remaining data).1)
          fun q => ((segmented w x n k chain remaining).recordUnit n k (parsed w n k chain remaining data).1).blockCompleted n q,
        some (.write (chainAddress w chain off) data)) := by
  have haddr : (segmented w x n k chain remaining).storeAddress ((segmented w x n k chain remaining).takeAt k).chain off = chainAddress w chain off := by
    have hlayout : (segmented w x n k chain remaining).layout = w.layout := by unfold segmented; rw [h.frame]; rfl
    rw [segmented_take hb h, State.storeAddress, hlayout]; rfl
  rw [State.inOrderWrite, State.segmentFor_some hb h]
  have hparse : ((x.setLane n (laneTouched (w.lane n))).setTake k { w.takeAt k with chain := chain, remaining := remaining }).parseUnit n k data =
    parsed w n k chain remaining data := segmented_parse hb h
  simp only [hparse]
  refine Prod.ext ?_ (congrArg (fun a => some (StoreAccess.write a data)) haddr)
  cases (parsed w n k chain remaining data).2 <;> rfl

/-- A write in order that reaches the lane, on the state that it finds. -/
theorem State.laneWrite_inOrder (hrec : recordsTake w n k) (hsrc : t.source = (w.lane n).cfg.dataSource) (hlen : data.length = 64)
    (hflag : (w.takeAt k).flags &&& Flag.truncated.set = 0) (hoff : off = (w.lane n).nextOffset) :
    w.laneWrite n t.source off data = (w.setLane n (laneTouched (w.lane n))).inOrderWrite n k off data :=
  (State.laneWrite_taken hrec hsrc hlen).trans (State.takenWrite_inOrder hflag hoff)

theorem Moves.touched (hb : Books w) (n : Fin 8) : Moves w (w.setLane n (laneTouched (w.lane n))) := by
  rw [← Lane.touch_eq]
  exact (Move.tweakLane n (hb.touch_tweak n)).moves

/-- The record of the statements is a succession of moves. -/
theorem Moves.unitRecorded (hb : Books w) (hrec : recordsTake w n k) (h : segmentTaken w x k off chain remaining) (hoff : off = (w.lane n).nextOffset)
    (hlt : off < Config.apertureBytes) (data : List Byte) :
    Moves w (Sys2Proof.Machine.unitRecorded w x n k off (parsed w n k chain remaining data)) := by
  have hk := hb.slot (hb.busy_of_current hrec.1)
  have ht := Moves.touched hb n
  have hlane : (w.setLane n (laneTouched (w.lane n))).lane n = laneTouched (w.lane n) := State.lane_setLane_self w n _
  have hr := Moves.recordUnit (ht.books hb) (n := n) (k := k) (by rw [hlane]; exact hrec.1) (by rw [hlane]; exact hoff) hlt
    (State.segmentFor_some hb h) data
  have hparse : ((x.setLane n (laneTouched (w.lane n))).setTake k { w.takeAt k with chain := chain, remaining := remaining }).parseUnit n k data =
    parsed w n k chain remaining data := segmented_parse hb h
  rw [hparse] at hr
  have hall : Moves w ((segmented w x n k chain remaining).recordUnit n k (parsed w n k chain remaining data).1) := ht.trans hr
  have hbr := Moves.books hall hb
  rw [unitRecorded_eq hb h hk hoff rfl rfl]
  refine hall.tail (Move.tweakLane n (hbr.laneTweak ?_ rfl))
  have hst : (((segmented w x n k chain remaining).recordUnit n k (parsed w n k chain remaining data).1).lane n).state = (w.lane n).state := by
    rw [State.recordUnit, State.lane_setLane_self, segmented_lane]; rfl
  exact hst ▸ hrec.enabled

/-- Settles O36. -/
theorem inOrderWriteRecordsTheUnit : Obligations.InOrderWriteRecordsTheUnit := by
  intro t s w n k off data hrig hports hw hreach hwrite hlen hrec hsrc hflag hoff
  obtain ⟨u, hexec, hj⟩ := exec_laneWrite hrig hports hw hreach hwrite
  rw [State.laneWrite_inOrder hrec hsrc hlen hflag hoff] at hj
  refine ⟨u, hexec, fun h1 h2 h3 => ?_, fun x chain remaining y hb ht hseg hy => ?_⟩
  · have hnone : (w.setLane n (laneTouched (w.lane n))).segmentFor k off = none := State.segmentFor_none h1 h2 h3
    rw [State.inOrderWrite, hnone] at hj
    exact hj
  · have htw := ht.watched hb hw
    have hbw := hb.watched hw
    have hk := hbw.slot (hbw.busy_of_current hrec.1)
    have hmoves := Moves.unitRecorded hbw hrec hseg hoff hreach.inAperture data
    rw [← hy] at hmoves
    rw [State.inOrderWrite_segmented hbw hseg] at hj
    obtain ⟨rec, hrecd⟩ : ∃ rec, rec = (segmented w x n k chain remaining).recordUnit n k (parsed w n k chain remaining data).1 := ⟨_, rfl⟩
    have hyr (last) (hlast : last = (parsed w n k chain remaining data).2.or (w.lane n).lastSeq) :
        y = rec.setLane n { rec.lane n with lastSeq := last } := by rw [hy, hrecd]; exact unitRecorded_eq hbw hseg hk hoff rfl hlast
    have hlane : rec.lane n = { laneTouched (w.lane n) with
        track := (parsed w n k chain remaining data).1.track, nextOffset := (w.lane n).nextOffset + 64 } := by
      rw [hrecd, State.recordUnit, State.lane_setLane_self, segmented_lane]; rfl
    have hst : (rec.lane n).state = (w.lane n).state := by rw [hlane]; rfl
    have hfin : (rec.lane n).finalSeq = (w.lane n).finalSeq := by rw [hlane]; rfl
    rw [← hrecd] at hj
    have hdone (q : BitVec 16) (hq : (parsed w n k chain remaining data).2 = some q) : rec.blockCompleted n q =
        if (w.lane n).state = .closing ∧ (w.lane n).finalSeq = some q then y.sealTake n .endMarker false else y := by
      rw [State.blockCompleted, hst, hfin, hyr (some q) (by rw [hq]; rfl)]
    refine ⟨fun hno => ?_, fun q hq hstate hfinal => ?_⟩
    · cases hq : (parsed w n k chain remaining data).2 with
      | none =>
        rw [hq] at hj
        have hsame : y = rec := by
          have hlast : (rec.lane n).lastSeq = (w.lane n).lastSeq := by rw [hlane]; rfl
          rw [hyr (w.lane n).lastSeq (by rw [hq]; rfl), ← hlast]
          exact State.setLane_lane rec n
        rw [hsame]; exact hj
      | some q =>
        rw [hq] at hj
        have hnot : ¬((w.lane n).state = .closing ∧ (w.lane n).finalSeq = some q) := fun h => hno q hq h.1 h.2
        simp only [Option.elim_some] at hj
        rw [hdone q hq, if_neg hnot] at hj
        exact hj
    · rw [hq] at hj
      simp only [Option.elim_some] at hj
      rw [hdone q hq, if_pos ⟨hstate, hfinal⟩] at hj
      have hyl : y.lane n = { rec.lane n with lastSeq := some q } := by
        rw [hyr (some q) (by rw [hq]; rfl)]; exact State.lane_setLane_self _ _ _
      have hyrec : recordsTake y n k := by
        rw [recordsTake, hyl]
        exact ⟨by show (rec.lane n).current = _; rw [hlane]; exact hrec.1, .inr (hst.trans hstate)⟩
      exact ⟨_, hj, (hmoves.books hbw).sealTake_sealedBy (Change.tubesMatch (.moves hmoves) hbw htw) hyrec rfl⟩

end Sys2Proof.Machine
end

section
/-! The end of all work (R51): the WAITING lanes leave the queue, then each lane's take is sealed and the lane shut. -/

namespace Sys2Proof.Machine

variable {s t u : State} {n m : Fin 8} {k : Nat}

/-- These reports are posted, one after the other. -/
structure Posts (rs : List Report) (s t : State) : Prop where
  notices : t.notices = rs.foldl NoticeWriter.create s.notices
  arbiter : t.arbiter = arbiterAfter s.arbiter rs

theorem Posts.nil (s : State) : Posts [] s s := ⟨rfl, rfl⟩

theorem Posts.append {rs rs' : List Report} (h : Posts rs s t) (h' : Posts rs' t u) : Posts (rs ++ rs') s u :=
  ⟨by rw [h'.notices, h.notices, List.foldl_append], by rw [h'.arbiter, h.arbiter, arbiterAfter_append]⟩

theorem Posts.post (r : Report) (s : State) : Posts [r] s (s.post r) := ⟨rfl, State.arbiter_post r⟩

theorem Posts.congr {rs : List Report} {s' t' : State} (h : Posts rs s t) (hs : s'.notices = s.notices) (ha : s'.arbiter = s.arbiter)
    (ht : t'.notices = t.notices) (hta : t'.arbiter = t.arbiter) : Posts rs s' t' :=
  ⟨by rw [ht, h.notices, hs], by rw [hta, h.arbiter, ha]⟩

theorem State.laneLine_setLaneLine (s : State) (n m : Fin 8) (l : LaneLine) :
    (s.setLaneLine n l).laneLine m = if m = n then l else s.laneLine m := by
  split
  next e => rw [e, State.laneLine_setLaneLine_self]
  next e => exact State.laneLine_setLaneLine_ne _ l e

/-! ## The WAITING lanes leave -/

/-- The reports of held starts refused as all work ends; none under a rig reset. -/
def dropReports (quiet : Bool) (s : State) (ns : List (Fin 8)) : List Report :=
  if quiet then [] else ns.filterMap fun n =>
    (s.lane n).held.map fun h => { Report.blank .startRefused with lane := some n, tube := some h.1, cause := some (.refused .disabled) }

/-- The lanes of the list that were WAITING have left the queue, with their tubes' claims. -/
structure Dropped (quiet : Bool) (ns : List (Fin 8)) (s t : State) : Prop where
  frame : t = { s with pool := { s.pool with queue := t.pool.queue }, tubes := t.tubes, lanes := t.lanes, notices := t.notices,
                       arbiter := t.arbiter }
  lanes : ∀ m, t.lane m = if m ∈ ns ∧ (s.lane m).state = .waiting then (s.lane m).standDown else s.lane m
  tubes : ∀ i, ({ t.tubeAt i with claim := none } : Tube) = { s.tubeAt i with claim := none }
  posts : Posts (dropReports quiet s ns) s t

theorem State.tubeAt_unclaim_claim (hf : s.tubesForm) (p : TubePos) (i : Nat) :
    ({ (s.unclaim p).tubeAt i with claim := none } : Tube) = { s.tubeAt i with claim := none } := by
  have h : (s.unclaim p).tubeAt i = if i = p.index then { s.tubeAt p.index with claim := none } else s.tubeAt i :=
    State.tubeAt_setTube hf p.index i _
  rw [h]; split
  next e => rw [e]
  next => rfl

theorem Books.dropWaiting_dropped (hb : Books s) (q : Bool) (n : Fin 8) : Dropped q [n] s (State.dropWaiting q s n) := by
  by_cases hw : (s.lane n).state = .waiting
  · obtain ⟨p, d, hp⟩ := hb.held_of_waiting hw
    have hlane (x : State) (hx : x = ((s.leaveQueue n).unclaim p).setLane n (s.lane n).standDown) (m : Fin 8) :
        x.lane m = if m ∈ [n] ∧ (s.lane m).state = .waiting then (s.lane m).standDown else s.lane m := by
      rw [hx, State.lane_setLane]
      by_cases hm : m = n
      · subst hm; rw [if_pos rfl, if_pos ⟨by simp, hw⟩]
      · rw [if_neg hm, if_neg (by simp [hm])]; rfl
    have htube (x : State) (hx : x.tubes = ((s.leaveQueue n).unclaim p).tubes) (i : Nat) :
        ({ x.tubeAt i with claim := none } : Tube) = { s.tubeAt i with claim := none } := by
      have h := State.tubeAt_unclaim_claim (s := s.leaveQueue n) hb.tubesForm p i
      simp only [State.tubeAt, hx] at h ⊢
      exact h
    cases q with
    | true =>
      have hx : State.dropWaiting true s n = ((s.leaveQueue n).unclaim p).setLane n (s.lane n).standDown := by
        rw [State.dropWaiting, if_pos hw]; exact State.dropHeld_eq hp
      rw [hx]
      exact ⟨rfl, hlane _ rfl, htube _ rfl, rfl, rfl⟩
    | false =>
      have hx : State.dropWaiting false s n = heldRefused s n p .disabled := by
        rw [State.dropWaiting, if_pos hw, ← State.refuseHeld_eq .disabled hp]; rfl
      rw [hx]
      refine ⟨rfl, fun m => ?_, fun i => htube _ rfl i, ?_⟩
      · rw [← hlane _ rfl m]; rfl
      · have hr : dropReports false s [n] = [refusedReport n p .disabled] := by simp [dropReports, hp]; rfl
        rw [hr]
        exact (Posts.post (refusedReport n p .disabled) (((s.leaveQueue n).unclaim p).setLane n (s.lane n).standDown)).congr rfl rfl rfl rfl
  · have hx : State.dropWaiting q s n = s := if_neg hw
    rw [hx]
    refine ⟨rfl, fun m => ?_, fun _ => rfl, ?_⟩
    · rw [if_neg]
      rintro ⟨hm, hm'⟩
      rw [List.mem_singleton.1 hm] at hm'
      exact hw hm'
    · have hr : dropReports q s [n] = [] := by
        cases q with
        | true => rfl
        | false => simp [dropReports, hb.held_none hw]
      rw [hr]; exact .nil s

theorem Dropped.cons {q : Bool} {ns : List (Fin 8)} (hn : n ∉ ns) (h : Dropped q [n] s t) (h' : Dropped q ns t u) : Dropped q (n :: ns) s u := by
  have hsame {m : Fin 8} (hm : m ≠ n) : t.lane m = s.lane m := by rw [h.lanes, if_neg (by simp [hm])]
  refine ⟨?_, fun m => ?_, fun i => (h'.tubes i).trans (h.tubes i), ?_⟩
  · have h2 := h'.frame
    rw [h.frame] at h2
    exact h2
  · rw [h'.lanes]
    by_cases hm : m = n
    · subst hm
      rw [if_neg (fun e => hn e.1), h.lanes]
      simp
    · rw [hsame hm]
      simp [hm]
  · have hr : dropReports q s (n :: ns) = dropReports q s [n] ++ dropReports q t ns := by
      cases q with
      | true => rfl
      | false =>
        have htail : dropReports false t ns = dropReports false s ns :=
          List.filterMap_congr fun m hm => by rw [hsame fun e => hn (e ▸ hm)]
        rw [htail]
        simp only [dropReports, Bool.false_eq_true, if_false]
        rw [← List.filterMap_append, List.singleton_append]
    rw [hr]
    exact h.posts.append h'.posts

theorem Books.foldl_dropped (hb : Books s) (q : Bool) {ns : List (Fin 8)} (hn : ns.Nodup) :
    Dropped q ns s (ns.foldl (State.dropWaiting q) s) := by
  induction ns generalizing s with
  | nil => exact ⟨rfl, fun _ => by simp, fun _ => rfl, by cases q <;> exact .nil s⟩
  | cons n ns ih =>
    obtain ⟨hnew, hn⟩ := List.nodup_cons.1 hn
    exact .cons hnew (hb.dropWaiting_dropped q n) (ih ((Moves.dropWaiting hb q n).books hb) hn)

/-! ## Each lane ends its work -/

/-- The report of a seal as all work ends. -/
def sealReports (quiet : Bool) (cause : CloseCause) (s : State) (ns : List (Fin 8)) : List Report :=
  if quiet then [] else ns.filterMap fun n => (s.lane n).current.map fun k => Report.takeSealed k (sealOf s n k cause) cause

/-- The lanes of the list have ended their work: their takes sealed, their tubes updated, the lanes shut. -/
structure WorkEnded (cause : CloseCause) (quiet : Bool) (ns : List (Fin 8)) (s t : State) : Prop where
  frame : t = { s with
    pool := { s.pool with
      reserved := t.pool.reserved, armed := s.pool.armed || decide (s.pool.highMark ≤ s.pool.freeCount - t.pool.reserved) }
    takes := t.takes, tubes := t.tubes, lanes := t.lanes, laneLines := t.laneLines, notices := t.notices, arbiter := t.arbiter }
  falls : t.pool.reserved ≤ s.pool.reserved
  lanes : ∀ m, t.lane m = if m ∈ ns then Lane.disabled (s.lane m).cfg else s.lane m
  lines : ∀ m, t.laneLine m = if m ∈ ns then LaneLine.idle else s.laneLine m
  takes : ∀ m k, (s.lane m).current = some k → m ∈ ns → t.takeAt k = sealOf s m k cause
  others : ∀ k, (∀ m ∈ ns, (s.lane m).current ≠ some k) → t.takeAt k = s.takeAt k
  tubes : ∀ m k i, (s.lane m).current = some k → m ∈ ns → (s.takeAt k).tubeIndex = some i →
    t.tubeAt i = tubeAfterSeal (s.tubeAt i) (sealOf s m k cause).state
  rest : ∀ i, (∀ m ∈ ns, ∀ k, (s.lane m).current = some k → (s.takeAt k).tubeIndex ≠ some i) → t.tubeAt i = s.tubeAt i
  posts : Posts (sealReports quiet cause s ns) s t

/-- The seal of one lane's take, with the lane shut, on an empty queue. -/
theorem Books.endWork_recording (hb : Books s) (hq : s.pool.queue = []) (hk : (s.lane n).current = some k) (cause : CloseCause) (q : Bool) :
    State.endWork cause q s n =
      { ((((reservationReturned s k).setTake k (sealOf s n k cause)).sealTube (sealOf s n k cause)).setLaneBoth n
          (Lane.disabled (s.lane n).cfg) LaneLine.idle) with
        notices := (if q then s else s.post (Report.takeSealed k (sealOf s n k cause) cause)).notices
        arbiter := (if q then s else s.post (Report.takeSealed k (sealOf s n k cause) cause)).arbiter } := by
  obtain ⟨-, htr, hlr⟩ := hb.current hk
  have hks := hb.slot (hb.busy_of_current hk)
  have hself : ((reservationReturned s k).setTake k ((s.takeAt k).closed cause (s.lane n).track.parser.midBlock
      (s.expectedOf (s.takeAt k)))).takeAt k = (s.takeAt k).closed cause (s.lane n).track.parser.midBlock (s.expectedOf (s.takeAt k)) :=
    State.takeAt_setTake_self (s := reservationReturned s k) hb.takesForm k _
  have hset := State.setTake_setTake (s := reservationReturned s k) hb.takesForm (k := k)
    ((s.takeAt k).closed cause (s.lane n).track.parser.midBlock (s.expectedOf (s.takeAt k))) (sealOf s n k cause) hks
  have hjudged := Take.judged_closed s n k cause
  rw [State.endWork, State.sealRecording, if_pos hlr, hb.sealTake_shut hk, State.sealMost_empty hq, hb.sealReady_eq cause q, State.sealEnd,
    hself]
  have hmask : ((reservationReturned s k).setTake k ((s.takeAt k).closed cause (s.lane n).track.parser.midBlock
      (s.expectedOf (s.takeAt k)))).rejectMask = s.rejectMask := rfl
  rw [hmask, hjudged, hset]
  have hframe := State.sealTube_frame ((reservationReturned s k).setTake k (sealOf s n k cause)) (sealOf s n k cause)
  generalize ((reservationReturned s k).setTake k (sealOf s n k cause)).sealTube (sealOf s n k cause) = x at hframe
  cases q with
  | true => rw [hframe]; rfl
  | false => rw [hframe]; rfl

theorem Books.endWork_ended (hb : Books s) (hq : s.pool.queue = []) (cause : CloseCause) (q : Bool) (n : Fin 8) :
    WorkEnded cause q [n] s (State.endWork cause q s n) := by
  have hmem {m : Fin 8} : m ∈ [n] ↔ m = n := List.mem_singleton
  cases hk : (s.lane n).current with
  | some k =>
    have hks := hb.slot (hb.busy_of_current hk)
    have hset := State.sealTube_frame ((reservationReturned s k).setTake k (sealOf s n k cause)) (sealOf s n k cause)
    have htube := State.tubeAt_sealTube (s := (reservationReturned s k).setTake k (sealOf s n k cause)) hb.tubesForm (sealOf s n k cause)
    have htake := State.takeAt_setTake (s := reservationReturned s k) hb.takesForm k
    rw [hb.endWork_recording hq hk cause q]
    generalize ((reservationReturned s k).setTake k (sealOf s n k cause)).sealTube (sealOf s n k cause) = x at hset htube
    have htakes (j : Nat) : x.takeAt j = if j = k then sealOf s n k cause else s.takeAt j := by rw [hset]; exact htake j _
    refine ⟨?_, ?_, fun m => ?_, fun m => ?_, fun m j hj hm => ?_, fun j hj => ?_, fun m j i hj hm hi => ?_, fun i hi => ?_, ?_⟩
    · rw [hset]; rfl
    · show x.pool.reserved ≤ s.pool.reserved
      rw [hset]; exact Nat.sub_le _ _
    · have h : ((x.setLaneBoth n (Lane.disabled (s.lane n).cfg) LaneLine.idle).lane m) =
          if m = n then Lane.disabled (s.lane n).cfg else x.lane m := State.lane_setLane _ n m _
      refine h.trans ?_
      simp only [hmem]
      split
      next e => rw [e]
      next => rw [hset]; rfl
    · have h : ((x.setLaneBoth n (Lane.disabled (s.lane n).cfg) LaneLine.idle).laneLine m) =
          if m = n then LaneLine.idle else x.laneLine m := State.laneLine_setLaneLine (x.setLane n _) n m _
      refine h.trans ?_
      simp only [hmem]
      split
      next => rfl
      next => rw [hset]; rfl
    · obtain rfl := hmem.1 hm
      rw [hk] at hj
      obtain rfl := Option.some_inj.1 hj
      exact (htakes k).trans (if_pos rfl)
    · refine (htakes j).trans (if_neg ?_)
      rintro rfl
      exact hj n (by simp) hk
    · obtain rfl := hmem.1 hm
      rw [hk] at hj
      obtain rfl := Option.some_inj.1 hj
      refine (htube i).trans ?_
      rw [if_pos (by exact hi)]; rfl
    · refine (htube i).trans ?_
      rw [if_neg (by exact hi n (by simp) k hk)]; rfl
    · cases q with
      | true => exact ⟨rfl, rfl⟩
      | false =>
        have hr : sealReports false cause s [n] = [Report.takeSealed k (sealOf s n k cause) cause] := by simp [sealReports, hk]
        rw [hr]
        exact (Posts.post (Report.takeSealed k (sealOf s n k cause) cause) s).congr rfl rfl rfl rfl
  | none =>
    have hrec : (s.lane n).recording = false := by
      cases h : (s.lane n).recording with
      | false => rfl
      | true =>
        obtain ⟨k, hk'⟩ := hb.current_of_recording h
        rw [hk] at hk'; cases hk'
    have hx : State.endWork cause q s n = s.shutLane n := by rw [State.endWork, State.sealRecording, hrec]; rfl
    have hnot {m : Fin 8} {j : Nat} (hm : m ∈ [n]) : (s.lane m).current ≠ some j := by rw [hmem.1 hm, hk]; exact nofun
    rw [hx]
    refine ⟨?_, Nat.le_refl _, fun m => ?_, fun m => ?_, fun m j hj hm => absurd hj (hnot hm), fun _ _ => rfl,
      fun m j i hj hm => absurd hj (hnot hm), fun _ _ => rfl, ?_⟩
    · have harmed : (s.pool.armed || decide (s.pool.highMark ≤ s.pool.freeCount - s.pool.reserved)) = s.pool.armed := by
        cases ha : s.pool.armed with
        | true => rfl
        | false => simpa using hb.latch.disarmed ha
      show s.shutLane n = { s.shutLane n with pool := { s.pool with
        armed := s.pool.armed || decide (s.pool.highMark ≤ s.pool.freeCount - s.pool.reserved) } }
      rw [harmed]; rfl
    · have h : (s.shutLane n).lane m = if m = n then Lane.disabled (s.lane n).cfg else s.lane m := State.lane_setLane _ n m _
      refine h.trans ?_
      simp only [hmem]
      split
      next e => rw [e]
      next => rfl
    · have h : (s.shutLane n).laneLine m = if m = n then LaneLine.idle else s.laneLine m :=
        State.laneLine_setLaneLine (s.setLane n _) n m _
      refine h.trans ?_
      simp only [hmem]
    · have hr : sealReports q cause s [n] = [] := by cases q <;> simp [sealReports, hk]
      rw [hr]; exact ⟨rfl, rfl⟩

end Sys2Proof.Machine
end

section
/-! All work ended (R51): what the departures and the seals together leave of the lanes, the takes, the tubes and the pool. -/

namespace Sys2Proof.Machine

variable {s t u : State} {n m : Fin 8} {k : Nat}

/-- A seal reads the take, its lane's parser, what its tube expects, and the mask. -/
theorem sealOf_congr (cause : CloseCause) (hk : t.takeAt k = s.takeAt k) (hl : t.lane n = s.lane n) (hm : t.rejectMask = s.rejectMask)
    (hi : ∀ i, (s.takeAt k).tubeIndex = some i → (t.tubeAt i).expected = (s.tubeAt i).expected) : sealOf t n k cause = sealOf s n k cause := by
  have hflags : sealFlags t n k cause = sealFlags s n k cause := by
    unfold sealFlags
    rw [hk, hl]
    cases hp : (s.takeAt k).tube with
    | none => rfl
    | some p =>
      have he := hi p.index (by rw [Take.tubeIndex, hp]; rfl)
      simp only [he]
  unfold sealOf
  rw [hflags, hk, hm]

/-- Two lanes' takes are of two tubes. -/
theorem TubesMatch.tube_ne (h : TubesMatch s) {j i : Nat} (hmn : m ≠ n) (hj : (s.lane m).current = some j) (hk : (s.lane n).current = some k)
    (hi : (s.takeAt j).tubeIndex = some i) : (s.takeAt k).tubeIndex ≠ some i := fun e => by
  have hm := (h.claims i m).2 (.inr ⟨j, hj, hi⟩)
  have hn := (h.claims i n).2 (.inr ⟨k, hk, e⟩)
  rw [hm] at hn
  exact hmn (Option.some_inj.1 hn)

/-- Two lanes' takes are two takes. -/
theorem Books.take_ne (h : Books s) {j : Nat} (hmn : m ≠ n) (hj : (s.lane m).current = some j) (hk : (s.lane n).current = some k) : j ≠ k := by
  rintro rfl
  exact hmn ((h.current hj).1.symm.trans (h.current hk).1)

theorem sealReports_congr {cause : CloseCause} (q : Bool) {ns : List (Fin 8)} (hc : ∀ m ∈ ns, (t.lane m).current = (s.lane m).current)
    (hk : ∀ m ∈ ns, ∀ k, (s.lane m).current = some k → sealOf t m k cause = sealOf s m k cause) :
    sealReports q cause t ns = sealReports q cause s ns := by
  cases q with
  | true => rfl
  | false =>
    refine List.filterMap_congr fun m hm => ?_
    rw [hc m hm]
    cases h : (s.lane m).current with
    | none => rfl
    | some k => rw [Option.map_some, Option.map_some, hk m hm k h]

theorem sealReports_cons (q : Bool) (cause : CloseCause) (s : State) (n : Fin 8) (ns : List (Fin 8)) :
    sealReports q cause s (n :: ns) = sealReports q cause s [n] ++ sealReports q cause s ns := by
  cases q with
  | true => rfl
  | false =>
    simp only [sealReports, Bool.false_eq_true, if_false]
    rw [← List.filterMap_append, List.singleton_append]

/-- The claim apart, equal tubes expect the same and are the same after a seal. -/
theorem Tube.expected_of_unclaimed {x y : Tube} (h : ({ x with claim := none } : Tube) = { y with claim := none }) : x.expected = y.expected :=
  Tube.noConfusion h fun _ _ he _ _ _ _ _ _ _ => he

theorem tubeAfterSeal_of_unclaimed {x y : Tube} (h : ({ x with claim := none } : Tube) = { y with claim := none }) (st : TakeState) :
    tubeAfterSeal x st = tubeAfterSeal y st := by
  have hs := congrArg (tubeAfterSeal · st) h
  exact hs

theorem WorkEnded.cons {cause : CloseCause} {q : Bool} {ns : List (Fin 8)} (hb : Books s) (ht : TubesMatch s) (hn : n ∉ ns)
    (h : WorkEnded cause q [n] s t) (h' : WorkEnded cause q ns t u) : WorkEnded cause q (n :: ns) s u := by
  have hne {m : Fin 8} (hm : m ∈ ns) : m ≠ n := fun e => hn (e ▸ hm)
  have hmem {m : Fin 8} : m ∈ [n] ↔ m = n := List.mem_singleton
  have hlane {m : Fin 8} (hm : m ≠ n) : t.lane m = s.lane m := by rw [h.lanes, if_neg (by simp [hm])]
  have htake {m : Fin 8} {k : Nat} (hm : m ≠ n) (hk : (s.lane m).current = some k) : t.takeAt k = s.takeAt k :=
    h.others k fun m' hm' hk' => hb.take_ne (by rw [hmem.1 hm']; exact hm) hk hk' rfl
  have htube {m : Fin 8} {k i : Nat} (hm : m ≠ n) (hk : (s.lane m).current = some k) (hi : (s.takeAt k).tubeIndex = some i) :
      t.tubeAt i = s.tubeAt i :=
    h.rest i fun m' hm' k' hk' => ht.tube_ne (by rw [hmem.1 hm']; exact hm) hk hk' hi
  have hseal {m : Fin 8} {k : Nat} (hm : m ≠ n) (hk : (s.lane m).current = some k) : sealOf t m k cause = sealOf s m k cause := by
    refine sealOf_congr cause (htake hm hk) (hlane hm) ?_ fun i hi => by rw [htube hm hk hi]
    rw [h.frame]
  refine ⟨?_, h'.falls.trans h.falls, fun m => ?_, fun m => ?_, fun m k hk hm => ?_, fun k hk => ?_, fun m k i hk hm hi => ?_,
    fun i hi => ?_, ?_⟩
  · have h2 := h'.frame
    have harmed : (t.pool.armed || decide (t.pool.highMark ≤ t.pool.freeCount - u.pool.reserved)) =
        (s.pool.armed || decide (s.pool.highMark ≤ s.pool.freeCount - u.pool.reserved)) := by
      have hle := h'.falls
      rw [h.frame]
      dsimp only
      rw [Bool.or_assoc]
      congr 1
      rw [Bool.or_eq_right_iff_imp]
      intro hd
      exact decide_eq_true ((of_decide_eq_true hd).trans (Nat.sub_le_sub_left hle _))
    rw [harmed, h.frame] at h2
    exact h2
  · rw [h'.lanes]
    by_cases hm : m = n
    · subst hm
      rw [if_neg hn, h.lanes, if_pos (by simp), if_pos (by simp)]
    · rw [hlane hm]
      simp [hm]
  · rw [h'.lines, h.lines]
    by_cases hm : m = n <;> simp [hm]
  · by_cases he : m = n
    · subst he
      refine (h'.others k fun m' hm' hk' => ?_).trans (h.takes m k hk (by simp))
      rw [hlane (hne hm')] at hk'
      exact hb.take_ne (hne hm') hk' hk rfl
    · have hm' : m ∈ ns := (List.mem_cons.1 hm).resolve_left he
      rw [h'.takes m k (by rw [hlane he]; exact hk) hm', hseal he hk]
  · refine (h'.others k fun m hm hk' => ?_).trans (h.others k fun m hm => hk m ?_)
    · rw [hlane (hne hm)] at hk'
      exact hk m (List.mem_cons_of_mem _ hm) hk'
    · rw [hmem.1 hm]; exact List.mem_cons_self
  · by_cases he : m = n
    · subst he
      refine (h'.rest i fun m' hm' k' hk' => ?_).trans (h.tubes m k i hk (by simp) hi)
      rw [hlane (hne hm')] at hk'
      rw [htake (hne hm') hk']
      exact ht.tube_ne (hne hm').symm hk hk' hi
    · have hm' : m ∈ ns := (List.mem_cons.1 hm).resolve_left he
      rw [h'.tubes m k i (by rw [hlane he]; exact hk) hm' (by rw [htake he hk]; exact hi), hseal he hk, htube he hk hi]
  · refine (h'.rest i fun m hm k hk => ?_).trans (h.rest i fun m hm => hi m ?_)
    · rw [hlane (hne hm)] at hk
      rw [htake (hne hm) hk]
      exact hi m (List.mem_cons_of_mem _ hm) k hk
    · rw [hmem.1 hm]; exact List.mem_cons_self
  · rw [sealReports_cons, ← sealReports_congr (t := t) q (fun m hm => by rw [hlane (hne hm)]) fun m hm k hk => hseal (hne hm) hk]
    exact h.posts.append h'.posts

theorem Books.foldl_ended (hb : Books s) (ht : TubesMatch s) (hq : s.pool.queue = []) (cause : CloseCause) (q : Bool) {ns : List (Fin 8)}
    (hn : ns.Nodup) : WorkEnded cause q ns s (ns.foldl (State.endWork cause q) s) := by
  induction ns generalizing s with
  | nil =>
    refine ⟨?_, Nat.le_refl _, fun _ => by simp, fun _ => by simp, nofun, fun _ _ => rfl, nofun, fun _ _ => rfl, ?_⟩
    · have harmed : (s.pool.armed || decide (s.pool.highMark ≤ s.pool.freeCount - s.pool.reserved)) = s.pool.armed := by
        cases ha : s.pool.armed with
        | true => rfl
        | false => simpa using hb.latch.disarmed ha
      show s = { s with pool := { s.pool with armed := s.pool.armed || decide (s.pool.highMark ≤ s.pool.freeCount - s.pool.reserved) } }
      rw [harmed]
    · cases q <;> exact .nil s
  | cons n ns ih =>
    obtain ⟨hnew, hn⟩ := List.nodup_cons.1 hn
    have hw : (s.lane n).state ≠ .waiting := fun hw => by
      have := (hb.queue.queued n).2 hw
      rw [hq] at this
      cases this
    have hm := Moves.endWork hb hw cause q
    exact .cons hb ht hnew (hb.endWork_ended hq cause q n)
      (ih (hm.books hb) (Change.tubesMatch (.moves hm) hb ht) (State.queue_endWork hq cause q n) hn)

/-! ## Departures and seals -/

theorem Dropped.current {q : Bool} {ns : List (Fin 8)} (h : Dropped q ns s t) (m : Fin 8) :
    (t.lane m).current = (s.lane m).current := by
  rw [h.lanes]; split <;> rfl

theorem Dropped.takeAt {q : Bool} {ns : List (Fin 8)} (h : Dropped q ns s t) (k : Nat) : t.takeAt k = s.takeAt k := by
  rw [h.frame]; rfl

/-- The departures leave the seals to come as they are. -/
theorem Dropped.sealOf {q : Bool} {ns : List (Fin 8)} (hb : Books s) (h : Dropped q ns s t) (cause : CloseCause)
    (hk : (s.lane n).current = some k) : sealOf t n k cause = sealOf s n k cause := by
  refine sealOf_congr cause (h.takeAt k) ?_ (by rw [h.frame]) fun i _ => ?_
  · rw [h.lanes, if_neg]
    rintro ⟨-, hw⟩
    have := (hb.current hk).2.2
    simp [Lane.recording, hw] at this
  · exact Tube.expected_of_unclaimed (h.tubes i)

/-- No lane works any more, so no take is recording, nothing is reserved and no tube is claimed. -/
structure AllEnded (cause : CloseCause) (quiet : Bool) (s t : State) : Prop where
  frame : t = { s with
    pool := { s.pool with reserved := 0, queue := [], armed := s.pool.armed || decide (s.pool.highMark ≤ s.pool.freeCount) }
    takes := t.takes, tubes := t.tubes, lanes := t.lanes, laneLines := t.laneLines, notices := t.notices, arbiter := t.arbiter }
  lanes : ∀ n, t.lane n = Lane.disabled (s.lane n).cfg ∧ t.laneLine n = LaneLine.idle
  takes : ∀ k, t.takeAt k = afterEnding s cause k
  tubes : TubesReleased s t cause
  idle : ∀ i, (t.tubeAt i).claim = none ∧ (t.tubeAt i).status ≠ .inTest
  posts : Posts (dropReports quiet s allLanes ++ sealReports quiet cause s allLanes) s t

theorem Books.no_recording (h : Books s) (hd : ∀ n, (s.lane n).current = none) (k : Nat) : (s.takeAt k).state.recording = false := by
  cases hr : (s.takeAt k).state.recording with
  | false => rfl
  | true =>
    have := h.lanes.named k hr
    rw [hd] at this; cases this

theorem Books.reserved_idle (h : Books s) (hd : ∀ n, (s.lane n).current = none) : s.pool.reserved = 0 := by
  rw [h.pool.reserved, List.sum_eq_zero_iff]
  intro r hr
  obtain ⟨e, he, rfl⟩ := List.mem_map.1 hr
  have hget := Sparse.get_of_mem h.takesForm (k := e.1) (v := e.2) he
  have hkept := h.kept e.1 (h.no_recording hd e.1)
  rw [State.takeAt, hget] at hkept
  exact hkept

theorem TubesMatch.idle (ht : TubesMatch s) (h : Books s) (hc : ∀ n, (s.lane n).current = none) (hh : ∀ n, (s.lane n).held = none) (i : Nat) :
    (s.tubeAt i).claim = none ∧ (s.tubeAt i).status ≠ .inTest := by
  constructor
  · refine Option.eq_none_iff_forall_ne_some.2 fun n hn => ?_
    obtain ⟨p, d, hp, -⟩ | ⟨k, hk, -⟩ := (ht.claims i n).1 hn
    · rw [hh] at hp; cases hp
    · rw [hc] at hk; cases hk
  · intro hs
    obtain ⟨k, hk, -⟩ := (ht.inTest i).1 hs
    rw [h.no_recording hc] at hk; cases hk

theorem Books.disableAll_ended (hb : Books s) (ht : TubesMatch s) (cause : CloseCause) (q : Bool) :
    AllEnded cause q s (s.disableAll cause q) := by
  have hm := Moves.disableAll hb cause q
  have hub := hm.books hb
  have hut := Change.tubesMatch (.moves hm) hb ht
  have hd : Dropped q allLanes s (s.dropAll q) := hb.foldl_dropped q allLanes_nodup
  have hdm := (Moves.dropAll hb q).1
  have he := (hdm.books hb).foldl_ended (Change.tubesMatch (.moves hdm) hb ht) (hb.queue_dropAll q) cause q allLanes_nodup
  have hempty := hb.queue_dropAll q
  rw [← hb.disableAll_eq] at he
  generalize s.disableAll cause q = u at hub hut he
  generalize s.dropAll q = x at hd he hempty
  have hlane (n : Fin 8) : u.lane n = Lane.disabled (s.lane n).cfg := by
    rw [he.lanes, if_pos (mem_allLanes n), hd.lanes]
    split <;> rfl
  have hcur (n : Fin 8) : (u.lane n).current = none := by rw [hlane]; rfl
  have hidle := hut.idle hub hcur fun n => by rw [hlane]; rfl
  have hx (m : Fin 8) : (x.lane m).current = (s.lane m).current := hd.current m
  have hrec {k : Nat} (hk : (s.takeAt k).state.recording = true) : (s.lane (s.takeAt k).lane).current = some k := hb.lanes.named k hk
  have hcur' {m : Fin 8} {k : Nat} (hk : (x.lane m).current = some k) :
      (s.lane m).current = some k ∧ (s.takeAt k).state.recording = true := by
    rw [hx] at hk
    exact ⟨hk, (hb.current hk).2.1⟩
  have htake {k : Nat} (hk : (s.takeAt k).state.recording = true) : u.takeAt k = sealOf s (s.takeAt k).lane k cause := by
    rw [he.takes _ k (by rw [hx]; exact hrec hk) (mem_allLanes _), hd.sealOf hb cause (hrec hk)]
  refine ⟨?_, fun n => ⟨hlane n, by rw [he.lines, if_pos (mem_allLanes n)]⟩, fun k => ?_, ⟨fun k i hk hi => ?_, fun i hi => ?_⟩, hidle, ?_⟩
  · have hres := hub.reserved_idle hcur
    have h2 := he.frame
    have h3 := hd.frame
    rw [hempty] at h3
    rw [hres, h3] at h2
    simpa only [Nat.sub_zero] using h2
  · unfold afterEnding
    cases hk : (s.takeAt k).state.recording with
    | true => exact htake hk
    | false =>
      refine (he.others k fun m _ hm => ?_).trans (hd.takeAt k)
      rw [(hcur' hm).2] at hk; cases hk
  · rw [afterEnding, if_pos hk, he.tubes _ k i (by rw [hx]; exact hrec hk) (mem_allLanes _) (by rw [hd.takeAt]; exact hi),
      hd.sealOf hb cause (hrec hk)]
    exact tubeAfterSeal_of_unclaimed (hd.tubes i) _
  · have h1 : u.tubeAt i = x.tubeAt i := he.rest i fun m _ k hk => by
      rw [hd.takeAt]; exact hi k (hcur' hk).2
    rw [← hd.tubes i, ← h1, ← (hidle i).1]
  · have hr := sealReports_congr q (ns := allLanes) (fun m _ => hx m) fun m _ k hk => hd.sealOf hb cause hk
    rw [← hr]
    exact hd.posts.append he.posts

end Sys2Proof.Machine
end

section
/-! BYPASS and the rig reset (R152, R184): each ends all work. -/

namespace Sys2Proof.Machine

variable {s t : State} {n : Fin 8} {k : Nat}

theorem SameBooks.tubesMatch (h : SameBooks s t) (hb : Books s) (ht : TubesMatch s) : TubesMatch t :=
  Change.tubesMatch (.moves h.moves) hb ht

/-- Settles O22: the request's act is the end of all work, with the mode set. -/
theorem bypassDisablesEveryLane : Obligations.BypassDisablesEveryLane := by
  refine fun s h => ⟨fun hm => ?_, fun hm hb ht => ?_⟩
  · simp only [exec, execBypass]
    refine State.request_gives h (u := s.takeEvent) ?_ rfl rfl
    simp only [State.takeEvent_mode, hm]
    rfl
  · have he := (hb.same .takeEvent).disableAll_ended (SameBooks.takeEvent.tubesMatch hb ht) .bypass false
    have hl : s.takeEvent.leaveEngaged = { s.takeEvent.disableAll .bypass false with mode := .bypass } := rfl
    have hexec {u : State} (hu : s.takeEvent.leaveEngaged = u) (ho : u.out = { Outputs.none with taken := true }) :
        exec .bypass s = .next (u.answered .bypass .done []) := by
      simp only [exec, execBypass]
      refine State.request_answers h ?_ ho
      simp only [State.takeEvent_mode, hm]
      rw [hu]; rfl
    generalize s.takeEvent.disableAll .bypass false = u at he hl
    have hout : u.out = { Outputs.none with taken := true } := by rw [he.frame]; rfl
    refine ⟨_, hexec hl hout, ?_, he.lanes, he.takes, he.idle, ⟨he.tubes.sealed, he.tubes.others⟩, he.posts.notices⟩
    · have harb : u.arbiter = arbiterAfter s.arbiter (bypassReports s) := he.posts.arbiter
      rw [← harb]
      have hf := congrArg (fun x : State => { x with mode := .bypass }) he.frame
      refine hf.trans ?_
      dsimp only
      rw [hout]
      rfl

/-! ## The rig reset -/

/-- Bytes clocked neither begin a frame nor end one. -/
theorem Link.clockOne_idle (l : Link) : l.clockOne.1.phase = .idle ↔ l.phase = .idle := by
  unfold Link.clockOne
  split
  case h_1 => rfl
  case h_2 hp _ _ => rw [hp]; dsimp only; split <;> simp
  case h_3 hp _ => rw [hp]; dsimp only; split <;> simp
  case h_4 => rfl

theorem Link.clock_idle (l : Link) (n : Nat) : (l.clock n).1.phase = .idle ↔ l.phase = .idle := by
  induction n generalizing l with
  | zero => rfl
  | succ n ih => exact (ih _).trans l.clockOne_idle

theorem Link.advance_idle (l : Link) (n : Nat) : (l.advance n).phase = .idle ↔ l.phase = .idle := by
  unfold Link.advance
  split
  · rfl
  · rfl
  all_goals exact l.clock_idle n

theorem Link.advance_abandon (l : Link) (n : Nat) :
    (l.advance n).abandon = if l.phase = .idle then l else { phase := .trailing, waitLeft := 0, reply := [] } := by
  unfold Link.abandon
  by_cases hi : l.phase = .idle
  · rw [if_pos ((l.advance_idle n).2 hi), if_pos hi]
    simp [Link.advance, hi]
  · rw [if_neg (mt (l.advance_idle n).1 hi), if_neg hi]

theorem State.link_clockBytes_abandon (s : State) (bytes : List Byte) :
    (s.clockBytes bytes).link.abandon = if s.link.phase = .idle then s.link else { phase := .trailing, waitLeft := 0, reply := [] } := by
  unfold State.clockBytes
  split
  · exact Link.advance_abandon _ _
  · rfl

/-- Settles O6: all work ends, then the rest of the rig reset. -/
theorem rigResetEndsWorkAndKeepsRecords : Obligations.RigResetEndsWorkAndKeepsRecords := by
  intro clocked s hb ht hp hr
  have hsame : SameBooks s (s.takeEvent.clockBytes clocked) := SameBooks.takeEvent.trans (.clockBytes _)
  have he := (hb.same hsame).disableAll_ended (hsame.tubesMatch hb ht) .rigReset true
  have hlink : (s.takeEvent.clockBytes clocked).link.abandon =
      if s.link.phase = .idle then s.link else { phase := .trailing, waitLeft := 0, reply := [] } :=
    s.takeEvent.link_clockBytes_abandon clocked
  have hrec := State.clockBytes_received (s := s.takeEvent) clocked hp rfl
  have hub := (Moves.disableAll (hb.same hsame) .rigReset true).books (hb.same hsame)
  have hframe := State.clockBytes_frame (s := s.takeEvent) clocked
  refine ⟨_, exec_rigReset hr hp, ?_⟩
  rw [State.rigResetEvent_eq]
  generalize (s.takeEvent.clockBytes clocked).disableAll .rigReset true = u at he hub
  generalize s.takeEvent.clockBytes clocked = c at he hlink hrec hframe
  have hulink : u.link = c.link := by rw [he.frame]
  have hout : u.out = { responses := [], access := none, linkBytes := c.out.linkBytes, taken := true } := by
    rw [he.frame, hframe]; rfl
  have hwatches : u.watches = c.watches := by rw [he.frame]
  have hlines : u.lines = c.lines := by rw [he.frame]
  have htake := State.takeAt_unbindAll hub.takesForm
  obtain ⟨l, f, o, rfl⟩ : ∃ l f o, c = { s with link := l, fresh := f, out := o } := ⟨_, _, _, hframe⟩
  refine ⟨he.idle, ⟨he.tubes.sealed, he.tubes.others⟩, he.lanes, fun k => ?_, fun w => ?_, fun v => ?_, fun i => ?_, ?_⟩
  · exact (htake k).trans (by rw [he.takes]; rfl)
  · exact Vector.getElem_replicate w.isLt
  · exact (Vector.getElem_map _ v.isLt).trans (by
      have e : u.stopLoad.unbindAll.watches = s.watches := hwatches
      rw [e]; rfl)
  · exact (Vector.getElem_map _ i.isLt).trans (by
      have e : u.stopLoad.unbindAll.lines = s.lines := hlines
      rw [e]; rfl)
  · have hnotices : u.notices = s.notices := he.posts.notices
    have hl : u.resetRest.link = if s.link.phase = .idle then s.link else { phase := .trailing, waitLeft := 0, reply := [] } := by
      rw [← hlink, ← hulink]; rfl
    have hq : u.resetRest.notices = { s.notices with queue := [], attention := false } := by rw [← hnotices]; rfl
    rw [hl, hq]
    have ho : u.resetRest.out = { responses := [], access := none, linkBytes := u.resetRest.out.linkBytes, taken := true } := by
      have : u.resetRest.out = u.out := rfl
      rw [this, hout]
    have hlb : HostReceives s clocked u.resetRest.out.linkBytes := by
      have : u.resetRest.out = u.out := rfl
      rw [this, hout]
      exact hrec.congr rfl rfl
    refine ⟨rfl, rfl, rfl, ?_, ?_, ?_, ?_, ?_, ?_, ?_, ?_, ?_, ?_, ?_, ?_, ?_, ?_, ?_, ?_, ?_, rfl, ho, hlb, ?_⟩
    all_goals (rw [he.frame]; rfl)

end Sys2Proof.Machine
end

section
/-! The store port (R143, R144, R155, R156): whose turn a grant is, what it makes of the in-flight list, and the data that returns. -/

namespace Sys2Proof.Machine

variable {s t : State}

/-! ## Answers -/

theorem drainFlights_append (l : List Flight) : l = (drainFlights l).1.map Flight.answered ++ (drainFlights l).2 := by
  induction l with
  | nil => rfl
  | cons f l ih => cases f with
    | answered r => exact congrArg (Flight.answered r :: ·) ih
    | stream a o => rfl
    | awaiting a m o => rfl

/-- What responding leaves in flight and gives out. -/
theorem State.respond_answers {l : List Flight} (h : s.inFlight = l) : Answers l s.respond := by
  subst h
  exact ⟨drainFlights_append s.inFlight, drainFlights_head s.inFlight⟩

/-! ## Whose turn it is -/

theorem State.streamReady_iff : s.streamReady = true ↔ streamWaits s := by
  rw [State.streamReady, List.any_eq_true]
  constructor
  · rintro ⟨f, hf, hr⟩
    cases f with
    | answered q => cases hr
    | stream a o => exact ⟨a, o, hf⟩
    | awaiting a m o => cases hr
  · rintro ⟨a, o, hf⟩
    exact ⟨_, hf, rfl⟩

theorem atLimit_iff {o : Option Nat} : atLimit o = true ↔ ∃ c, o = some c ∧ 4 ≤ c := by
  cases o with
  | none => simp [atLimit]
  | some c => simp [atLimit, Config.forwardedGrantLimit]

theorem atLimit_below {o : Option Nat} (h : ∀ c, o = some c → c < 4) : ¬atLimit o = true := fun hl => by
  obtain ⟨c, hc, h4⟩ := atLimit_iff.1 hl
  exact absurd (h c hc) (by omega)

theorem State.arbitrate_nothing (hs : ¬streamWaits s) (hn : s.arbiter.notice = none) (hl : s.arbiter.loader = none) : s.arbitrate = none := by
  unfold State.arbitrate
  rw [hn, hl, if_neg (by simp [atLimit]), if_neg (by simp [atLimit]), if_neg (mt State.streamReady_iff.1 hs)]
  rfl

theorem State.arbitrate_notice (h : noticeTurn s) : s.arbitrate = some .notice := by
  obtain ⟨c, hc, h⟩ := h
  unfold State.arbitrate
  by_cases h4 : 4 ≤ c
  · rw [if_pos (atLimit_iff.2 ⟨c, hc, h4⟩)]
  · obtain ⟨hs, hl⟩ := h.resolve_left h4
    rw [if_neg (atLimit_below fun d hd => by rw [hc] at hd; cases hd; omega), if_neg (atLimit_below hl),
      if_neg (mt State.streamReady_iff.1 hs), if_pos (by rw [hc]; rfl)]

theorem State.arbitrate_stream (h : streamTurn s) : s.arbitrate = some .forwarded := by
  obtain ⟨hs, hn, hl⟩ := h
  unfold State.arbitrate
  rw [if_neg (atLimit_below hn), if_neg (atLimit_below hl), if_pos (State.streamReady_iff.2 hs)]

theorem State.arbitrate_load (h : loaderTurn s) : s.arbitrate = some .loader := by
  obtain ⟨d, hd, ⟨h4, hn⟩ | ⟨h4, hs, hn⟩⟩ := h <;> unfold State.arbitrate
  · rw [if_neg (atLimit_below hn), if_pos (atLimit_iff.2 ⟨d, hd, h4⟩)]
  · rw [if_neg (atLimit_below fun c hc => by rw [hn] at hc; cases hc),
      if_neg (atLimit_below fun c hc => by rw [hd] at hc; cases hc; exact h4), if_neg (mt State.streamReady_iff.1 hs),
      if_neg (by rw [hn]; decide), if_pos (by rw [hd]; rfl)]

theorem exec_storePortGrant {g : Grant} (hp : s.pins.powerReset = false) (h : s.arbitrate = some g) :
    exec .storePortGrant s = .next (s.takeEvent.grant g) := by
  simp [exec, execStorePortGrant, hp, h]

theorem exec_storePortGrant_idle (hp : s.pins.powerReset = false) (h : s.arbitrate = none) :
    exec .storePortGrant s = .next { s with out := Outputs.none } := by
  simp [exec, execStorePortGrant, hp, h, State.notTaken]

/-- What stands in flight for an access once it is granted. -/
def grantedFlight : StoreAccess → Overlay → Flight
  | .read addr size, o => .awaiting addr size o
  | .write _ _, _ => .answered .writeDone

theorem grantStream_first {before after : List Flight} {a : StoreAccess} {o : Overlay} (h : ∀ f ∈ before, ∀ b q, f ≠ .stream b q) :
    grantStream (before ++ .stream a o :: after) = (some a, before ++ grantedFlight a o :: after) := by
  induction before with
  | nil => cases a <;> rfl
  | cons f before ih =>
    have ih := ih fun f hf => h f (List.mem_cons_of_mem _ hf)
    cases f with
    | answered r => rw [List.cons_append, grantStream, ih]; rfl
    | awaiting a m o => rw [List.cons_append, grantStream, ih]; rfl
    | stream b q => exact absurd rfl (h _ List.mem_cons_self b q)

/-- Settles O39, by the arbiter's order of choice. -/
theorem grantsGoInTurn : Obligations.GrantsGoInTurn := by
  refine fun s hp => ⟨fun hs hn hl => exec_storePortGrant_idle hp (State.arbitrate_nothing hs hn hl), fun before after a o ht hin hb => ?_,
    fun ht => exec_storePortGrant hp (State.arbitrate_load ht)⟩
  have hx : s.takeEvent.grant .forwarded = { s.takeEvent with
      inFlight := before ++ grantedFlight a o :: after, issued := s.issued ++ issueBy .rig (some a), arbiter := s.arbiter.forwardedGrant
      out := { Outputs.none with access := some a, taken := true } }.respond := by
    have hg := (congrArg grantStream hin).trans (grantStream_first (a := a) (o := o) (after := after) hb)
    show s.takeEvent.grantForwarded = _
    unfold State.grantForwarded
    rw [show s.takeEvent.inFlight = s.inFlight from rfl, hg]
    rfl
  refine ⟨_, (exec_storePortGrant hp (State.arbitrate_stream ht)).trans (congrArg _ hx), ?_, rfl, ?_⟩
  · cases a <;> rfl
  · cases a <;> exact State.respond_answers rfl

/-! ## Data that returns -/

theorem deliver_first {r : ReadReturn} {before after : List Flight} {addr : Addr} {size : Nat} {o : Overlay}
    (h : ∀ f ∈ before, f.waits = false) :
    deliver r (before ++ .awaiting addr size o :: after) = before ++ .answered (readResponse r addr size o) :: after := by
  induction before with
  | nil => rfl
  | cons f before ih =>
    have ih := ih fun f hf => h f (List.mem_cons_of_mem _ hf)
    cases f with
    | answered q => rw [List.cons_append, deliver, ih]; rfl
    | stream a o => rw [List.cons_append, deliver, ih]; rfl
    | awaiting a m o => cases h _ List.mem_cons_self

theorem applyOverlay_length (o : Overlay) (bs : List Byte) : (applyOverlay o bs).length = bs.length := by
  induction o generalizing bs with
  | nil => cases bs <;> rfl
  | cons b o ih => cases bs with
    | nil => cases b <;> rfl
    | cons c bs => cases b <;> simp [applyOverlay, ih]

/-- A byte of the overlay stands over the stored byte in its place. -/
theorem applyOverlay_over {o : Overlay} {bs : List Byte} {i : Nat} {b : Byte} (hi : i < bs.length) (h : o[i]? = some (some b)) :
    (applyOverlay o bs)[i]? = some b := by
  induction o generalizing bs i with
  | nil => cases h
  | cons c o ih => cases bs with
    | nil => cases hi
    | cons e bs => cases i with
      | zero => obtain rfl : c = some b := Option.some.inj h; rfl
      | succ i =>
        have ih := ih (bs := bs) (i := i) (by simpa using hi) h
        cases c <;> exact ih

/-- The stored byte stands where the overlay has none. -/
theorem applyOverlay_under {o : Overlay} {bs : List Byte} {i : Nat} (h : ∀ b, o[i]? ≠ some (some b)) :
    (applyOverlay o bs)[i]? = bs[i]? := by
  induction o generalizing bs i with
  | nil => cases bs <;> rfl
  | cons c o ih => cases bs with
    | nil => cases c <;> rfl
    | cons e bs => cases i with
      | zero =>
        cases c with
        | none => rfl
        | some b => exact absurd rfl (h b)
      | succ i =>
        have ih := ih (bs := bs) (i := i) h
        cases c <;> exact ih

/-- The bytes that a return gives a read of `size` bytes. -/
def returnData (r : ReadReturn) (a : Addr) (size : Nat) (o : Overlay) : List Byte :=
  match r with
  | .data _ => applyOverlay o (returnedBytes r a size)
  | .error => voidFill size

theorem readResponse_eq (r : ReadReturn) (a : Addr) (size : Nat) (o : Overlay) : readResponse r a size o = .readData (returnData r a size o) := by
  cases r <;> rfl

theorem returnedBytes_length (r : ReadReturn) (a : Addr) {size : Nat} (h : a.toNat % 64 + size ≤ 64) :
    (returnedBytes r a size).length = size := by
  cases r with
  | error => exact List.length_replicate
  | data unit =>
    simp only [returnedBytes, Config.unitBytes, List.length_take, List.length_drop, Vector.length_toList]
    omega

theorem returnedBytes_getElem? (unit : Vector Byte 64) (a : Addr) {size i : Nat} (h : i < size) :
    (returnedBytes (.data unit) a size)[i]? = unit.toList[a.toNat % 64 + i]? := by
  rw [returnedBytes, List.getElem?_take_of_lt h, List.getElem?_drop, Config.unitBytes]

/-- Settles O41, by the first read that waits in the in-flight list. -/
theorem readDataCompletesOldestRead : Obligations.ReadDataCompletesOldestRead := by
  refine fun r s hp => ⟨fun h => by simp [exec, execStorePortReadReturn, hp, h, State.notTaken], ?_⟩
  intro rest before after addr size o hissued hin hb hfit ho
  have hx : exec (.storePortReadReturn r) s = .next { s with
      issued := rest, inFlight := before ++ Flight.answered (.readData (returnData r addr size o)) :: after
      out := { Outputs.none with taken := true } }.respond := by
    have hd := (congrArg (deliver r) hin).trans (deliver_first (r := r) (addr := addr) (size := size) (o := o) (after := after) hb)
    rw [readResponse_eq] at hd
    simp only [exec, execStorePortReadReturn, hp, hissued, State.readReturn, State.takeEvent, Bool.false_eq_true, if_false, hd]
  have hlen := returnedBytes_length r addr hfit
  refine ⟨_, _, hx, rfl, rfl, State.respond_answers rfl, ?_, ?_, ?_⟩
  · cases r with
    | data unit => exact (applyOverlay_length _ _).trans hlen
    | error => exact List.length_replicate
  · rintro rfl; rfl
  · rintro unit i rfl hi
    have hover {b : Byte} := applyOverlay_over (o := o) (b := b) (hi.trans_eq hlen.symm)
    have hunder := applyOverlay_under (o := o) (bs := returnedBytes (.data unit) addr size) (i := i)
    have hbyte := returnedBytes_getElem? unit addr hi
    show (applyOverlay o (returnedBytes (.data unit) addr size))[i]? = _
    cases hoi : o[i]? with
    | none => exact (hunder fun b e => by rw [hoi] at e; cases e).trans hbyte
    | some c => cases c with
      | none => exact (hunder fun b e => by rw [hoi] at e; cases e).trans hbyte
      | some b => exact hover hoi

end Sys2Proof.Machine
end

section
/-! Records as bytes (R187, R190): a record is the bytes of its fields, one after the other. -/

namespace Sys2Proof.Machine

/-! ## Little-endian bytes -/

theorem leBytes_length (n v : Nat) : (leBytes n v).length = n := by
  induction n generalizing v with
  | zero => rfl
  | succ n ih => exact congrArg (· + 1) (ih _)

theorem leNat_leBytes (n v : Nat) : leNat (leBytes n v) = v % 256 ^ n := by
  induction n generalizing v with
  | zero => simp [leBytes, leNat, Nat.mod_one]
  | succ n ih =>
    rw [leBytes, leNat, ih, BitVec.toNat_ofNat, pow_succ' 256 n, Nat.mod_mul]

theorem zeros_eq (n : Nat) : zeros n = leBytes n 0 := by
  induction n with
  | zero => rfl
  | succ n ih => exact congrArg (0 :: ·) ih

theorem boolByte_eq (b : Bool) : [boolByte b] = leBytes 1 b.toNat := by cases b <;> rfl

theorem ofNat_byte_eq (v : Nat) : [BitVec.ofNat 8 v] = leBytes 1 v := rfl

theorem signedBytes_eq (x : Int) : signedBytes x = leBytes 4 (signed32 x) := by
  rw [signedBytes, BitVec.toNat_ofInt]; rfl

/-! ## Fields in their places -/

/-- The bytes of fields, one after the other. -/
def fieldBytes (fs : List Field) : List Byte := fs.flatMap fun f => leBytes f.2.1 f.2.2

/-- The fields lie one after the other, from byte `a` up to byte `b`. -/
def Spans : Nat → Nat → List Field → Prop
  | a, b, [] => a = b
  | a, b, f :: fs => f.1 = a ∧ Spans (a + f.2.1) b fs

theorem fieldBytes_append (fs gs : List Field) : fieldBytes (fs ++ gs) = fieldBytes fs ++ fieldBytes gs := List.flatMap_append

theorem Spans.append {a b c : Nat} {fs gs : List Field} (h : Spans a b fs) (h' : Spans b c gs) : Spans a c (fs ++ gs) := by
  induction fs generalizing a with
  | nil => obtain rfl : a = b := h; exact h'
  | cons f fs ih => exact ⟨h.1, ih h.2⟩

theorem Spans.length {a b : Nat} {fs : List Field} (h : Spans a b fs) : a + (fieldBytes fs).length = b := by
  induction fs generalizing a with
  | nil => exact h
  | cons f fs ih =>
    have := ih h.2
    rw [fieldBytes, List.flatMap_cons, List.length_append, leBytes_length, ← Nat.add_assoc]
    exact this

theorem leField_append_leBytes (pre post : List Byte) (n v : Nat) : leField (pre ++ (leBytes n v ++ post)) pre.length n = v % 256 ^ n := by
  have htake := List.take_left' (l₂ := post) (leBytes_length n v)
  rw [leField, List.drop_left, htake, leNat_leBytes]

theorem Spans.shows_from {a b : Nat} {fs : List Field} (h : Spans a b fs) {pre : List Byte} (hp : pre.length = a) :
    Shows (pre ++ fieldBytes fs) fs := by
  induction fs generalizing a pre with
  | nil => exact fun f hf => by cases hf
  | cons f fs ih =>
    obtain ⟨hf, h⟩ := h
    have hb : pre ++ fieldBytes (f :: fs) = pre ++ (leBytes f.2.1 f.2.2 ++ fieldBytes fs) := rfl
    intro g hg
    obtain rfl | hg := List.mem_cons.1 hg
    · rw [hb, hf, ← hp]; exact leField_append_leBytes _ _ _ _
    · rw [hb, ← List.append_assoc]
      exact ih h (by rw [List.length_append, leBytes_length, hp]) g hg

theorem append_fieldBytes (pre : List Byte) (fs : List Field) :
    pre ++ fieldBytes fs = fs.foldl (fun bs f => bs ++ leBytes f.2.1 f.2.2) pre := by
  induction fs generalizing pre with
  | nil => exact List.append_nil _
  | cons f fs ih => rw [List.foldl_cons, ← ih, List.append_assoc]; rfl

theorem fieldBytes_foldl (fs : List Field) : fieldBytes fs = fs.foldl (fun bs f => bs ++ leBytes f.2.1 f.2.2) [] := append_fieldBytes [] fs

/-- A record of `len` bytes with these fields. -/
structure IsRecord (bs : List Byte) (len : Nat) (fs : List Field) : Prop where
  bytes : bs = fieldBytes fs
  spans : Spans 0 len fs

variable {bs : List Byte} {len : Nat} {fs : List Field}

theorem IsRecord.length (h : IsRecord bs len fs) : bs.length = len := by
  have := h.spans.length
  rw [h.bytes]; omega

theorem IsRecord.shows (h : IsRecord bs len fs) : Shows bs fs := by
  rw [h.bytes]; exact h.spans.shows_from (pre := []) rfl

/-! ## Lists as fields -/

theorem Spans.mapRange (off size j places : Nat) (g : Nat → Nat) :
    Spans (off + size * j) (off + size * (j + places)) ((List.range' j places).map fun i => (off + size * i, size, g i)) := by
  induction places generalizing j with
  | zero => rfl
  | succ p ih =>
    rw [List.range'_succ, List.map_cons]
    refine ⟨rfl, ?_⟩
    have := ih (j + 1)
    rw [Nat.mul_succ, ← Nat.add_assoc, Nat.add_assoc j 1 p, Nat.add_comm 1 p] at this
    exact this

theorem Spans.listFields (off size places : Nat) (l : List Nat) : Spans off (off + size * places) (listFields off size places l) := by
  have h := Spans.mapRange off size 0 places fun i => l.getD i 0
  rw [Nat.mul_zero, Nat.add_zero, Nat.zero_add, ← List.range_eq_range'] at h
  exact h

theorem padTo_append {n m : Nat} {as : List Byte} (h : as.length = n) (bs : List Byte) : padTo (n + m) (as ++ bs) = as ++ padTo m bs := by
  rw [padTo, padTo, List.append_assoc, List.length_append, h, Nat.add_sub_add_left, List.take_append, h, Nat.add_sub_cancel_left,
    List.take_of_length_le (by omega)]

theorem padTo_nil (n : Nat) : padTo n [] = zeros n := by simp [padTo, zeros]

theorem fieldBytes_listFields (off size places : Nat) (l : List Nat) :
    fieldBytes (listFields off size places l) = padTo (size * places) (l.flatMap (leBytes size)) := by
  have h (l : List Nat) : (List.range places).flatMap (fun i => leBytes size (l.getD i 0)) = padTo (size * places) (l.flatMap (leBytes size)) := by
    induction places generalizing l with
    | zero => simp [padTo]
    | succ p ih =>
      rw [List.range_succ_eq_map, List.flatMap_cons, List.flatMap_map, Nat.mul_succ, Nat.add_comm]
      cases l with
      | nil =>
        have ih := ih []
        rw [List.flatMap_nil, padTo_nil] at ih ⊢
        rw [zeros, List.replicate_add]
        exact congr (congrArg _ (zeros_eq size).symm) ih
      | cons x l => rw [List.flatMap_cons, padTo_append (leBytes_length size x), ← ih l]; rfl
  rw [← h l, fieldBytes, listFields, List.flatMap_map]

end Sys2Proof.Machine
end

section
/-! Notices and table entries as records of their fields (R160–R163, R179, R187, R190). -/

namespace Sys2Proof.Machine

variable {s : State}

/-! ## Notices -/

theorem noticeCodes : NoticeCodes where
  kinds := rfl
  closes _ := rfl
  refused := rfl
  markers := rfl
  watches := rfl
  loads := rfl

theorem Notice.isRecord (n : Notice) : IsRecord n.bytes 32 (noticeFields n) where
  bytes := by
    have hpresence : [n.report.presence] = leBytes 1 (n.report.lane.isSome.toNat + 2 * n.report.take.isSome.toNat +
        4 * n.report.serial.isSome.toNat + 8 * n.report.tube.isSome.toNat + 16 * n.report.source.isSome.toNat) := by
      rw [Report.presence, ofNat_byte_eq]
      congr 1
      simp only [bitsNat]; omega
    rw [fieldBytes_foldl]
    unfold Notice.bytes
    extract_lets r
    rw [hpresence, zeros_eq, zeros_eq]
    rfl
  spans := ⟨rfl, rfl, rfl, rfl, rfl, rfl, rfl, rfl, rfl, rfl, rfl, rfl, rfl, rfl, rfl⟩

theorem State.post_notice_waits (r : Report) : (s.post r).arbiter = { s.arbiter with notice := some (s.arbiter.notice.getD 0) } :=
  State.arbiter_post r

/-! ## The grant -/

theorem State.grantNotice_eq {n : Notice} {rest : List Notice} (h : s.notices.queue = n :: rest) (hi : s.notices.writeIndex < 1024) :
    s.takeEvent.grantNotice = { s with
      notices := { s.notices with
        queue := rest
        writeIndex := (s.notices.writeIndex + 1) % 1024
        attention := s.notices.attention || s.notices.enables.getLsbD (n.report.kind.code - 1) }
      arbiter := { s.arbiter with notice := if rest = [] then none else some 0 }
      out := { Outputs.none with
        access := some (.write (BitVec.ofNat 40 (s.layout.ring.toNat / 32768 * 32768 + 32 * s.notices.writeIndex)) n.bytes)
        taken := true } } := by
  have hindex : (if s.notices.writeIndex = Config.ringSlots - 1 then 0 else s.notices.writeIndex + 1) = (s.notices.writeIndex + 1) % 1024 := by
    split
    next e => rw [e]; rfl
    next e => rw [Nat.mod_eq_of_lt]; have : s.notices.writeIndex ≠ 1023 := e; omega
  unfold State.grantNotice
  split
  next hq => rw [show s.takeEvent.notices = s.notices from rfl, h] at hq; cases hq
  next m tail hq =>
    rw [show s.takeEvent.notices = s.notices from rfl, h] at hq
    obtain ⟨rfl, rfl⟩ := List.cons.inj hq
    rw [show s.takeEvent.notices = s.notices from rfl, hindex]
    have hwaits : (if rest.isEmpty then none else some 0 : Option Nat) = if rest = [] then none else some 0 := by cases rest <;> rfl
    rw [hwaits]
    rfl

/-- Settles O40: the codes, the record, the posting and the grant. -/
theorem noticesAreQueuedAndWritten : Obligations.NoticesAreQueuedAndWritten := by
  refine ⟨noticeCodes, fun n => ⟨n.isRecord.length, n.isRecord.shows⟩, fun s r => ⟨_, rfl, rfl, rfl, rfl, fun h => ?_, fun h => ?_⟩, ?_⟩
  · obtain ⟨c, hc⟩ := Option.ne_none_iff_exists'.1 h
    rw [State.post_notice_waits, hc, Option.getD_some, ← hc]
  · rw [State.post_notice_waits, h]; rfl
  · exact fun s n rest hp ht hq hi => (exec_storePortGrant hp (State.arbitrate_notice ht)).trans (congrArg _ (State.grantNotice_eq hq hi))

end Sys2Proof.Machine
end

section
/-! The entries that READ_ENTRY returns, as records of the fields of R190 (R179, R190). -/

namespace Sys2Proof.Machine

variable {s : State}

theorem entryCodes : EntryCodes where
  directions := rfl
  takes := rfl
  lanes := rfl
  tubes := rfl
  presence := rfl
  plugs := rfl
  parsers := ⟨rfl, fun _ => rfl, rfl⟩
  detectors := rfl
  homes := rfl
  watches := rfl
  filters := rfl
  lines := rfl
  levels := rfl
  flags := rfl
  closes := rfl

/-! ## One record for each table -/

theorem Layout.isRecord (l : Layout) : IsRecord l.bytes 25 (layoutFields l) where
  bytes := by rw [fieldBytes_foldl]; rfl
  spans := ⟨rfl, rfl, rfl, rfl, rfl, rfl⟩

theorem State.globalEntry_isRecord (s : State) : IsRecord s.globalEntry 16 (globalFields s) where
  bytes := by rw [fieldBytes_foldl]; rfl
  spans := ⟨rfl, rfl, rfl, rfl, rfl, rfl, rfl, rfl, rfl⟩

theorem LaneConfig.isRecord (c : LaneConfig) : IsRecord c.entry 20 (laneConfigFields c) where
  bytes := by rw [fieldBytes_foldl]; rfl
  spans := ⟨rfl, rfl, rfl, rfl, rfl, rfl, rfl, rfl, rfl, rfl, rfl, rfl, rfl, rfl⟩

theorem Parser.block_eq (p : Parser) : p.block = blockOf p := by cases p <;> rfl

/-- A number of bits, as the sum of its bits' values. -/
theorem bitsNat_two (a b : Bool) : bitsNat [a, b] = a.toNat + 2 * b.toNat := by simp only [bitsNat]; omega

theorem bitsNat_three (a b c : Bool) : bitsNat [a, b, c] = a.toNat + 2 * b.toNat + 4 * c.toNat := by simp only [bitsNat]; omega

theorem bitsNat_eight (a b c d e f g h : Bool) : bitsNat [a, b, c, d, e, f, g, h] =
    a.toNat + 2 * b.toNat + 4 * c.toNat + 8 * d.toNat + 16 * e.toNat + 32 * f.toNat + 64 * g.toNat + 128 * h.toNat := by
  simp only [bitsNat]; omega

theorem zeros_fun : zeros = fun n => leBytes n 0 := funext zeros_eq

theorem signedBytes_fun : signedBytes = fun x => leBytes 4 (signed32 x) := funext signedBytes_eq

theorem Lane.isRecord (l : Lane) : IsRecord l.entry 56 (laneStatusFields l) where
  bytes := by
    have hrow : rowOf (l.held.map Prod.fst) = (l.held.map fun h => h.1.row.val).getD 0 := by cases l.held <;> rfl
    have hcol : colOf (l.held.map Prod.fst) = (l.held.map fun h => h.1.col.val).getD 0 := by cases l.held <;> rfl
    unfold Lane.entry
    rw [fieldBytes_foldl, Parser.block_eq, bitsNat_two, bitsNat_three, boolByte_eq, hrow, hcol, signedBytes_fun, zeros_fun]
    extract_lets b
    rw [bitsNat_eight]
    rfl
  spans := by
    unfold laneStatusFields
    exact ⟨rfl, rfl, rfl, rfl, rfl, rfl, rfl, rfl, rfl, rfl, rfl, rfl, rfl, rfl, rfl, rfl, rfl, rfl, rfl, rfl, rfl, rfl, rfl, rfl,
      rfl, rfl, rfl, rfl, rfl, rfl, rfl⟩

theorem Take.isRecord (t : Take) : IsRecord t.entry 364 (takeFields t) where
  bytes := by
    have hchain := fieldBytes_listFields 44 2 64 t.chain
    have hlandmarks := fieldBytes_listFields 172 4 48 (t.landmarkList.map signed32)
    rw [List.flatMap_map] at hlandmarks
    rw [takeFields, fieldBytes_append, fieldBytes_append, hchain, hlandmarks, fieldBytes_foldl]
    unfold Take.entry
    rw [bitsNat_three, boolByte_eq, signedBytes_fun, zeros_fun]
    rfl
  spans := by
    refine .append (.append (b := 44) ?_ (Spans.listFields 44 2 64 _)) (Spans.listFields 172 4 48 _)
    exact ⟨rfl, rfl, rfl, rfl, rfl, rfl, rfl, rfl, rfl, rfl, rfl, rfl, rfl, rfl, rfl, rfl, rfl, rfl, rfl, rfl, rfl, rfl, rfl, rfl⟩

theorem Tube.isRecord (x : Tube) : IsRecord x.entry 22 (tubeFields x) where
  bytes := by
    rw [tubeFields, fieldBytes_append, fieldBytes_listFields 14 2 4 x.history, fieldBytes_foldl]
    unfold Tube.entry
    rw [bitsNat_two, boolByte_eq, zeros_fun]
    rfl
  spans := by
    refine .append (b := 14) ?_ (Spans.listFields 14 2 4 _)
    exact ⟨rfl, rfl, rfl, rfl, rfl, rfl, rfl, rfl, rfl, rfl, rfl, rfl, rfl⟩

theorem State.windowEntry_isRecord (s : State) (w : Window) : IsRecord (s.windowEntry w) 12 (windowFields s w) where
  bytes := by
    have hentry : s.windowEntry w = w.head ++ leBytes 1 (((shownTake s w).map fun k => (s.takeAt k).state.code).getD 0) ++
        leBytes 2 ((shownTake s w).getD 0) ++ leBytes 1 (shownTake s w).isSome.toNat ++ leBytes 1 0 ++
        leBytes 4 (((shownTake s w).map fun k => (s.takeAt k).serial).getD 0) := by
      rw [← boolByte_eq, ← zeros_eq]; cases w <;> rfl
    have hhead : w.head = fieldBytes (match w with
        | .unbound => [(0, 1, 0), (1, 1, 0), (2, 1, 0)]
        | .take _ => [(0, 1, 1), (1, 1, 0), (2, 1, 0)]
        | .follow p => [(0, 1, 2), (1, 1, p.row.val), (2, 1, p.col.val)]) := by
      cases w <;> rfl
    rw [hentry, hhead, windowFields.eq_def, fieldBytes_append, List.append_assoc, List.append_assoc, List.append_assoc, List.append_assoc]
    cases w <;> rfl
  spans := by cases w <;> exact ⟨rfl, rfl, rfl, rfl, rfl, rfl, rfl, rfl, rfl⟩

theorem Amendment.isRecord (a : Amendment) : IsRecord a.entry 24 (amendmentFields a) where
  bytes := by
    have h : [0, boolByte a.enabled] = leBytes 1 0 ++ leBytes 1 a.enabled.toNat := by rw [← boolByte_eq]; rfl
    rw [fieldBytes_foldl]
    unfold Amendment.entry
    rw [h, zeros_fun]
    rfl
  spans := ⟨rfl, rfl, rfl, rfl, rfl, rfl, rfl, rfl, rfl, rfl⟩

theorem Watch.isRecord (w : Watch) : IsRecord w.entry 40 (watchFields w) where
  bytes := by
    have hwrite : ((w.capture.map fun c => c.isWrite).getD false).toNat = (w.capture.map fun c => c.isWrite.toNat).getD 0 := by
      cases w.capture <;> rfl
    rw [fieldBytes_foldl]
    unfold Watch.entry
    rw [bitsNat_three, boolByte_eq, boolByte_eq, boolByte_eq, hwrite, zeros_fun]
    rfl
  spans := ⟨rfl, rfl, rfl, rfl, rfl, rfl, rfl, rfl, rfl, rfl, rfl, rfl, rfl, rfl, rfl, rfl, rfl, rfl, rfl⟩

/-- The owner and the previous sample of a lane's line. -/
theorem State.ownerBytes_lane {i : Nat} (h : i < 8) :
    s.ownerBytes i = leBytes 1 (decide ((s.lane ⟨i, h⟩).state ≠ .disabled)).toNat ++ leBytes 1 (sampleCode (s.laneLine ⟨i, h⟩).prev) := by
  have henabled : (s.lane ⟨i, h⟩).enabled = decide ((s.lane ⟨i, h⟩).state ≠ .disabled) := by
    rw [Bool.eq_iff_iff, Lane.enabled_iff, decide_eq_true_iff]
  rw [← henabled, ← boolByte_eq, State.ownerBytes, show laneOf i = _ from laneOf_val ⟨i, h⟩]
  rfl

theorem State.ownerBytes_general {i : Nat} (h : ¬i < 8) : s.ownerBytes i = leBytes 1 0 ++ leBytes 1 0 := by
  rw [State.ownerBytes, laneOf_none (by omega)]
  rfl

theorem State.linesEntry_isRecord (s : State) (i : Fin 12) (levels : BitVec 12) :
    IsRecord (s.linesEntry i levels) 8 (linesFields s i.val s.lines[i] levels) where
  bytes := by
    unfold State.linesEntry linesFields
    rw [boolByte_eq, zeros_fun]
    by_cases h : i.val < 8
    · rw [dif_pos h, fieldBytes_foldl, State.ownerBytes_lane h, ← List.append_assoc]
      rfl
    · rw [dif_neg h, fieldBytes_foldl, State.ownerBytes_general h, ← List.append_assoc]
      rfl
  spans := by
    have howner {a b : Nat} : Spans 3 5 [(3, 1, a), (4, 1, b)] := ⟨rfl, rfl, rfl⟩
    refine .append (b := 5) (.append (b := 3) ⟨rfl, rfl, rfl, rfl⟩ ?_) ⟨rfl, rfl⟩
    split <;> exact howner

/-- The serial counter as STATUS shows it (log 11). -/
theorem State.shownSerial_eq (s : State) :
    s.shownSerial = if s.serialCounter < 2 ^ 32 then s.serialCounter else (Config.spentCounterShown s.fresh).toNat := by
  unfold State.shownSerial State.spent
  by_cases h : s.serialCounter < 2 ^ 32
  · rw [if_neg (by simpa using h), if_pos h]
  · rw [if_pos (by simpa using h), if_neg h]

theorem State.statusEntry_isRecord (s : State) : IsRecord s.statusEntry 44 (statusFields s) where
  bytes := by
    have hqueue : (s.pool.queue.map fun n => BitVec.ofNat 8 n.val) = (s.pool.queue.map Fin.val).flatMap (leBytes 1) := by
      rw [List.flatMap_map]; exact List.map_eq_flatMap
    have hmode : s.mode.isEngaged = decide (s.mode = .engaged) := by cases s.mode <;> rfl
    have hpair (a b : Bool) : [boolByte a, boolByte b] = leBytes 1 a.toNat ++ leBytes 1 b.toNat := by
      rw [← boolByte_eq, ← boolByte_eq]; rfl
    rw [statusFields, fieldBytes_append, fieldBytes_append, fieldBytes_listFields 12 1 8 _, ← hqueue, ← s.shownSerial_eq]
    unfold State.statusEntry
    rw [append_fieldBytes, fieldBytes_foldl, hpair, hpair, boolByte_eq, boolByte_eq, zeros_fun, hmode, ← List.append_assoc,
      ← List.append_assoc]
    rfl
  spans := by
    refine .append (.append (b := 12) ?_ (Spans.listFields 12 1 8 _)) ?_
    · exact ⟨rfl, rfl, rfl, rfl, rfl, rfl, rfl, rfl, rfl, rfl⟩
    · exact ⟨rfl, rfl, rfl, rfl, rfl, rfl, rfl, rfl, rfl, rfl, rfl, rfl⟩

/-! ## Reading an entry -/

theorem entryOf_some {α : Type} {n i : Nat} (v : Vector α n) (h : i < n) (f : α → List Byte) : entryOf v i f = some (f v[i]) := by
  rw [entryOf, Vector.getElem?_eq_getElem h]; rfl

theorem entryOf_none {α : Type} {n i : Nat} (v : Vector α n) (h : n ≤ i) (f : α → List Byte) : entryOf v i f = none := by
  rw [entryOf, Vector.getElem?_eq_none h]; rfl

theorem IsRecord.at_index {α : Type} {n i len : Nat} {v : Vector α n} {bs : List Byte} {g : α → List Field} (hn : i < n)
    (h : IsRecord bs len (g v[i])) : IsRecord bs len ((v[i]?.map g).getD []) := by
  rw [Vector.getElem?_eq_getElem hn]; exact h

theorem State.entry_beyond {table : TableSel} {i : Nat} (h : table.entries ≤ i) (levels : BitVec 12) : s.entry table i levels = none := by
  cases table with
  | layout => exact if_neg (by simp only [TableSel.entries] at h; omega)
  | global => exact if_neg (by simp only [TableSel.entries] at h; omega)
  | laneConfig => exact entryOf_none _ h _
  | laneStatus => exact entryOf_none _ h _
  | take => exact if_neg (Nat.not_lt.2 h)
  | tube => exact if_neg (Nat.not_lt.2 h)
  | window => exact entryOf_none _ h _
  | amendment => exact entryOf_none _ h _
  | watch => exact entryOf_none _ h _
  | lines => exact dif_neg (Nat.not_lt.2 h)
  | status => exact if_neg (by simp only [TableSel.entries] at h; omega)

theorem State.entry_isRecord {table : TableSel} {i : Nat} (h : i < table.entries) (levels : BitVec 12) :
    ∃ bs, s.entry table i levels = some bs ∧ IsRecord bs table.entryLength (entryFields s table i levels) := by
  cases table with
  | layout => exact ⟨_, if_pos (Nat.lt_one_iff.1 h), Layout.isRecord s.layout⟩
  | global => exact ⟨_, if_pos (Nat.lt_one_iff.1 h), s.globalEntry_isRecord⟩
  | laneConfig => exact ⟨_, entryOf_some _ h _, .at_index h (LaneConfig.isRecord _)⟩
  | laneStatus => exact ⟨_, entryOf_some _ h _, .at_index h (Lane.isRecord _)⟩
  | take => exact ⟨_, if_pos h, Take.isRecord _⟩
  | tube => exact ⟨_, if_pos h, Tube.isRecord _⟩
  | window => exact ⟨_, entryOf_some _ h _, .at_index h (State.windowEntry_isRecord s _)⟩
  | amendment => exact ⟨_, entryOf_some _ h _, .at_index h (Amendment.isRecord _)⟩
  | watch => exact ⟨_, entryOf_some _ h _, .at_index h (Watch.isRecord _)⟩
  | lines => exact ⟨_, dif_pos h, .at_index h (s.linesEntry_isRecord ⟨i, h⟩ levels)⟩
  | status => exact ⟨_, if_pos (Nat.lt_one_iff.1 h), s.statusEntry_isRecord⟩

theorem exec_readEntry {table : TableSel} {index : BitVec 16} {levels : BitVec 12} (h : s.listening = true) :
    exec (.readEntry table index levels) s = .next (s.answered (.readEntry table index levels)
      (s.readReply table index.toNat levels).1 (s.readReply table index.toNat levels).2) := by
  simp only [exec, execReadEntry, h, if_true, State.reply, State.answered, idleByte]
  rfl

/-- Settles O12: the codes, each table's record, and the tables that only the part writes. -/
theorem readsAndReadOnlyTablesChangeNothing : Obligations.ReadsAndReadOnlyTablesChangeNothing := by
  refine ⟨entryCodes, fun table index levels s h => ⟨fun hi => ?_, fun hi => ?_⟩, fun table index s h => ?_⟩
  · rw [exec_readEntry h, State.readReply, State.entry_beyond hi]
  · obtain ⟨bs, he, hr⟩ := State.entry_isRecord (s := s) hi levels
    exact ⟨bs, he, hr.length, hr.shows, by rw [exec_readEntry h, State.readReply, he]⟩
  · simp only [exec, execWriteEntryReadOnly]
    refine State.request_gives h (u := s.takeEvent) ?_ rfl rfl
    show (s.takeEvent, if table.sel.entries ≤ index.toNat then Status.badIndex else .refusedState) = _
    cases table with
    | laneStatus => rfl
    | take => rfl
    | status =>
      have hi : ReadOnlyTable.status.sel.entries ≤ index.toNat ↔ index ≠ 0 := by
        show 1 ≤ index.toNat ↔ _
        rw [Nat.one_le_iff_ne_zero]
        exact not_congr (BitVec.toNat_inj (y := 0))
      simp only [hi]

end Sys2Proof.Machine
end

section
/-! What a read of a take shows: the amendments laid over it (R139, R140), and where its bytes are stored (R76, R91). -/

namespace Sys2Proof.Machine

variable {s : State}

/-! ## Amendments -/

/-- The slot stands over byte `j` of this unit of the take. -/
def Amendment.covers (a : Amendment) (k unit j : Nat) : Prop := a.enabled = true ∧ a.take = k ∧ a.unit = unit ∧ a.eighth = j / 8

theorem amendedByte_lowest {slots : Vector Amendment 8} {k unit j : Nat} {i : Fin 8} (h : slots[i].covers k unit j)
    (hlow : ∀ b : Fin 8, b < i → ¬slots[b].covers k unit j) :
    amendedByte slots.toList k unit j = some (slots[i].value.extractLsb' (8 * (j % 8)) 8) := by
  obtain ⟨he, hk, hu, hj⟩ := h
  rw [amendedByte, List.find?_eq_some_iff_getElem.2 ⟨?_, i.val, by simp, Vector.getElem_toList _, fun b hb => ?_⟩]
  · rfl
  · rw [Fin.getElem_fin] at he hk hu hj
    simp [he, hk, hu, hj]
  · rw [Bool.not_eq_true', ← Bool.not_eq_true]
    intro hc
    simp only [Vector.getElem_toList, Bool.and_eq_true, decide_eq_true_eq] at hc
    obtain ⟨⟨⟨h1, h2⟩, h3⟩, h4⟩ := hc
    exact hlow ⟨b, hb.trans i.isLt⟩ hb ⟨h1, h2, h3, h4⟩

theorem amendedByte_none {slots : Vector Amendment 8} {k unit j : Nat} (h : ∀ i : Fin 8, ¬slots[i].covers k unit j) :
    amendedByte slots.toList k unit j = none := by
  rw [amendedByte, List.find?_eq_none.2]
  · rfl
  · intro a ha hc
    obtain ⟨i, hi, rfl⟩ := List.getElem_of_mem ha
    simp only [Vector.getElem_toList, Bool.and_eq_true, decide_eq_true_eq] at hc
    obtain ⟨⟨⟨h1, h2⟩, h3⟩, h4⟩ := hc
    exact h ⟨i, by simpa using hi⟩ ⟨h1, h2, h3, h4⟩

theorem State.overlay_getElem? {k off size i : Nat} (h : i < size) :
    (s.overlay k off size)[i]? = some (amendedByte s.amendments.toList k (off / 64) (off % 64 + i)) := by
  rw [State.overlay, List.getElem?_map, List.getElem?_range h]; rfl

/-- Settles O38, by the first slot that covers the byte. -/
theorem lowestAmendmentSlotIsLaidOver : Obligations.LowestAmendmentSlotIsLaidOver := by
  intro s k off size i stored hlen _ hi
  refine ⟨fun a ha hlow => applyOverlay_over (hi.trans_eq hlen.symm) ?_, fun h => applyOverlay_under fun b hb => ?_⟩
  · rw [State.overlay_getElem? hi, amendedByte_lowest ha hlow]
  · rw [State.overlay_getElem? hi, amendedByte_none h] at hb
    cases hb

/-! ## Addresses -/

/-- The segment that holds a byte of the take. -/
def State.segmentOf (s : State) (k o : Nat) : Nat := (s.takeAt k).chain.getD (o / 262144) 0

theorem Books.segment_mem {k o : Nat} (h : o / 262144 < (s.takeAt k).chain.length) : s.segmentOf k o ∈ (s.takeAt k).chain := by
  rw [State.segmentOf, List.getD_eq_getElem _ _ h]; exact List.getElem_mem h

theorem Books.mem_takes {k : Nat} (h : (s.takeAt k).chain ≠ []) : (k, s.takeAt k) ∈ s.takes :=
  Sparse.mem_of_get fun e => h (by rw [State.takeAt, e]; rfl)

theorem Books.chains_nodup (hb : Books s) : (s.takes.flatMap fun e => e.2.chain).Nodup :=
  ((List.nodup_append.1 (hb.pool.segments.nodup_iff.2 List.nodup_range)).2).1

theorem Books.segment_lt (hb : Books s) {k x : Nat} (h : x ∈ (s.takeAt k).chain) : x < 4096 := by
  have hm : x ∈ s.takes.flatMap fun e => e.2.chain := List.mem_flatMap.2 ⟨_, Books.mem_takes (List.ne_nil_of_mem h), h⟩
  exact List.mem_range.1 (hb.pool.segments.mem_iff.1 (List.mem_append_right _ hm))

/-- Two takes share no segment. -/
theorem Books.chains_disjoint (hb : Books s) {j k x : Nat} (hjk : j ≠ k) (hj : x ∈ (s.takeAt j).chain) : x ∉ (s.takeAt k).chain := by
  intro hk
  have hd := (List.nodup_flatMap.1 hb.chains_nodup).2
  have hsymm : Std.Symm (Function.onFun List.Disjoint fun e : Nat × Take => e.2.chain) := ⟨fun _ _ h => h.symm⟩
  exact hd.forall (Books.mem_takes (List.ne_nil_of_mem hj)) (Books.mem_takes (List.ne_nil_of_mem hk)) (fun e => hjk (congrArg Prod.fst e)) hj hk

/-- Bytes in one segment are of one take and one segment's length of it. -/
theorem Books.segmentOf_inj (hb : Books s) {j k a b : Nat} (ha : a / 262144 < (s.takeAt j).chain.length)
    (hb' : b / 262144 < (s.takeAt k).chain.length) (h : s.segmentOf j a = s.segmentOf k b) : j = k ∧ a / 262144 = b / 262144 := by
  have hjk : j = k := by
    by_contra hne
    exact hb.chains_disjoint hne (Books.segment_mem ha) (h ▸ Books.segment_mem hb')
  subst hjk
  have hn : (s.takeAt j).chain.Nodup := (List.nodup_flatMap.1 hb.chains_nodup).1 _ (Books.mem_takes (List.ne_nil_of_mem (Books.segment_mem ha)))
  rw [State.segmentOf, State.segmentOf, List.getD_eq_getElem _ _ ha, List.getD_eq_getElem _ _ hb'] at h
  exact ⟨rfl, (hn.getElem_inj_iff).1 h⟩

/-- The address of a stored byte, with no wrap. -/
theorem Books.storeAddress_toNat (hb : Books s) (hl : layoutGood s.layout) {k o : Nat} (h : o / 262144 < (s.takeAt k).chain.length) :
    (s.storeAddress (s.takeAt k).chain o).toNat = s.layout.capture.toNat + s.segmentOf k o * 262144 + o % 262144 := by
  have hseg := hb.segment_lt (Books.segment_mem h)
  have hcap : s.layout.capture.toNat + 2 ^ 30 ≤ 2 ^ 40 := (hl.1 (s.layout.capture.toNat, 2 ^ 30) (by simp)).2
  have hoff := Nat.mod_lt o (by decide : 0 < 262144)
  rw [State.storeAddress, BitVec.toNat_ofNat]
  exact Nat.mod_eq_of_lt (by show s.layout.capture.toNat + s.segmentOf k o * 262144 + o % 262144 < 2 ^ 40; omega)

/-- Settles O60: the segments are apart, and so are the bytes of one. -/
theorem storedBytesNeverShareAnAddress : Obligations.StoredBytesNeverShareAnAddress := by
  intro s j k a b hb hl ha hb' hne
  have hja := hb.storeAddress_toNat hl ha
  have hkb := hb.storeAddress_toNat hl hb'
  have hoff (o : Nat) := Nat.mod_lt o (by decide : 0 < 262144)
  refine ⟨fun e => ?_, ?_⟩
  · rw [e, hkb] at hja
    have hseg : s.segmentOf j a = s.segmentOf k b := by have := hoff a; have := hoff b; omega
    obtain ⟨rfl, hdiv⟩ := hb.segmentOf_inj ha hb' hseg
    refine (hne.resolve_left (· rfl)) ?_
    rw [← Nat.div_add_mod a 262144, ← Nat.div_add_mod b 262144, hdiv]
    omega
  · have hseg := hb.segment_lt (Books.segment_mem ha)
    have := hoff a
    unfold within
    omega

end Sys2Proof.Machine
end

section
/-! A unit of the map returns to the Map Loader (R19–R21): its entries applied in order, and what the load does then. -/

namespace Sys2Proof.Machine

variable {s t u : State} {bs : List Byte} {j g : Nat}

/-! ## One entry -/

theorem Tube.mapFields_good {x : Tube} {i : Nat} (h : entryGood bs j i) :
    x.mapFields (byteAt bs (8 * j + 2)) (byteAt bs (8 * j + 3)) (byteAt bs (8 * j + 4)) = some (entryApplied x bs j) := by
  obtain ⟨-, -, h2, h3, h4⟩ := h
  exact Tube.mapFields_some (by omega)

/-- A good entry goes to the next tube, and is counted. -/
theorem State.applyEntry_good (h : entryGood bs j s.loader.next) : s.applyEntry bs (8 * j) = some
    { s.setTube s.loader.next (entryApplied (s.tubeAt s.loader.next) bs j) with
      loader := { s.loader with next := s.loader.next + 1, remaining := s.loader.remaining - 1, applied := s.loader.applied + 1 } } := by
  unfold State.applyEntry
  dsimp only
  rw [if_pos ⟨h.1, h.2.1⟩, Tube.mapFields_good h]

theorem State.applyEntry_bad (h : ¬entryGood bs j s.loader.next) : s.applyEntry bs (8 * j) = none := by
  unfold State.applyEntry
  dsimp only
  split
  next hi =>
    rw [Tube.mapFields_none]
    by_contra hv
    exact h ⟨hi.1, hi.2, by omega, by omega, by omega⟩
  next => rfl

/-! ## Good entries in a row -/

/-- The entries of the unit from place `j` on, `g` of them, have been applied. -/
structure EntriesApplied (bs : List Byte) (j g : Nat) (s t : State) : Prop where
  frame : t = { s with
    tubes := t.tubes
    loader := { s.loader with
      next := s.loader.next + g, remaining := s.loader.remaining - g, applied := s.loader.applied + g } }
  form : t.tubesForm
  applied : ∀ i < g, t.tubeAt (s.loader.next + i) = entryApplied (s.tubeAt (s.loader.next + i)) bs (j + i)
  others : ∀ i, i < s.loader.next ∨ s.loader.next + g ≤ i → t.tubeAt i = s.tubeAt i

theorem EntriesApplied.nil (h : s.tubesForm) : EntriesApplied bs j 0 s s :=
  ⟨rfl, h, fun i hi => absurd hi (Nat.not_lt_zero i), fun _ _ => rfl⟩

/-- An entry and those after it. -/
theorem EntriesApplied.cons {l : Loader} (hf : s.tubesForm)
    (hl : l = { s.loader with next := s.loader.next + 1, remaining := s.loader.remaining - 1, applied := s.loader.applied + 1 })
    (h : EntriesApplied bs (j + 1) g { s.setTube s.loader.next (entryApplied (s.tubeAt s.loader.next) bs j) with loader := l } t) :
    EntriesApplied bs j (g + 1) s t := by
  subst hl
  have hfirst := State.tubeAt_setTube hf s.loader.next (x := entryApplied (s.tubeAt s.loader.next) bs j)
  have happlied : ∀ i < g, t.tubeAt (s.loader.next + 1 + i) =
      entryApplied ((s.setTube s.loader.next (entryApplied (s.tubeAt s.loader.next) bs j)).tubeAt (s.loader.next + 1 + i)) bs (j + 1 + i) :=
    h.applied
  have hothers : ∀ i, i < s.loader.next + 1 ∨ s.loader.next + 1 + g ≤ i →
      t.tubeAt i = (s.setTube s.loader.next (entryApplied (s.tubeAt s.loader.next) bs j)).tubeAt i := h.others
  refine ⟨?_, h.form, fun i hi => ?_, fun i hi => ?_⟩
  · have hframe := h.frame
    simp only [Nat.sub_sub, Nat.add_assoc, Nat.add_comm 1 g] at hframe
    exact hframe
  · cases i with
    | zero =>
      refine (hothers s.loader.next (.inl (Nat.lt_succ_self _))).trans ?_
      exact (hfirst _).trans (if_pos rfl)
    | succ i =>
      have := happlied i (by omega)
      have hne : s.loader.next + 1 + i ≠ s.loader.next := by omega
      rw [show s.loader.next + (i + 1) = s.loader.next + 1 + i by omega, show j + (i + 1) = j + 1 + i by omega]
      refine this.trans ?_
      exact congrArg (entryApplied · bs (j + 1 + i)) ((hfirst _).trans (if_neg hne))
  · refine (hothers i ?_).trans ((hfirst i).trans (if_neg ?_)) <;> omega

/-- The good entries are applied, and the unit's other entries come next. -/
theorem State.applyEntries_good {m : Nat} (hf : s.tubesForm) (hn : s.loader.next + g ≤ Config.tubeCount) (hg : g ≤ m)
    (h : ∀ i < g, entryGood bs (j + i) (s.loader.next + i)) :
    ∃ t, EntriesApplied bs j g s t ∧ State.applyEntries bs m j s = State.applyEntries bs (m - g) (j + g) t := by
  induction g generalizing s j m with
  | zero => exact ⟨s, .nil hf, rfl⟩
  | succ g ih =>
    obtain ⟨m, rfl⟩ : ∃ k, m = k + 1 := ⟨m - 1, by omega⟩
    have hfirst : entryGood bs j s.loader.next := h 0 (Nat.succ_pos g)
    have hform := State.tubesForm_setTube hf (entryApplied (s.tubeAt s.loader.next) bs j) (i := s.loader.next) (by omega)
    obtain ⟨t, ht, he⟩ := ih (j := j + 1) (m := m)
      (s := { s.setTube s.loader.next (entryApplied (s.tubeAt s.loader.next) bs j) with
        loader := { s.loader with next := s.loader.next + 1, remaining := s.loader.remaining - 1, applied := s.loader.applied + 1 } })
      hform (by dsimp only; omega) (by omega) fun i hi => by
        have := h (i + 1) (by omega)
        rw [show j + 1 + i = j + (i + 1) by omega]
        dsimp only
        rw [show s.loader.next + 1 + i = s.loader.next + (i + 1) by omega]
        exact this
    refine ⟨t, .cons hf rfl ht, ?_⟩
    rw [State.applyEntries, State.applyEntry_good hfirst]
    dsimp only
    rw [he, Nat.add_sub_add_right, show j + 1 + g = j + (g + 1) by omega]

/-! ## The unit's end -/

theorem returnedBytes_unit (r : ReadReturn) : returnedBytes r 0 64 = returnOf r := by
  cases r with
  | error => rfl
  | data unit => exact List.take_of_length_le (by simp)

theorem State.endLoad_arbiter (c : LoadCause) (v : Nat) :
    (s.endLoad c v).arbiter = { s.arbiter with notice := some (s.arbiter.notice.getD 0) } := State.post_notice_waits _

theorem exec_loaderReturn {r : ReadReturn} {rest : List ReadOwner} (hp : s.pins.powerReset = false) (h : s.issued = .loader :: rest) :
    exec (.storePortReadReturn r) s = .next (State.loaderReturn { s.takeEvent with issued := rest } r) := by
  simp [exec, execStorePortReadReturn, hp, h, State.readReturn, State.takeEvent]

/-- Where a bad entry follows the good ones, the load stops at it. -/
theorem State.applyEntries_stop {m : Nat} (h : ¬entryGood bs j s.loader.next) (hm : 0 < m) :
    State.applyEntries bs m j s = s.endLoad .badEntry s.loader.next := by
  obtain ⟨m, rfl⟩ : ∃ k, m = k + 1 := ⟨m - 1, by omega⟩
  rw [State.applyEntries, State.applyEntry_bad h]

theorem State.applyEntries_complete (h : s.loader.remaining = 0) :
    State.applyEntries bs 0 j s = s.endLoad .complete s.loader.applied := if_pos h

theorem State.applyEntries_ask (h : ¬s.loader.remaining = 0) : State.applyEntries bs 0 j s = s.askLoader := if_neg h

/-- Settles O32: the unit discarded, or its good entries applied and the load stopped, complete, or asking on. -/
theorem mapUnitAppliesEntriesInOrder : Obligations.MapUnitAppliesEntriesInOrder := by
  refine fun r s rest hp h => ⟨fun hd => ?_, fun g m hlive hrun hb hm hg hgood hbad => ?_⟩
  · rw [exec_loaderReturn hp h]
    unfold State.loaderReturn
    rw [show ({ s.takeEvent with issued := rest } : State).loader.read = .discard from hd]
    dsimp only
    split
    next e => rw [if_pos (show s.loader.running = true from e)]; rfl
    next e => rw [if_neg (show ¬s.loader.running = true from e)]; rfl
  · have hrange := hb.load.range
    have hleft := hb.load.left hrun
    obtain ⟨t, ht, he⟩ := State.applyEntries_good (bs := returnOf r) (j := 0) (m := m)
      (s := { s.takeEvent with issued := rest, loader := { s.loader with read := .idle } }) hb.tubesForm (g := g)
      (show s.loader.next + g ≤ Config.tubeCount by omega) hg fun i hi => by rw [Nat.zero_add]; exact hgood i hi
    have hexec : exec (.storePortReadReturn r) s = .next (State.applyEntries (returnOf r) (m - g) (0 + g) t) := by
      rw [exec_loaderReturn hp h, ← he, hm]
      unfold State.loaderReturn
      rw [show ({ s.takeEvent with issued := rest } : State).loader.read = .live from hlive]
      dsimp only
      rw [returnedBytes_unit]
      rfl
    have hnone (hports : PortsSound s) : s.arbiter.loader = none := by
      have := hports.asks hp
      rw [hlive] at this
      simpa using this
    obtain ⟨hframe, hform, happlied, hothers⟩ := ht
    obtain ⟨tubes, rfl⟩ : ∃ tubes, t = { s.takeEvent with
        issued := rest, tubes := tubes
        loader := { s.loader with
          read := .idle, next := s.loader.next + g, remaining := s.loader.remaining - g, applied := s.loader.applied + g } } := ⟨_, hframe⟩
    have happlied' : ∀ i < g, Sparse.get Tube.reset tubes (s.loader.next + i) =
        entryApplied (s.tubeAt (s.loader.next + i)) (returnOf r) i := fun i hi => by
      have := happlied i hi
      rw [Nat.zero_add] at this
      exact this
    by_cases hgm : g = m
    · rw [show m - g = 0 by omega] at hexec
      by_cases hend : s.loader.remaining = m
      · have hdone := hexec.trans (congrArg Host.Outcome.next (State.applyEntries_complete (by
          show s.loader.remaining - g = 0; omega)))
        have hstops : decide (g = m ∧ m < s.loader.remaining) = false := decide_eq_false (by omega)
        rw [hstops]
        exact ⟨_, hdone, rfl, happlied', hothers, fun e => by omega, fun _ _ => rfl, fun _ => ⟨State.endLoad_arbiter _ _, hnone⟩,
          fun _ e => by omega⟩
      · have hasks := hexec.trans (congrArg Host.Outcome.next (State.applyEntries_ask (by
          show ¬s.loader.remaining - g = 0; omega)))
        have hgoes : decide (g = m ∧ m < s.loader.remaining) = s.loader.running := by rw [hrun]; exact decide_eq_true (by omega)
        rw [hgoes]
        exact ⟨_, hasks, rfl, happlied', hothers, fun e => by omega, fun _ e => by omega, fun e => by omega, fun _ _ => ⟨rfl, rfl⟩⟩
    · have hstop := State.applyEntries_stop (s := { s.takeEvent with
        issued := rest, tubes := tubes
        loader := { s.loader with
          read := .idle, next := s.loader.next + g, remaining := s.loader.remaining - g, applied := s.loader.applied + g } })
        (hbad (by omega)) (m := m - g) (by omega)
      rw [Nat.zero_add, hstop] at hexec
      have hstops : decide (g = m ∧ m < s.loader.remaining) = false := decide_eq_false fun e => hgm e.1
      rw [hstops]
      exact ⟨_, hexec, rfl, happlied', hothers, fun _ => rfl, fun e => absurd e hgm, fun _ => ⟨State.endLoad_arbiter _ _, hnone⟩,
        fun e => absurd e hgm⟩

end Sys2Proof.Machine
end

section
/-! Requests as bytes (R175, R177, R189, R190): what a frame made of a command's fields reads back as. -/

namespace Sys2Proof.Machine

variable {cmd sel : Byte} {index : BitVec 16} {payload : List Byte} {len off n v : Nat} {fs : List Field}

/-! ## Fields of a frame -/

theorem Spans.end_le {a b : Nat} (h : Spans a b fs) : ∀ f ∈ fs, f.1 + f.2.1 ≤ b := by
  induction fs generalizing a with
  | nil => exact fun f hf => by cases hf
  | cons g fs ih =>
    obtain ⟨hg, h⟩ := h
    intro f hf
    obtain rfl | hf := List.mem_cons.1 hf
    · have := h.length; omega
    · exact ih h f hf

theorem leField_middle (pre bs post : List Byte) (h : off + n ≤ bs.length) : leField (pre ++ bs ++ post) (pre.length + off) n = leField bs off n := by
  rw [leField, leField, List.append_assoc, List.drop_append, List.drop_of_length_le (by omega), List.nil_append,
    Nat.add_sub_cancel_left, List.drop_append_of_le_length (by omega), List.take_append_of_le_length (by rw [List.length_drop]; omega)]

theorem byteAt_eq (bs : List Byte) (off : Nat) : byteAt bs off = BitVec.ofNat 8 (leField bs off 1) := by
  rw [byteAt, leField, List.getD_eq_getElem?_getD]
  cases h : bs[off]? with
  | none =>
    have hl := List.getElem?_eq_none_iff.1 h
    rw [List.drop_of_length_le hl]; rfl
  | some b =>
    obtain ⟨hl, rfl⟩ := List.getElem?_eq_some_iff.1 h
    rw [List.drop_eq_getElem_cons hl, List.take_succ_cons, List.take_zero]
    simp [leNat]

/-- The header of a frame: command, selector, index and payload length. -/
def headerFields (cmd sel : Byte) (index : BitVec 16) (size : Nat) : List Field :=
  [(0, 1, cmd.toNat), (1, 1, sel.toNat), (2, 2, index.toNat), (4, 2, size)]

theorem leBytes_byte (b : Byte) : leBytes 1 b.toNat = [b] := by simp [leBytes]

theorem frameOf_eq (cmd sel : Byte) (index : BitVec 16) (payload : List Byte) : ∃ c, frameOf cmd sel index payload =
    fieldBytes (headerFields cmd sel index payload.length) ++ payload ++ [c] := by
  refine ⟨checkByte (cmd :: sel :: (leBytes 2 index.toNat ++ leBytes 2 payload.length ++ payload)), ?_⟩
  unfold frameOf
  dsimp only
  congr 1
  simp only [fieldBytes, headerFields, List.flatMap_cons, List.flatMap_nil, leBytes_byte, List.append_nil, List.cons_append, List.nil_append,
    List.append_assoc]

theorem headerFields_spans (cmd sel : Byte) (index : BitVec 16) (size : Nat) : Spans 0 6 (headerFields cmd sel index size) :=
  ⟨rfl, rfl, rfl, rfl, rfl⟩

theorem frameOf_header {i : Nat} (h : (headerFields cmd sel index payload.length)[i]? = some (off, n, v)) :
    leField (frameOf cmd sel index payload) off n = v % 256 ^ n := by
  obtain ⟨c, hc⟩ := frameOf_eq cmd sel index payload
  have hm := List.mem_of_getElem? h
  have hspan := headerFields_spans cmd sel index payload.length
  have hle : off + n ≤ 6 := hspan.end_le _ hm
  have hlen := hspan.length
  have hmid := leField_middle (off := off) (n := n) [] (fieldBytes (headerFields cmd sel index payload.length)) (payload ++ [c]) (by omega)
  rw [List.length_nil, Nat.zero_add, List.nil_append, ← List.append_assoc] at hmid
  rw [hc, hmid]
  exact hspan.shows_from (pre := []) rfl _ hm

/-- A field of the payload lies 6 bytes on in the frame. -/
theorem frameOf_payload {i : Nat} (hr : IsRecord payload len fs) (h : fs[i]? = some (off, n, v)) :
    leField (frameOf cmd sel index payload) (6 + off) n = v % 256 ^ n := by
  obtain ⟨c, hc⟩ := frameOf_eq cmd sel index payload
  have hm := List.mem_of_getElem? h
  have hle : off + n ≤ len := hr.spans.end_le _ hm
  have hlen := (headerFields_spans cmd sel index payload.length).length
  have hmid := leField_middle (off := off) (n := n) (fieldBytes (headerFields cmd sel index payload.length)) payload [c] (by rw [hr.length]; exact hle)
  rw [show (fieldBytes (headerFields cmd sel index payload.length)).length = 6 by omega] at hmid
  rw [hc, hmid]
  exact hr.shows _ hm

theorem bvField_of {w : Nat} {f : List Byte} {x : BitVec w} (hw : 256 ^ n = 2 ^ w) (h : leField f off n = x.toNat % 256 ^ n) :
    bvField w f off n = x := by
  rw [bvField, h, hw, Nat.mod_eq_of_lt x.isLt, BitVec.ofNat_toNat, BitVec.setWidth_eq]

theorem byteAt_of {f : List Byte} {b : Byte} (h : leField f off 1 = b.toNat % 256 ^ 1) : byteAt f off = b := by
  rw [byteAt_eq]; exact bvField_of (w := 8) rfl h

theorem byteAt_frameOf_zero : byteAt (frameOf cmd sel index payload) 0 = cmd := byteAt_of (frameOf_header (i := 0) rfl)

theorem byteAt_frameOf_one : byteAt (frameOf cmd sel index payload) 1 = sel := byteAt_of (frameOf_header (i := 1) rfl)

theorem frameIndex_frameOf : frameIndex (frameOf cmd sel index payload) = index := bvField_of rfl (frameOf_header (i := 2) rfl)

theorem declaredLength_frameOf (h : payload.length < 65536) : declaredLength (frameOf cmd sel index payload) = payload.length :=
  (frameOf_header (i := 3) rfl).trans (Nat.mod_eq_of_lt h)

/-! ## A frame that names a command -/

theorem completeFrame_frameOf (h : payload.length < 65536) : completeFrame (frameOf cmd sel index payload) = true := by
  obtain ⟨c, hc⟩ := frameOf_eq cmd sel index payload
  have hlen := (headerFields_spans cmd sel index payload.length).length
  rw [completeFrame, decide_eq_true_iff, declaredLength_frameOf h, hc, List.length_append, List.length_append, List.length_singleton]
  omega

theorem byteSum_frameOf : byteSum (frameOf cmd sel index payload) = 0 := byteSum_checked _

/-- A frame of the length its command needs is a command of its own, where no amendment operation is unknown. -/
theorem requestOf_frameOf {levels : BitVec 12} (hn : neededLength cmd sel = some payload.length) (hl : payload.length ≤ 1024)
    (ha : unknownAmendment (frameOf cmd sel index payload) = false) :
    requestOf levels (frameOf cmd sel index payload) = commandOf levels (frameOf cmd sel index payload) := by
  have hlt : payload.length < 65536 := by omega
  have hbad : badReason (frameOf cmd sel index payload) = none := by
    unfold badReason
    rw [if_neg (not_not.2 byteSum_frameOf), declaredLength_frameOf hlt, if_neg (by omega), byteAt_frameOf_zero, byteAt_frameOf_one, hn]
    dsimp only
    rw [if_neg (not_not.2 rfl), ha]
    rfl
  rw [requestOf, if_pos (completeFrame_frameOf hlt), hbad]

theorem unknownAmendment_of_cmd (h : cmd ≠ 0x02) : unknownAmendment (frameOf cmd sel index payload) = false := by
  rw [unknownAmendment, byteAt_frameOf_zero, decide_eq_false h]; rfl

theorem unknownAmendment_of_sel (h : tableOf sel ≠ some .amendment) : unknownAmendment (frameOf cmd sel index payload) = false := by
  rw [unknownAmendment, byteAt_frameOf_one, decide_eq_false h, Bool.and_false]; rfl

theorem tableOf_code (t : TableSel) : tableOf t.code = some t := by cases t <;> rfl

end Sys2Proof.Machine
end

section
/-! A command's request bytes read back as the command (R189, R190). -/

namespace Sys2Proof.Machine

variable {cmd sel : Byte} {index : BitVec 16} {payload : List Byte} {levels : BitVec 12}

/-! ## The entries of a write as records -/

/-- The fields of a GLOBAL entry as it is written. -/
def globalEntryFields (e : GlobalEntry) : List Field :=
  [(0, 2, e.mask.toNat), (2, 2, e.lowMark.toNat), (4, 2, e.highMark.toNat), (6, 2, e.enables.toNat), (8, 2, e.plugs.toNat),
    (10, 2, e.divider.toNat), (12, 2, e.period.toNat), (14, 2, e.window.toNat)]

theorem GlobalEntry.isRecord (e : GlobalEntry) : IsRecord e.bytes 16 (globalEntryFields e) where
  bytes := by rw [fieldBytes_foldl]; rfl
  spans := ⟨rfl, rfl, rfl, rfl, rfl, rfl, rfl, rfl, rfl⟩

/-- The fields of a LANE_CONFIG entry as it is written. -/
def laneConfigEntryFields (e : LaneConfigEntry) : List Field :=
  [(0, 1, e.dataSource.toNat), (1, 1, e.markerSource.toNat), (2, 1, e.channels.toNat), (3, 1, e.detector.toNat),
    (4, 2, e.threshold.toNat), (6, 2, e.release.toNat), (8, 2, e.landmarkSpacing.toNat), (10, 2, e.tolerance.toNat),
    (12, 1, e.sampleSpacing.toNat), (13, 1, e.reservation.toNat), (14, 2, e.idle.toNat), (16, 2, e.drain.toNat),
    (18, 2, e.admission.toNat)]

theorem LaneConfigEntry.isRecord (e : LaneConfigEntry) : IsRecord e.bytes 20 (laneConfigEntryFields e) where
  bytes := by
    simp only [LaneConfigEntry.bytes, laneConfigEntryFields, fieldBytes, List.flatMap_cons, List.flatMap_nil, leBytes_byte,
      List.append_assoc, List.append_nil, List.cons_append, List.nil_append]
  spans := ⟨rfl, rfl, rfl, rfl, rfl, rfl, rfl, rfl, rfl, rfl, rfl, rfl, rfl, rfl⟩

/-- The fields of a TUBE entry as it is written. -/
def tubeEntryFields (e : TubeEntry) : List Field := [(0, 1, e.presence.toNat), (1, 1, e.plug.toNat), (2, 1, e.expected.toNat), (3, 19, 0)]

theorem TubeEntry.isRecord (e : TubeEntry) : IsRecord e.bytes 22 (tubeEntryFields e) where
  bytes := by
    simp only [TubeEntry.bytes, tubeEntryFields, fieldBytes, List.flatMap_cons, List.flatMap_nil, leBytes_byte, zeros_eq,
      List.append_nil, List.cons_append, List.nil_append]
  spans := ⟨rfl, rfl, rfl, rfl, rfl⟩

/-- The fields of a WINDOW entry as it is written. -/
def windowEntryFields (e : WindowEntry) : List Field :=
  [(0, 1, e.mode.toNat), (1, 1, e.row.toNat), (2, 1, e.column.toNat), (3, 1, (0 : Byte).toNat), (4, 2, e.take.toNat), (6, 2, 0),
    (8, 4, e.serial.toNat)]

theorem WindowEntry.isRecord (e : WindowEntry) : IsRecord e.bytes 12 (windowEntryFields e) where
  bytes := by
    simp only [WindowEntry.bytes, windowEntryFields, fieldBytes, List.flatMap_cons, List.flatMap_nil, leBytes_byte, zeros_eq,
      List.append_assoc, List.append_nil, List.cons_append, List.nil_append]
  spans := ⟨rfl, rfl, rfl, rfl, rfl, rfl, rfl, rfl⟩

/-- The fields of an AMENDMENT entry as it is written. -/
def amendmentEntryFields (op : Byte) (k : KeyEntry) (value : BitVec 64) : List Field :=
  [(0, 1, op.toNat), (1, 1, (0 : Byte).toNat), (2, 1, k.eighth.toNat), (3, 1, (0 : Byte).toNat), (4, 2, k.take.toNat), (6, 2, 0),
    (8, 4, k.unit.toNat), (12, 4, k.serial.toNat), (16, 8, value.toNat)]

theorem amendmentBytes_isRecord (op : Byte) (k : KeyEntry) (value : BitVec 64) :
    IsRecord (amendmentBytes op k value) 24 (amendmentEntryFields op k value) where
  bytes := by
    simp only [amendmentBytes, amendmentEntryFields, fieldBytes, List.flatMap_cons, List.flatMap_nil, leBytes_byte, zeros_eq,
      List.append_assoc, List.append_nil, List.cons_append, List.nil_append]
  spans := ⟨rfl, rfl, rfl, rfl, rfl, rfl, rfl, rfl, rfl, rfl⟩

/-- The fields of a WATCH entry as it is written. -/
def watchEntryFields (e : WatchEntry) : List Field :=
  [(0, 1, e.mode.toNat), (1, 1, e.dirFilter.toNat), (2, 1, e.sourceKind.toNat), (3, 1, e.source.toNat), (4, 1, e.actions.toNat),
    (5, 1, e.holdLane.toNat), (6, 1, e.clear.toNat), (7, 1, (0 : Byte).toNat), (8, 5, e.compare.toNat), (13, 3, 0), (16, 5, e.mask.toNat),
    (21, 19, 0)]

theorem WatchEntry.isRecord (e : WatchEntry) : IsRecord e.bytes 40 (watchEntryFields e) where
  bytes := by
    simp only [WatchEntry.bytes, watchEntryFields, fieldBytes, List.flatMap_cons, List.flatMap_nil, leBytes_byte, zeros_eq,
      List.append_assoc, List.append_nil, List.cons_append, List.nil_append]
  spans := ⟨rfl, rfl, rfl, rfl, rfl, rfl, rfl, rfl, rfl, rfl, rfl, rfl, rfl⟩

/-- The fields of a LINES entry as it is written. -/
def linesEntryFields (e : LinesEntry) : List Field := [(0, 1, e.direction.toNat), (1, 1, e.level.toNat), (2, 6, 0)]

theorem LinesEntry.isRecord (e : LinesEntry) : IsRecord e.bytes 8 (linesEntryFields e) where
  bytes := by
    simp only [LinesEntry.bytes, linesEntryFields, fieldBytes, List.flatMap_cons, List.flatMap_nil, leBytes_byte, zeros_eq,
      List.append_nil, List.cons_append, List.nil_append]
  spans := ⟨rfl, rfl, rfl, rfl⟩

/-! ## Payload fields of a frame, as words and bytes -/

/-- Field `i` of the payload, at byte `p` of the frame. -/
theorem word_frameOf {w len n : Nat} {fs : List Field} {x : BitVec w} (p i : Nat) (hr : IsRecord payload len fs)
    (h : fs[i]? = some (p - 6, n, x.toNat)) (hp : 6 ≤ p) (hw : 256 ^ n = 2 ^ w) : bvField w (frameOf cmd sel index payload) p n = x := by
  have := bvField_of hw (frameOf_payload (cmd := cmd) (sel := sel) (index := index) hr h)
  rwa [Nat.add_sub_cancel' hp] at this

theorem byte_frameOf {len : Nat} {fs : List Field} {b : Byte} (p i : Nat) (hr : IsRecord payload len fs)
    (h : fs[i]? = some (p - 6, 1, b.toNat)) (hp : 6 ≤ p) : byteAt (frameOf cmd sel index payload) p = b := by
  rw [byteAt_eq]; exact word_frameOf (w := 8) p i hr h hp rfl

/-! ## The entries read back -/

theorem layoutOf_frameOf (e : Layout) : layoutOf (frameOf cmd sel index e.bytes) = e := by
  have hr := Layout.isRecord e
  rw [layoutOf, word_frameOf 6 0 hr rfl (by decide) rfl, word_frameOf 11 1 hr rfl (by decide) rfl, word_frameOf 16 2 hr rfl (by decide) rfl,
    word_frameOf 21 3 hr rfl (by decide) rfl, word_frameOf 26 4 hr rfl (by decide) rfl]

theorem globalOf_frameOf (e : GlobalEntry) : globalOf (frameOf cmd sel index e.bytes) = e := by
  have hr := GlobalEntry.isRecord e
  rw [globalOf, word_frameOf 6 0 hr rfl (by decide) rfl, word_frameOf 8 1 hr rfl (by decide) rfl, word_frameOf 10 2 hr rfl (by decide) rfl,
    word_frameOf 12 3 hr rfl (by decide) rfl, word_frameOf 14 4 hr rfl (by decide) rfl, word_frameOf 16 5 hr rfl (by decide) rfl,
    word_frameOf 18 6 hr rfl (by decide) rfl, word_frameOf 20 7 hr rfl (by decide) rfl]

theorem laneConfigOf_frameOf (e : LaneConfigEntry) : laneConfigOf (frameOf cmd sel index e.bytes) = e := by
  have hr := LaneConfigEntry.isRecord e
  rw [laneConfigOf, byte_frameOf 6 0 hr rfl (by decide), byte_frameOf 7 1 hr rfl (by decide), byte_frameOf 8 2 hr rfl (by decide),
    byte_frameOf 9 3 hr rfl (by decide), word_frameOf 10 4 hr rfl (by decide) rfl, word_frameOf 12 5 hr rfl (by decide) rfl,
    word_frameOf 14 6 hr rfl (by decide) rfl, word_frameOf 16 7 hr rfl (by decide) rfl, byte_frameOf 18 8 hr rfl (by decide),
    byte_frameOf 19 9 hr rfl (by decide), word_frameOf 20 10 hr rfl (by decide) rfl, word_frameOf 22 11 hr rfl (by decide) rfl,
    word_frameOf 24 12 hr rfl (by decide) rfl]

theorem tubeEntryOf_frameOf (e : TubeEntry) : tubeEntryOf (frameOf cmd sel index e.bytes) = e := by
  have hr := TubeEntry.isRecord e
  rw [tubeEntryOf, byte_frameOf 6 0 hr rfl (by decide), byte_frameOf 7 1 hr rfl (by decide), byte_frameOf 8 2 hr rfl (by decide)]

theorem windowEntryOf_frameOf (e : WindowEntry) : windowEntryOf (frameOf cmd sel index e.bytes) = e := by
  have hr := WindowEntry.isRecord e
  rw [windowEntryOf, byte_frameOf 6 0 hr rfl (by decide), byte_frameOf 7 1 hr rfl (by decide), byte_frameOf 8 2 hr rfl (by decide),
    word_frameOf 10 4 hr rfl (by decide) rfl, word_frameOf 14 6 hr rfl (by decide) rfl]

theorem watchEntryOf_frameOf (e : WatchEntry) : watchEntryOf (frameOf cmd sel index e.bytes) = e := by
  have hr := WatchEntry.isRecord e
  rw [watchEntryOf, byte_frameOf 6 0 hr rfl (by decide), byte_frameOf 7 1 hr rfl (by decide), byte_frameOf 8 2 hr rfl (by decide),
    byte_frameOf 9 3 hr rfl (by decide), byte_frameOf 10 4 hr rfl (by decide), byte_frameOf 11 5 hr rfl (by decide),
    byte_frameOf 12 6 hr rfl (by decide), word_frameOf 14 8 hr rfl (by decide) rfl, word_frameOf 22 10 hr rfl (by decide) rfl]

theorem linesEntryOf_frameOf (e : LinesEntry) : linesEntryOf (frameOf cmd sel index e.bytes) = e := by
  have hr := LinesEntry.isRecord e
  rw [linesEntryOf, byte_frameOf 6 0 hr rfl (by decide), byte_frameOf 7 1 hr rfl (by decide)]

theorem keyOf_frameOf (op : Byte) (k : KeyEntry) (value : BitVec 64) : keyOf (frameOf cmd sel index (amendmentBytes op k value)) = k := by
  have hr := amendmentBytes_isRecord op k value
  rw [keyOf, byte_frameOf 8 2 hr rfl (by decide), word_frameOf 10 4 hr rfl (by decide) rfl, word_frameOf 14 6 hr rfl (by decide) rfl,
    word_frameOf 18 7 hr rfl (by decide) rfl]

theorem value_frameOf (op : Byte) (k : KeyEntry) (value : BitVec 64) :
    bvField 64 (frameOf cmd sel index (amendmentBytes op k value)) 22 8 = value :=
  word_frameOf 22 8 (amendmentBytes_isRecord op k value) rfl (by decide) rfl

theorem operation_frameOf (op : Byte) (k : KeyEntry) (value : BitVec 64) :
    byteAt (frameOf cmd sel index (amendmentBytes op k value)) 6 = op :=
  byte_frameOf 6 0 (amendmentBytes_isRecord op k value) rfl (by decide)

/-! ## The commands read back -/

theorem TableSel.entryLength_le (t : TableSel) : t.entryLength ≤ 1024 := by cases t <;> decide

theorem neededLength_write (t : TableSel) : neededLength 0x02 t.code = some t.entryLength := by cases t <;> rfl

theorem commandOf_write (t : TableSel) : commandOf levels (writeFrame t index payload) = some (writeOf (writeFrame t index payload) t) := by
  unfold commandOf writeFrame
  rw [byteAt_frameOf_zero, byteAt_frameOf_one, tableOf_code]
  rfl

/-- A WRITE_ENTRY with a payload of its table's length is the write of that table. -/
theorem requestOf_write {t : TableSel} {c : Instr} (hl : payload.length = t.entryLength) (ht : t ≠ .amendment)
    (hc : writeOf (writeFrame t index payload) t = c) : requestOf levels (writeFrame t index payload) = some c := by
  have hle := TableSel.entryLength_le t
  rw [← hc, ← commandOf_write (levels := levels)]
  refine requestOf_frameOf (by rw [hl]; exact neededLength_write t) (by omega) (unknownAmendment_of_sel ?_)
  rw [tableOf_code]
  exact fun e => ht (Option.some.inj e)

/-- An amendment write of one of the four operations. -/
theorem requestOf_amendment {op : Byte} {k : KeyEntry} {value : BitVec 64} {c : Instr} (hop : 1 ≤ op.toNat ∧ op.toNat ≤ 4)
    (hc : amendmentOf (writeFrame .amendment index (amendmentBytes op k value)) = c) :
    requestOf levels (writeFrame .amendment index (amendmentBytes op k value)) = some c := by
  have hl : (amendmentBytes op k value).length = TableSel.amendment.entryLength := (amendmentBytes_isRecord op k value).length
  rw [← hc]
  refine (requestOf_frameOf (by rw [hl]; rfl) (by rw [hl]; decide) ?_).trans (commandOf_write .amendment)
  rw [unknownAmendment, operation_frameOf, decide_eq_true hop.1, decide_eq_true hop.2]
  simp

/-- A request with no table and no operation: its command's length, and its command. -/
theorem requestOf_plain {c : Instr} (h2 : cmd ≠ 0x02) (hn : neededLength cmd sel = some payload.length) (hl : payload.length ≤ 1024)
    (hc : commandOf levels (frameOf cmd sel index payload) = some c) : requestOf levels (frameOf cmd sel index payload) = some c :=
  (requestOf_frameOf hn hl (unknownAmendment_of_cmd h2)).trans hc

theorem amendmentOf_key (index : BitVec 16) (k : KeyEntry) :
    amendmentOf (writeFrame .amendment index (amendmentBytes 1 k 0)) = .writeKey index k := by
  unfold amendmentOf writeFrame
  rw [operation_frameOf, frameIndex_frameOf, keyOf_frameOf]
  rfl

theorem amendmentOf_value (index : BitVec 16) (value : BitVec 64) :
    amendmentOf (writeFrame .amendment index (amendmentBytes 2 zeroKey value)) = .writeValue index value := by
  unfold amendmentOf writeFrame
  rw [operation_frameOf, frameIndex_frameOf, value_frameOf]
  rfl

theorem amendmentOf_both (index : BitVec 16) (k : KeyEntry) (value : BitVec 64) :
    amendmentOf (writeFrame .amendment index (amendmentBytes 3 k value)) = .writeBoth index k value := by
  unfold amendmentOf writeFrame
  rw [operation_frameOf, frameIndex_frameOf, keyOf_frameOf, value_frameOf]
  rfl

theorem amendmentOf_disable (index : BitVec 16) :
    amendmentOf (writeFrame .amendment index (amendmentBytes 4 zeroKey 0)) = .disable index := by
  unfold amendmentOf writeFrame
  rw [operation_frameOf, frameIndex_frameOf]
  rfl

theorem commandOf_read (t : TableSel) : commandOf levels (frameOf 0x01 t.code index payload) = some (.readEntry t index levels) := by
  rw [commandOf, byteAt_frameOf_zero, byteAt_frameOf_one, frameIndex_frameOf, tableOf_code]
  rfl

theorem loadMap_isRecord (base : Addr) (first count : BitVec 16) :
    IsRecord (leBytes 5 base.toNat ++ leBytes 2 first.toNat ++ leBytes 2 count.toNat) 9
      [(0, 5, base.toNat), (5, 2, first.toNat), (7, 2, count.toNat)] where
  bytes := by rw [fieldBytes_foldl]; rfl
  spans := ⟨rfl, rfl, rfl, rfl⟩

theorem serial_isRecord (serial : BitVec 32) : IsRecord (leBytes 4 serial.toNat) 4 [(0, 4, serial.toNat)] where
  bytes := by rw [fieldBytes_foldl]; rfl
  spans := ⟨rfl, rfl⟩

/-- Settles O11, command by command. -/
theorem requestBytesReadBack : Obligations.RequestBytesReadBack := by
  intro levels c hr hw
  cases c with
  | badRequest frame =>
    obtain ⟨hcomplete, hbad⟩ := Bool.and_eq_true_iff.1 hw
    obtain ⟨e, he⟩ := Option.isSome_iff_exists.1 hbad
    simp only [requestBytes, requestOf, hcomplete, he, if_true]
  | writeEntryLayout index e =>
    exact requestOf_write (Layout.isRecord e).length nofun (congr (congrArg _ frameIndex_frameOf) (layoutOf_frameOf e))
  | writeEntryGlobal index e =>
    exact requestOf_write (GlobalEntry.isRecord e).length nofun (congr (congrArg _ frameIndex_frameOf) (globalOf_frameOf e))
  | writeEntryLaneConfig index e =>
    exact requestOf_write (LaneConfigEntry.isRecord e).length nofun (congr (congrArg _ frameIndex_frameOf) (laneConfigOf_frameOf e))
  | writeEntryTube index e =>
    exact requestOf_write (TubeEntry.isRecord e).length nofun (congr (congrArg _ frameIndex_frameOf) (tubeEntryOf_frameOf e))
  | writeEntryWindow index e =>
    exact requestOf_write (WindowEntry.isRecord e).length nofun (congr (congrArg _ frameIndex_frameOf) (windowEntryOf_frameOf e))
  | writeEntryWatch index e =>
    exact requestOf_write (WatchEntry.isRecord e).length nofun (congr (congrArg _ frameIndex_frameOf) (watchEntryOf_frameOf e))
  | writeEntryLines index e =>
    exact requestOf_write (LinesEntry.isRecord e).length nofun (congr (congrArg _ frameIndex_frameOf) (linesEntryOf_frameOf e))
  | writeEntryReadOnly table index =>
    refine requestOf_write List.length_replicate (by cases table <;> nofun) ?_
    cases table <;> exact congrArg _ frameIndex_frameOf
  | writeKey index k => exact requestOf_amendment (by decide) (amendmentOf_key _ _)
  | writeValue index value => exact requestOf_amendment (by decide) (amendmentOf_value _ _)
  | writeBoth index k value => exact requestOf_amendment (by decide) (amendmentOf_both _ _ _)
  | disable index => exact requestOf_amendment (by decide) (amendmentOf_disable _)
  | readEntry t index levels' =>
    exact requestOf_plain (by decide) (by cases t <;> rfl) (by decide) (commandOf_read t)
  | loadMap base first count =>
    have hr := loadMap_isRecord base first count
    refine requestOf_plain (by decide) (by rw [hr.length]; rfl) (by rw [hr.length]; decide) ?_
    rw [commandOf, byteAt_frameOf_zero, word_frameOf 6 0 hr rfl (by decide) rfl, word_frameOf 11 1 hr rfl (by decide) rfl,
      word_frameOf 13 2 hr rfl (by decide) rfl]
    rfl
  | engage => exact requestOf_plain (by decide) rfl (by decide) (by rw [commandOf, byteAt_frameOf_zero]; rfl)
  | bypass => exact requestOf_plain (by decide) rfl (by decide) (by rw [commandOf, byteAt_frameOf_zero]; rfl)
  | abortLoad => exact requestOf_plain (by decide) rfl (by decide) (by rw [commandOf, byteAt_frameOf_zero]; rfl)
  | lockCampaign => exact requestOf_plain (by decide) rfl (by decide) (by rw [commandOf, byteAt_frameOf_zero]; rfl)
  | clearAttention => exact requestOf_plain (by decide) rfl (by decide) (by rw [commandOf, byteAt_frameOf_zero]; rfl)
  | enableLane index => exact requestOf_plain (by decide) rfl (by decide) (by rw [commandOf, byteAt_frameOf_zero, frameIndex_frameOf]; rfl)
  | disableLane index => exact requestOf_plain (by decide) rfl (by decide) (by rw [commandOf, byteAt_frameOf_zero, frameIndex_frameOf]; rfl)
  | clearHold index => exact requestOf_plain (by decide) rfl (by decide) (by rw [commandOf, byteAt_frameOf_zero, frameIndex_frameOf]; rfl)
  | acceptTake index serial =>
    have hr := serial_isRecord serial
    refine requestOf_plain (by decide) (by rw [hr.length]; rfl) (by rw [hr.length]; decide) ?_
    rw [commandOf, byteAt_frameOf_zero, frameIndex_frameOf, word_frameOf 6 0 hr rfl (by decide) rfl]
    rfl
  | rejectTake index serial =>
    have hr := serial_isRecord serial
    refine requestOf_plain (by decide) (by rw [hr.length]; rfl) (by rw [hr.length]; decide) ?_
    rw [commandOf, byteAt_frameOf_zero, frameIndex_frameOf, word_frameOf 6 0 hr rfl (by decide) rfl]
    rfl
  | releaseTake index serial =>
    have hr := serial_isRecord serial
    refine requestOf_plain (by decide) (by rw [hr.length]; rfl) (by rw [hr.length]; decide) ?_
    rw [commandOf, byteAt_frameOf_zero, frameIndex_frameOf, word_frameOf 6 0 hr rfl (by decide) rfl]
    rfl
  | _ => cases hr

end Sys2Proof.Machine
end

section
/-! The Block Parser (R98–R106, R113): what a header and a block's unit make of the parser, the take and the detector. -/

namespace Sys2Proof.Machine

variable {cfg : LaneConfig} {w r x : Work} {b : Block} {bs : List Byte} {u : Nat}

/-! ## Examining samples -/

/-- Only the detector and the landmarks differ. -/
structure Examined (w r : Work) : Prop where
  track : r.track = { w.track with detector := r.track.detector, lastLandmark := r.track.lastLandmark }
  take : r.take = { w.take with landmarks := r.take.landmarks, landmarkList := r.take.landmarkList }

theorem Examined.trans (h : Examined w r) (h' : Examined r x) : Examined w x := by
  refine ⟨?_, ?_⟩
  · rw [h'.track, h.track]
  · rw [h'.take, h.take]

theorem SameLandmarks.trans (h : SameLandmarks w r) (h' : SameLandmarks r x) : SameLandmarks w x :=
  ⟨h.detector.trans h'.detector, h.lastLandmark.trans h'.lastLandmark, h.landmarks.trans h'.landmarks, h.landmarkList.trans h'.landmarkList⟩

theorem Work.detect_examined (w : Work) (cfg : LaneConfig) (mag : Nat) (p : Int) : Examined w (w.detect cfg mag p) := by
  unfold Work.detect
  split
  · split
    · by_cases hf : w.track.farEnough cfg p = true
      · simp only [hf, if_true]; exact ⟨rfl, rfl⟩
      · simp only [hf, Bool.false_eq_true, if_false]; exact ⟨rfl, rfl⟩
    · exact ⟨rfl, rfl⟩
  · split <;> exact ⟨rfl, rfl⟩

theorem examined_examined (cfg : LaneConfig) (w : Work) (b : Block) (u : Nat) (bs : List Byte) : Examined w (examined cfg w b u bs) := by
  unfold examined
  generalize samplesIn cfg b u = is
  induction is generalizing w with
  | nil => exact ⟨rfl, rfl⟩
  | cons i is ih => exact (w.detect_examined cfg _ _).trans (ih _)

/-- The detector and the landmarks come from the detector and the landmarks alone. -/
theorem SameLandmarks.detect (h : SameLandmarks w r) (cfg : LaneConfig) (mag : Nat) (p : Int) :
    SameLandmarks (w.detect cfg mag p) (r.detect cfg mag p) := by
  obtain ⟨hd, hl, hn, hlist⟩ := h
  have hfar : w.track.farEnough cfg p = r.track.farEnough cfg p := by simp only [Track.farEnough, hl]
  unfold Work.detect
  rw [hd, hfar]
  cases r.track.detector with
  | below =>
    dsimp only
    split
    · cases r.track.farEnough cfg p with
      | true => exact ⟨rfl, rfl, congrArg (satAdd 65535 · 1) hn, by simp only [if_true, Work.landmark, hlist]⟩
      | false => exact ⟨rfl, hl, hn, hlist⟩
    · exact ⟨hd, hl, hn, hlist⟩
  | above =>
    dsimp only
    split
    · exact ⟨rfl, hl, hn, hlist⟩
    · exact ⟨hd, hl, hn, hlist⟩

theorem SameLandmarks.examined (h : SameLandmarks w r) (cfg : LaneConfig) (b : Block) (u : Nat) (bs : List Byte) :
    SameLandmarks (examined cfg w b u bs) (examined cfg r b u bs) := by
  unfold Machine.examined
  generalize samplesIn cfg b u = is
  induction is generalizing w r with
  | nil => exact h
  | cons i is ih => exact ih (h.detect cfg _ _)

/-- A sample of the unit is read at its place in the unit. -/
theorem Work.examine_eq (w : Work) (cfg : LaneConfig) (b : Block) (u : Nat) (bs : List Byte) :
    w.examine cfg b u bs = (examined cfg w b u bs, { b with nextSample := nextSampleAfter cfg b u }) := by
  have hplace : ∀ i ∈ samplesIn cfg b u, pairByte cfg i % 64 = pairAt cfg i - 64 * u := fun i hi => by
    have h := (pairByte_div_eq_iff cfg i u).2 ((mem_samplesIn cfg b u i).1 hi).2.2
    have hp : pairByte cfg i = pairAt cfg i := rfl
    omega
  have hfold : (samplesIn cfg b u).foldl (fun w i => w.detect cfg (magnitude bs (pairByte cfg i % 64)) (samplePosition b i)) w =
      examined cfg w b u bs := List.foldl_ext _ _ _ fun x i hi => by rw [hplace i hi]
  unfold Work.examine
  dsimp only
  rw [hfold]
  rfl

/-! ## A unit of a block -/

theorem Work.takeUnit_inBlock (h : w.track.parser = .inBlock b) : w.takeUnit cfg bs =
    (examined cfg w b (blockUnits b.count cfg.channels - b.remaining) bs).finish
      { b with
        nextSample := nextSampleAfter cfg b (blockUnits b.count cfg.channels - b.remaining), remaining := b.remaining - 1 } := by
  unfold Work.takeUnit
  rw [h]
  dsimp only
  rw [Work.examine_eq]

/-- What finishing a unit of a block makes of the work. -/
structure Finished (w : Work) (b : Block) (r : Work × Option (BitVec 16)) : Prop where
  track : r.1.track = { w.track with parser := if b.remaining = 0 then .atHeader else .inBlock b }
  take : r.1.take = { w.take with
    blocks := if b.remaining = 0 then min 65535 (w.take.blocks + 1) else w.take.blocks
    samples := if b.remaining = 0 then min (2 ^ 32 - 1) (w.take.samples + b.count) else w.take.samples }
  reported : r.2 = if b.remaining = 0 then some b.seq else none

theorem Work.finish_finished (w : Work) (b : Block) : Finished w b (w.finish b) := by
  unfold Work.finish
  split
  next h => exact ⟨by rw [if_pos h], by rw [if_pos h, if_pos h]; rfl, (if_pos h).symm⟩
  next h => exact ⟨by rw [if_neg h], by rw [if_neg h, if_neg h], (if_neg h).symm⟩

/-! ## A header -/

theorem headerOf_valid_iff (bs : List Byte) (c : Nat) : (headerOf bs).valid c = true ↔ headerValid bs c := by
  simp only [Header.valid, headerValid, Bool.and_eq_true, decide_eq_true_eq, and_assoc]
  rfl

theorem against_eq (d : Direction) (tolerance : Nat) (p q : Int) : against d tolerance p q = movesBack d tolerance p q := by
  cases d <;> rfl

theorem Flags.addIf_eq (f : Flags) (c : Bool) (g : Flag) : Flags.addIf f c g = f ||| if c then g.set else 0 := by
  cases c with
  | true => rfl
  | false => exact (BitVec.or_zero).symm

/-- What a header's fields make of the work (R102–R106), before its samples are examined. -/
def headed (cfg : LaneConfig) (w : Work) (bs : List Byte) : Work :=
  ((w.accountSeq (headerOf bs).seq).addHeaderFlags cfg (headerOf bs)).axialRecord (headerOf bs)

/-- The number of missing sequences once sequence `q` is accounted (R102). -/
def missingAfter (w : Work) (q : BitVec 16) : Nat :=
  match w.track.expected with
  | some e => if q = e then w.take.missing else min 65535 (w.take.missing + (q - e).toNat)
  | none => w.take.missing

/-- The flag that accounting sequence `q` adds (R102). -/
def seqAdds (w : Work) (q : BitVec 16) : Flags :=
  match w.track.expected with
  | some e => if q = e then 0 else Flag.seq.set
  | none => 0

theorem Flags.or_zero (f : Flags) : f ||| 0 = f := BitVec.or_zero

theorem Work.accountSeq_eq (w : Work) (q : BitVec 16) : w.accountSeq q =
    { track := { w.track with expected := some (q + 1) }
      take := { w.take with flags := w.take.flags ||| seqAdds w q, missing := missingAfter w q } } := by
  unfold Work.accountSeq seqAdds missingAfter
  cases w.track.expected with
  | none => dsimp only; rw [Flags.or_zero]
  | some e =>
    dsimp only
    split
    · rw [Flags.or_zero]
    · rfl

theorem reversed_eq (w : Work) (tolerance : Nat) (bs : List Byte) :
    reversed w.track w.take.direction tolerance (headerOf bs) =
      ((w.track.prevAxial.any fun p => movesBack w.take.direction tolerance p (headerFirst bs)) ||
        movesBack w.take.direction tolerance (headerFirst bs) (headerLast bs)) := by
  unfold reversed
  rw [against_eq]
  cases w.track.prevAxial with
  | none => rfl
  | some p => dsimp only; rw [against_eq]; rfl

theorem headerAdds_eq (cfg : LaneConfig) (w : Work) (bs : List Byte) : headerAdds cfg w bs =
    seqAdds w (headerOf bs).seq ||| (if (headerOf bs).saturated then Flag.saturation.set else 0) |||
      (if reversed w.track w.take.direction cfg.tolerance (headerOf bs) then Flag.reversal.set else 0) |||
      (if undersampled cfg.sampleSpacing (headerOf bs) then Flag.undersampled.set else 0) := by
  have hunder : (if undersampled cfg.sampleSpacing (headerOf bs) then Flag.undersampled.set else 0 : Flags) =
      if 2 ≤ leField bs 4 2 ∧ cfg.sampleSpacing * (leField bs 4 2 - 1) < (headerLast bs - headerFirst bs).natAbs then
        Flag.undersampled.set else 0 := by
    unfold undersampled
    simp only [Bool.and_eq_true, decide_eq_true_eq]
    rfl
  rw [reversed_eq, hunder]
  rfl

theorem headed_eq (cfg : LaneConfig) (w : Work) (bs : List Byte) : headed cfg w bs =
    { track := { w.track with expected := some ((headerOf bs).seq + 1), prevAxial := some (headerLast bs) }
      take := { w.take with
        flags := w.take.flags ||| headerAdds cfg w bs, missing := missingAfter w (headerOf bs).seq
        axialFirst := some (w.take.axialFirst.getD (headerFirst bs)), axialLast := some (headerLast bs) } } := by
  have hflags (f g : Flags) : headerFlags { w.track with expected := some ((headerOf bs).seq + 1) } w.take.direction cfg (headerOf bs) (f ||| g) =
      f ||| (g ||| (if (headerOf bs).saturated then Flag.saturation.set else 0) |||
        (if reversed w.track w.take.direction cfg.tolerance (headerOf bs) then Flag.reversal.set else 0) |||
        (if undersampled cfg.sampleSpacing (headerOf bs) then Flag.undersampled.set else 0)) := by
    unfold headerFlags
    rw [Flags.addIf_eq, Flags.addIf_eq, Flags.addIf_eq, BitVec.or_assoc, BitVec.or_assoc, BitVec.or_assoc, BitVec.or_assoc, BitVec.or_assoc]
    rfl
  unfold headed
  rw [Work.accountSeq_eq, headerAdds_eq, ← hflags]
  rfl

/-! ## The parser -/

theorem Work.takeUnit_header (h : headerValid bs cfg.channels) (hp : w.track.parser = .atHeader ∨ w.track.parser = .hunt) :
    w.takeUnit cfg bs = w.acceptHeader cfg (headerOf bs) bs := by
  have hv := (headerOf_valid_iff bs cfg.channels).2 h
  unfold Work.takeUnit
  obtain hp | hp := hp <;> rw [hp] <;> exact if_pos hv

theorem Work.takeUnit_badHeader (h : ¬headerValid bs cfg.channels) (hp : w.track.parser = .atHeader) : w.takeUnit cfg bs =
    ({ track := { w.track with parser := .hunt }, take := { w.take with flags := w.take.flags ||| Flag.form.set } }, none) := by
  unfold Work.takeUnit
  rw [hp]
  exact if_neg (mt (headerOf_valid_iff bs cfg.channels).1 h)

theorem Work.takeUnit_hunting (h : ¬headerValid bs cfg.channels) (hp : w.track.parser = .hunt) : w.takeUnit cfg bs = (w, none) := by
  unfold Work.takeUnit
  rw [hp]
  exact if_neg (mt (headerOf_valid_iff bs cfg.channels).1 h)

/-- The block that a header begins. -/
def beginBlock (cfg : LaneConfig) (bs : List Byte) : Block :=
  { seq := (headerOf bs).seq, count := leField bs 4 2, first := headerFirst bs, last := headerLast bs
    remaining := blockUnits (leField bs 4 2) cfg.channels - 1, nextSample := 0 }

theorem Work.acceptHeader_eq (w : Work) (cfg : LaneConfig) (bs : List Byte) : w.acceptHeader cfg (headerOf bs) bs =
    (examined cfg (headed cfg w bs) (beginBlock cfg bs) 0 bs).finish
      { beginBlock cfg bs with nextSample := nextSampleAfter cfg (beginBlock cfg bs) 0 } := by
  unfold Work.acceptHeader
  dsimp only
  rw [Work.examine_eq]
  rfl

theorem Finished.sameLandmarks {f : Work × Option (BitVec 16)} (h : Finished w b f) : SameLandmarks f.1 w :=
  ⟨by rw [h.track], by rw [h.track], by rw [h.take], by rw [h.take]⟩

/-- Settles O49: a bad header, a valid one, and a block's unit. -/
theorem parserTakesUnitsAndCompletesBlocks : Obligations.ParserTakesUnitsAndCompletesBlocks := by
  rintro cfg w bs _ rfl
  refine ⟨Work.takeUnit_badHeader, Work.takeUnit_hunting, ?_, fun b hp => ?_⟩
  · rintro q size units hv hp rfl rfl rfl
    have hfin := (examined cfg (headed cfg w bs) (beginBlock cfg bs) 0 bs).finish_finished
      { beginBlock cfg bs with nextSample := nextSampleAfter cfg (beginBlock cfg bs) 0 }
    rw [← Work.acceptHeader_eq, ← Work.takeUnit_header hv hp] at hfin
    have hex := examined_examined cfg (headed cfg w bs) (beginBlock cfg bs) 0 bs
    have hhead := headed_eq cfg w bs
    have hsame : SameLandmarks (headed cfg w bs) w := by rw [hhead]; exact ⟨rfl, rfl, rfl, rfl⟩
    have hmarks := hfin.sameLandmarks.trans (hsame.examined cfg (beginBlock cfg bs) 0 bs)
    have hdone {α : Type} (p q : α) : (if (beginBlock cfg bs).remaining = 0 then p else q) =
        if (16 + leField bs 4 2 * cfg.channels * 4 + 63) / 64 = 1 then p else q := by
      have hunits : (beginBlock cfg bs).remaining = (16 + leField bs 4 2 * cfg.channels * 4 + 63) / 64 - 1 := rfl
      congr 1
      rw [hunits]
      exact propext (by omega)
    obtain ⟨htrack, htake, hreport⟩ := hfin
    rw [hdone] at htrack hreport
    rw [hdone, hdone] at htake
    generalize examined cfg (headed cfg w bs) (beginBlock cfg bs) 0 bs = x at hex htrack htake
    generalize headed cfg w bs = y at hex hhead
    generalize w.takeUnit cfg bs = f at htrack htake hreport hmarks
    refine ⟨f.1, { beginBlock cfg bs with nextSample := nextSampleAfter cfg (beginBlock cfg bs) 0 }, rfl, rfl, hmarks, ?_, ?_, ?_, hreport⟩
    · rw [htrack, hex.track, hhead]
      rfl
    · rw [htake, hex.take, hhead]
      rfl
    · rw [htrack]
  · have hex := examined_examined cfg w b (blockUnits b.count cfg.channels - b.remaining) bs
    have hfin := (examined cfg w b (blockUnits b.count cfg.channels - b.remaining) bs).finish_finished
      { b with nextSample := nextSampleAfter cfg b (blockUnits b.count cfg.channels - b.remaining), remaining := b.remaining - 1 }
    rw [← Work.takeUnit_inBlock hp] at hfin
    have hmarks := hfin.sameLandmarks
    have hdone {α : Type} (p q : α) : (if b.remaining - 1 = 0 then p else q) = if b.remaining ≤ 1 then p else q := by
      simp only [Nat.sub_eq_zero_iff_le]
    obtain ⟨htrack, htake, hreport⟩ := hfin
    rw [hdone] at htrack hreport
    rw [hdone, hdone] at htake
    refine ⟨_, _, rfl, rfl, hmarks, ?_, ?_, hreport⟩
    · rw [htrack, hex.track]
      rfl
    · rw [htake, hex.take]

end Sys2Proof.Machine
end
